-- ==== Sys2Proof/Word.lean ====
section
/-! DEFINITION. The one machine word of the part: a byte of the host line (R168). Every other quantity of the spec is a count with a unit, held as Nat or Int. -/

namespace Sys2Proof

/-- A byte of the host line. -/
abbrev Byte := BitVec 8

end Sys2Proof
end

