-- ==== Sys2Proof/Config.lean ====
section
/-! DEFINITION. What is fixed at the factory: the rating table of R180, and the figures the spec names without giving a value. -/

namespace Sys2Proof.Config

/-- Rated current of a string, A (R180). -/
def iRated : Nat := 480
/-- Linear loss coefficient, 0.01 W/A (R46). -/
def c1 : Nat := 250
/-- Quadratic loss coefficient, 0.001 W/A² (R46). -/
def c2 : Nat := 120
/-- Junction-to-coolant resistance, 0.0001 K/W (R46). -/
def rth : Nat := 20
/-- Nominal line voltage, V (R180). -/
def uNom : Nat := 3300
/-- Nominal DC-link voltage, V (R180). -/
def uDcNom : Nat := 5400
/-- Largest active power, kW (R180). -/
def pMax : Nat := 15000
/-- Largest reactive power, kvar (R180). -/
def qMax : Nat := 7000
/-- Auxiliary transformer, kW (R180). -/
def auxTransformer : Nat := 400
/-- Battery discharge limit, kW (R180). -/
def batteryLimit : Nat := 90
/-- Battery capacity, kJ (R180). -/
def batteryCapacity : Nat := 648000
/-- Floor current of the derate line, A (R46). -/
def iFloor : Nat := iRated / 4

/-! The identification figures of Identify (R180): the spec names them and gives no value. Nothing in Lean can evaluate them. Log 9. -/

/-- Part identifier of the VB-N6. -/
opaque partIdentifier : BitVec 32
/-- Hardware revision number. -/
opaque hardwareRevision : BitVec 16
/-- Firmware revision number. -/
opaque firmwareRevision : BitVec 16
/-- Unit serial number. -/
opaque serialNumber : BitVec 32
/-- Rating table identifier, 4 bytes (R180). -/
opaque tableIdentifier : BitVec 32

/-- What a yes/no or on/off byte other than 0 and 1 stands for, in the requests whose rule names no refusal for it
(R14, R30, R78): the spec states no meaning, so it is left open. Log 10. -/
opaque oddFlag : Byte → Bool

end Sys2Proof.Config
end

