-- ==== Sys2Proof/Syntax.lean ====
section
/-! DEFINITION. The commands of the part: the 97 rows of spec/opcode_table.json, one constructor each, and the small types of their operands. -/

namespace Sys2Proof

/-- A converter string, S1 to S6 (R1). -/
inductive StringId where
  | s1 | s2 | s3 | s4 | s5 | s6
  deriving DecidableEq, Repr

/-- A liquid cooling loop (R62). -/
inductive Liquid where
  | l1 | l2
  deriving DecidableEq, Repr

/-- A cooling loop: L1 and L2 liquid, L3 nacelle air (R62). -/
inductive LoopId where
  | l1 | l2 | l3
  deriving DecidableEq, Repr

/-- A fan channel of a loop, numbered from 0 for F1 (R63). -/
inductive FanId where
  | l1 (c : Fin 4) | l2 (c : Fin 4) | l3 (c : Fin 3)
  deriving DecidableEq, Repr

/-- A direction of yaw: clockwise increases the twist position (R108). -/
inductive Dir where
  | cw | ccw
  deriving DecidableEq, Repr

/-- A position of the service key (R143). -/
inductive KeyPos where
  | remotePos | localPos | lockoutPos
  deriving DecidableEq, Repr

/-- A proof input of the brake hydraulics (R107). -/
inductive BrakeProof where
  | residual | full
  deriving DecidableEq, Repr

/-- A vane input: a reading, or what the input marks as open or shorted (R101). -/
inductive Reading where
  | value (x : Int) | bad
  deriving DecidableEq, Repr

/-- What the encoder reports: a single-turn angle, or that its reading is invalid (R123). -/
inductive EncoderReading where
  | angle (a : Fin 3600) | invalid
  deriving DecidableEq, Repr

/-- The commands. A request command is the arrival of a well-formed frame of its kind with the TAG and BODY given (log 3);
the six rows of YawCommand carry the body that follows the command byte. -/
inductive Instr where
  /-- COLD_START (R150). Start-up from power-on: every block takes its cold-start values, the stored image and retained domain are checked, and the first grid sample sets the grid state, mode and source. -/
  | coldStart (u : Nat)
  /-- WARM_RESTART (R149). The restart that begins when the Restart reply has left the line, or at a link break: each block takes its warm-restart values and keeps what its chapter keeps. -/
  | warmRestart (u : Nat)
  /-- PING (R177). Ping request: replies OK with the bad-frame and overrun counters and echoes the body. -/
  | ping (tag : Byte) (body : List Byte)
  /-- IDENTIFY (R180). Identify request: returns the part identifier, revisions, serial number, rating table and the clock. -/
  | identify (tag : Byte) (body : List Byte)
  /-- GET_STATUS (R148). GetStatus request: returns the status items with their change marks and clears all marks when the reply is queued. -/
  | getStatus (tag : Byte) (body : List Byte)
  /-- SET_TIME (R185). SetTime request: sets the nacelle clock unless the value is all ones, and replies with the clock before and after. -/
  | setTime (tag : Byte) (body : List Byte)
  /-- RESTART (R149). Restart request: refused while not owner or while a store is in flight, otherwise queues OK and stops serving requests until the warm restart. -/
  | restart (tag : Byte) (body : List Byte)
  /-- ENABLE_SUPERVISION (R146). EnableSupervision request: clamps and writes the interval, sets the enabled mark and loads the silence timer. -/
  | enableSupervision (tag : Byte) (body : List Byte)
  /-- SET_MODE (R137). SetMode request: checked in order of refusals, then starts or replaces a mode transition under the pair table of R138. -/
  | setMode (tag : Byte) (body : List Byte)
  /-- CLAIM_CONTROL (R143). ClaimControl request: makes a Pending-Remote owner Remote, otherwise refused REFUSED_STATE. -/
  | claimControl (tag : Byte) (body : List Byte)
  /-- SET_POWER (R15). SetPower request: replaces the power request record with clamped P_req, Q_req, ramp_P and ramp_Q. -/
  | setPower (tag : Byte) (body : List Byte)
  /-- SET_STRING_ENABLE (R14). SetStringEnable request: turns a string off (toward Isolated) or on (Isolated to Offline) and applies the precharge claim rule. -/
  | setStringEnable (tag : Byte) (body : List Byte)
  /-- GET_CONVERTER (R24). GetConverter request: returns the string records, precharge queue and grant, power request, granted power and dip list length. -/
  | getConverter (tag : Byte) (body : List Byte)
  /-- SET_RIDE_THROUGH (R36). SetRideThrough request: validates, clamps and replaces the ride-through curve in the working settings. -/
  | setRideThrough (tag : Byte) (body : List Byte)
  /-- ARM_GRID_MONITOR (R30). ArmGridMonitor request: arms or disarms a voltage monitor, writes level and filter count and judges the latest u for beyond without an event. -/
  | armGridMonitor (tag : Byte) (body : List Byte)
  /-- GET_GRID (R43). GetGrid request: returns voltage, grid state and timing, monitor records, the curve and the dip list. -/
  | getGrid (tag : Byte) (body : List Byte)
  /-- SET_COOLING (R78). SetCooling request: writes a loop's duty pump and setpoint and optionally returns its failed fan channels. -/
  | setCooling (tag : Byte) (body : List Byte)
  /-- GET_COOLING (R79). GetCooling request: returns loop records, fan channels, heater record and the thermal model state. -/
  | getCooling (tag : Byte) (body : List Byte)
  /-- SET_AUX_RESERVES (R95). SetAuxReserves request: writes both reserves, recomputes the dispatchable and runs the walk. -/
  | setAuxReserves (tag : Byte) (body : List Byte)
  /-- GET_BUDGET (R98). GetBudget request: returns the capacity record, battery energy and marks, and all ten claims. -/
  | getBudget (tag : Byte) (body : List Byte)
  /-- SET_HOIST (R96). SetHoist request: submits or withdraws the service hoist claim, runs the walk and replies with the hoist grant and spare. -/
  | setHoist (tag : Byte) (body : List Byte)
  /-- SET_YAW_POLICY (R120). SetYawPolicy request: replaces start_long, start_short, stop and primary vane after clamping and conflict checks. -/
  | setYawPolicy (tag : Byte) (body : List Byte)
  /-- YAW_COMMAND_JOG_CW (R118). YawCommand JogCW: sets the manual mark and starts or extends a clockwise manual jog with a 10 s manual timer. -/
  | yawCommandJogCw (tag : Byte) (rest : List Byte)
  /-- YAW_COMMAND_JOG_CCW (R118). YawCommand JogCCW: sets the manual mark and starts or extends a counter-clockwise manual jog with a 10 s manual timer. -/
  | yawCommandJogCcw (tag : Byte) (rest : List Byte)
  /-- YAW_COMMAND_GOTO (R118). YawCommand GoTo: sets the manual mark and the target, and submits the yaw claim toward the target. -/
  | yawCommandGoto (tag : Byte) (rest : List Byte)
  /-- YAW_COMMAND_STOP (R118). YawCommand Stop: sets the manual mark and gives a move in flight a normal stop or withdraws a waiting claim. -/
  | yawCommandStop (tag : Byte) (rest : List Byte)
  /-- YAW_COMMAND_AUTO (R118). YawCommand Auto: clears the manual mark, rejudges the yaw mode and stops a manual move in flight. -/
  | yawCommandAuto (tag : Byte) (rest : List Byte)
  /-- YAW_COMMAND_UNTWIST (R133). YawCommand Untwist: clears the manual mark and starts an untwist move at once unless |theta| is already at or below 50. -/
  | yawCommandUntwist (tag : Byte) (rest : List Byte)
  /-- SET_DRIVE_SLOTS (R113). SetDriveSlots request: replaces the drive slot table, removes failed marks of held channels and resets the yaw claim ceiling. -/
  | setDriveSlots (tag : Byte) (body : List Byte)
  /-- SET_NO_DWELL_WINDOW (R115). SetNoDwellWindow request: writes one window record after the conflict tests against other windows, the hard limit and theta. -/
  | setNoDwellWindow (tag : Byte) (body : List Byte)
  /-- GET_YAW (R121). GetYaw request: returns yaw mode, motion record, brakes, means, vanes, newest ring entries, slots, windows, policy and twist state. -/
  | getYaw (tag : Byte) (body : List Byte)
  /-- SET_TWIST_REFERENCE (R126). SetTwistReference request: sets turn count and reference angle from the latest encoder reading, makes theta known and clears TWIST_SENSOR. -/
  | setTwistReference (tag : Byte) (body : List Byte)
  /-- GET_FAULTS (R164). GetFaults request: returns up to eight rows from a start index under a filter, with counts and the first-fault row. -/
  | getFaults (tag : Byte) (body : List Byte)
  /-- ACK_FAULT (R155). AckFault request: acknowledges one row or all rows and replies with the number of rows changed. -/
  | ackFault (tag : Byte) (body : List Byte)
  /-- SET_FAULT_CLASS (R163). SetFaultClass request: changes a code's class within its permitted set and adjusts notice pending flags. -/
  | setFaultClass (tag : Byte) (body : List Byte)
  /-- GET_SNAPSHOT (R161). GetSnapshot request: returns one snapshot slot or the directory of all eight slots. -/
  | getSnapshot (tag : Byte) (body : List Byte)
  /-- CLEAR_SNAPSHOT (R161). ClearSnapshot request: frees one or all snapshot slots and detaches them from their rows. -/
  | clearSnapshot (tag : Byte) (body : List Byte)
  /-- CLEAR_COUNTS (R165). ClearCounts request: resets count, first time and snapshot lost of named rows that are Clear. -/
  | clearCounts (tag : Byte) (body : List Byte)
  /-- GET_SETTING (R181). GetSetting request: returns a single-value setting in force, its envelope, default, lock mark, stored value and image state. -/
  | getSetting (tag : Byte) (body : List Byte)
  /-- SET_SETTING (R181). SetSetting request: clamps and writes a single-value setting after lock, store and conflict checks, and hands it to its owning block. -/
  | setSetting (tag : Byte) (body : List Byte)
  /-- STORE_SETTINGS (R182). StoreSettings request: begins copying the working settings into the stored image, with the store in flight for 200 ms. -/
  | storeSettings (tag : Byte) (body : List Byte)
  /-- LOCK_SETTINGS (R184). LockSettings request: sets the settings lock until the next cold start. -/
  | lockSettings (tag : Byte) (body : List Byte)
  /-- SET_BATTERY_ENERGY (R97). SetBatteryEnergy request: corrects the battery energy estimate (raise only on Grid), judges the marks and the charger. -/
  | setBatteryEnergy (tag : Byte) (body : List Byte)
  /-- UNKNOWN_KIND (R171). A served request whose KIND is not in the kind table is answered BAD_KIND by the port and reaches no block. -/
  | unknownKind (kind tag : Byte) (body : List Byte)
  /-- BYTE_ARRIVAL (R169). A byte delivered by the receiver at its stop bit is taken by the frame parser. -/
  | byteArrival (b : Byte) (time : Nat)
  /-- FRAME_GAP_TIMEOUT (R169). An idle line of more than 40 µs within a frame in progress discards the frame and rescans the held bytes. -/
  | frameGapTimeout
  /-- FRAME_SENT (R174). The last byte of the head outbound frame leaves the line, freeing its slot for a waiting request or notice. -/
  | frameSent
  /-- TAKE_MODE_NOTICE (R147). The port takes the pending ModeNotice into the outbound queue when room allows, clearing the mark and change count. -/
  | takeModeNotice
  /-- TAKE_FAULT_NOTICE (R162). The port takes the head of the fault table's pending order as a FaultNotice when room allows, clearing its pending flag. -/
  | takeFaultNotice
  /-- LINK_BREAK (R178). The inbound line held at break for 1 ms empties both queues, resets the parser and counters and sets the ModeNotice mark. -/
  | linkBreak
  /-- LINK_BREAK_END (R178). The line leaving break ends the link break; the parser hunts again and notices may be taken. -/
  | linkBreakEnd
  /-- SUPERVISION_TIMER_EXPIRY (R146). The silence timer expires: the silence count rises, LINK_SILENT is raised and at count 2 a running turbine is sent toward Parked. -/
  | supervisionTimerExpiry
  /-- STRING_REPORT (R2). A string module report arrives and updates I_meas, U_dc and the silence count, and tests the overcurrent, DC-link and gate trip conditions. -/
  | stringReport (k : StringId) (current uDc : Nat) (moduleFault : Bool)
  /-- PRECHARGE_TIMEOUT (R9). The 4 s precharge timer expires without success, raising STR_PRECHARGE and faulting the string. -/
  | prechargeTimeout
  /-- SHARE_INTERVAL (R17). The 10 ms share interval expires and the converter supervisor works through its eight ordered steps. -/
  | shareInterval
  /-- GRID_SAMPLE (R26). The 1 ms grid sample reads U, forms u, evaluates the monitors, ages the dip list and applies M1 events and state timing. -/
  | gridSample (u : Nat)
  /-- DIP_LIST_AGING (R33). A dip list entry whose age reaches 10,000 ms is removed from the head. -/
  | dipListAging
  /-- RIDE_THROUGH_EXCEEDED (R34). A dip's elapsed time passes its allowance, raising GRID_RT_EXCEED and entering Lost. -/
  | rideThroughExceeded
  /-- Q_HOLD_END (R37). 500 ms after recovery start, Q hold becomes no. -/
  | qHoldEnd
  /-- RECOVERY_TIMEOUT (R38). 5,000 ms after recovery start the grid state becomes Normal and GRID_DIP is cleared. -/
  | recoveryTimeout
  /-- OVERVOLTAGE_TIMEOUT (R39). M3 beyond for 100 ms outside Lost raises GRID_OV and enters Lost. -/
  | overvoltageTimeout
  /-- RETURN_DWELL_COMPLETE (R41). The return dwell of qualifying samples completes and the grid state goes from Lost to Normal, clearing its rows. -/
  | returnDwellComplete
  /-- THERMAL_INTERVAL (R47). The 100 ms thermal interval reads inlets, computes loss, rise, Tj and thermal limit per string, tests rows and forms heat loads. -/
  | thermalInterval (inlet1 inlet2 : Int)
  /-- INLET_SUBSTITUTE (R57). 5,000 ms after the hold start the inlet source becomes Substitute at setpoint + 150 and COOL_SENSOR is raised. -/
  | inletSubstitute (l : Liquid)
  /-- FLOW_SWITCH_CHANGE (R66). The flow switch changes: flow during a proof succeeds it, loss of flow while running starts the 2 s drop timer, return of flow drops it. -/
  | flowSwitchChange (l : Liquid) (flow : Bool)
  /-- FLOW_PROOF_TIMEOUT (R67). The 15 s proof timer expires with no flow: duty failure starts a standby trial, standby failure fails the loop. -/
  | flowProofTimeout (l : Liquid)
  /-- FLOW_DROP_TIMEOUT (R67). The 2 s drop timer expires with no flow: duty pump failure starts a standby trial, standby failure fails the loop. -/
  | flowDropTimeout (l : Liquid)
  /-- COOLING_EVALUATION (R71). The 1 s cooling evaluation selects fan stages, updates stage demand, sets loop clamps, judges L3 and the heaters. -/
  | coolingEvaluation (outlet1 outlet2 air humidity : Int)
  /-- AIR_SENSOR_SUBSTITUTE (R76). 5,000 ms after an air sensor hold starts, the air temperature becomes 450 and COOL_SENSOR unit 3 is raised. -/
  | airSensorSubstitute
  /-- RUN_ON_EXPIRY (R72). The 120 s run-on timer expires and the stage demand falls by one if the latest selection is below it. -/
  | runOnExpiry (l : LoopId)
  /-- FAN_FEEDBACK_CHANGE (R75). A fan channel's run feedback changes, starting or dropping its mismatch time. -/
  | fanFeedbackChange (f : FanId) (running : Bool)
  /-- FAN_MISMATCH_EXPIRY (R75). A fan channel's commanded and proven states differ throughout 2 s and the channel is marked failed. -/
  | fanMismatchExpiry (f : FanId)
  /-- BRIDGE_TIMER_EXPIRY (R89). The bridge timer expires and the source goes from Bridged to Battery. -/
  | bridgeTimerExpiry
  /-- NORMAL_COUNT_EXPIRY (R91). The 10 s count of Normal on Battery expires and the source returns to Grid. -/
  | normalCountExpiry
  /-- BATTERY_ACCOUNTING (R92). The 1 s battery accounting debits or credits the energy estimate and judges the marks and charger. -/
  | batteryAccounting
  /-- YAW_SAMPLE (R100). The 1 s yaw sample reads vanes and anemometer, writes the ring entry, forms means and cap, and tests motion. -/
  | yawSample (vaneA vaneB : Reading) (wind : Int)
  /-- BRAKE_VENT_EXPIRY (R107). The 1.5 s venting settle expires: to Residual and Moving with the residual proof, otherwise BRAKE_FB. -/
  | brakeVentExpiry
  /-- BRAKE_PRESSURIZE_EXPIRY (R107). The 2 s pressurizing settle expires: to Full and Hold with the full proof, otherwise BRAKE_FB. -/
  | brakePressurizeExpiry
  /-- BRAKE_PROOF_CHANGE (R107). A brake proof input changes, starting or dropping the proof-absence count while holding. -/
  | brakeProofChange (p : BrakeProof) (present : Bool)
  /-- BRAKE_PROOF_ABSENCE_EXPIRY (R107). A holding proof absent for 1,000 ms raises BRAKE_FB and disables yaw. -/
  | brakeProofAbsenceExpiry (p : BrakeProof)
  /-- RAMPING_EXPIRY (R110). The 2 s ramping expiry stops every drive, commands the brakes full and enters Pressurizing. -/
  | rampingExpiry
  /-- MANUAL_TIMER_EXPIRY (R110). The 10 s manual jog timer expires and the jog meets a normal stop. -/
  | manualTimerExpiry
  /-- REST_TIMER_EXPIRY (R110). The 30 s rest timer after a move expires, permitting automatic starts again. -/
  | restTimerExpiry
  /-- DRIVE_FEEDBACK_CHANGE (R114). A yaw drive channel's run feedback changes, starting or dropping its mismatch time. -/
  | driveFeedbackChange (c : Fin 10) (running : Bool)
  /-- DRIVE_MISMATCH_EXPIRY (R114). A drive channel differing for 500 ms is marked failed, YAW_DRIVE raised and the available count and ceiling reset. -/
  | driveMismatchExpiry (c : Fin 10)
  /-- JOG_BUTTON_PRESS (R119). A panel jog button press under Local ownership acts as the matching jog, or is ignored. -/
  | jogButtonPress (d : Dir)
  /-- JOG_BUTTON_RELEASE (R119). Release of a panel jog button is a normal stop cause of the jog. -/
  | jogButtonRelease (d : Dir)
  /-- ENCODER_UPDATE (R124). An encoder reading updates theta and the turn count, or raises TWIST_SENSOR, and applies the twist and theta-driven stop rules. -/
  | encoderUpdate (r : EncoderReading)
  /-- UNTWIST_WAIT_EXPIRY (R130). The 600 s untwist wait expires and the ready mark is set, raising UNTWIST_DUE in Generating. -/
  | untwistWaitExpiry
  /-- CALM_TIMER_EXPIRY (R141). The 600 s calm timer in Storm expires and the mode becomes Parked. -/
  | calmTimerExpiry
  /-- IDLE_LIMIT_EXPIRY (R139). The 120 s Idle limit expires and a transition to Idle or Generating is judged. -/
  | idleLimitExpiry
  /-- ESTOP_CHAIN_OPEN (R142). The emergency-stop chain opens: strings Faulted, yaw forced stop, mode Parked, ESTOP raised. -/
  | estopChainOpen
  /-- ESTOP_CHAIN_CLOSE (R142). The emergency-stop chain closes and ESTOP is cleared. -/
  | estopChainClose
  /-- KEY_SWITCH (R143). The service key reaches a position, setting the owner and entering or leaving Lockout. -/
  | keySwitch (p : KeyPos)
  /-- RESET_BUTTON (R145). A press of the panel reset button acknowledges every Latched Trip row. -/
  | resetButton
  /-- STORE_COMPLETION (R182). 200 ms after acceptance the store completes, the image becomes Valid and SETTINGS_DEFAULT is cleared. -/
  | storeCompletion
  /-- POWER_FAILURE (R182). Power fails: all non-retained state is lost, and a store in flight is cut off before its image check is written, so the next cold start finds the image failing its check. -/
  | powerFailure
  deriving DecidableEq, Repr

end Sys2Proof
end

