-- ==== Sys2Proof/Machine/State.lean ====
section
/-! DEFINITION. The state of the part: every record, queue, counter, mode, mark and pin the spec gives it, as plain data, and its value right after reset. -/

namespace Sys2Proof.Machine

/-! ## Why a step can stop -/

/-- Reasons to stop with a fault. The spec gives every command an effect, so no meaning of this model raises one. -/
inductive Fault where
  /-- Raised by no command; kept so that the type has a value. Safe: nothing can rest on it. -/
  | noCommandStops
  deriving DecidableEq, Repr

/-- Reasons to refuse a command. -/
inductive Refusal where
  /-- A command whose arm has no meaning yet; every arm of this model has one. Safe: nothing is claimed of it. -/
  | notModelled (mnemonic : String)
  deriving DecidableEq, Repr

/-! ## Shared small types -/

/-- Six like things, one per string. -/
structure Six (α : Type) where
  s1 : α
  s2 : α
  s3 : α
  s4 : α
  s5 : α
  s6 : α
  deriving DecidableEq, Repr

/-- A running timer: the clock at its loading (for the record) and the milliseconds it still has (R185). -/
structure Countdown where
  since : Nat
  left  : Nat
  deriving DecidableEq, Repr

/-- Nacelle modes, in the order of R136. -/
inductive Mode where
  | lockout | parked | idle | generating | storm | isolated
  deriving DecidableEq, Repr

/-- Grid states (R31). -/
inductive GridState where
  | normal | dip | recovering | lost
  deriving DecidableEq, Repr

/-- Auxiliary sources (R81). -/
inductive Source where
  | grid | bridged | battery
  deriving DecidableEq, Repr

/-- Motion states (R108). -/
inductive Motion where
  | hold | venting | moving | ramping | pressurizing
  deriving DecidableEq, Repr

/-! ## Settings store -/

/-- A point of the ride-through curve: u in thousandths, t in ms (R35). -/
structure CurvePoint where
  u : Nat
  t : Nat
  deriving DecidableEq, Repr

/-- Fault classes, in falling order of weight (R151). -/
inductive FaultClass where
  | trip | derate | notice | record
  deriving DecidableEq, Repr

/-- A pump of a liquid loop (R62). -/
inductive Pump where
  | a | b
  deriving DecidableEq, Repr

/-- A wind vane (R101). -/
inductive VaneId where
  | a | b
  deriving DecidableEq, Repr

/-- A no-dwell window record; enabled when base is at or below limit (R115). -/
structure Window where
  base  : Int
  limit : Int
  deriving DecidableEq, Repr

/-- Everything the working settings hold (R181 and the structured settings of SET:LIST). -/
structure Settings where
  kq             : Nat
  recoveryRamp   : Nat
  returnDwell    : Nat
  alpha          : Nat
  td             : Int
  tx             : Int
  baseLoad1      : Nat
  baseLoad2      : Nat
  controlReserve : Nat
  brakeReserve   : Nat
  bridgeInterval : Nat
  startLong      : Nat
  startShort     : Nat
  stop           : Nat
  primaryVane    : VaneId
  softLimit      : Nat
  hardLimit      : Nat
  curve          : List CurvePoint
  classes        : List FaultClass
  slots          : List (Option (Fin 10))
  windows        : List Window
  duty1          : Pump
  duty2          : Pump
  setpoint1      : Nat
  setpoint2      : Nat
  deriving DecidableEq, Repr

/-- The default class of each code, 1 to 33 (R152). -/
def defaultClasses : List FaultClass :=
  [.trip, .trip, .notice, .trip, .trip, .trip, .notice, .trip, .trip, .trip, .notice] ++
  [.trip, .notice, .notice, .notice, .notice, .notice, .derate, .notice, .notice, .notice, .derate] ++
  [.trip, .notice, .notice, .derate, .trip, .trip, .notice, .record, .notice, .notice, .notice]

/-- The defaults of R181 and R183. -/
def Settings.defaults : Settings where
  kq := 20
  recoveryRamp := 150
  returnDwell := 60
  alpha := 26
  td := 1150
  tx := 1400
  baseLoad1 := 20000
  baseLoad2 := 20000
  controlReserve := 12
  brakeReserve := 18
  bridgeInterval := 2000
  startLong := 80
  startShort := 200
  stop := 20
  primaryVane := .a
  softLimit := 7200
  hardLimit := 9000
  curve := [⟨150, 150⟩, ⟨500, 1200⟩, ⟨750, 2100⟩, ⟨900, 3000⟩]
  classes := defaultClasses
  slots := [some 0, some 1, some 2, some 3, some 4, some 5, some 6, some 7]
  windows := List.replicate 4 ⟨1, 0⟩
  duty1 := .a
  duty2 := .a
  setpoint1 := 400
  setpoint2 := 400

/-- A store in flight: the copy being written and its 200 ms timer (R182). -/
structure StoreInFlight where
  copy  : Settings
  timer : Countdown
  deriving DecidableEq, Repr

/-- The settings store (R181 to R184). -/
structure Store where
  working    : Settings
  /-- The non-volatile stored image. -/
  image      : Settings
  /-- Whether the image check, recomputed, agrees with the one stored (log 8). -/
  imageCheck : Bool
  /-- The image state: Valid or Invalid (R183). -/
  imageValid : Bool
  storing    : Option StoreInFlight
  lock       : Bool
  deriving DecidableEq, Repr

/-! ## Retained domain -/

/-- The twist record (R123); `checkGood` is the agreement of its check (log 8). -/
structure TwistRecord where
  turns     : Int
  ref       : Nat
  last      : Nat
  valid     : Bool
  checkGood : Bool
  deriving DecidableEq, Repr

/-- The retained domain (R186). -/
structure Retained where
  twist       : TwistRecord
  energy      : Nat
  energyCheck : Bool
  deriving DecidableEq, Repr

/-! ## Outside pins -/

/-- The lines that hold a level whether or not the part is powered (log 6). -/
structure Lines where
  key           : KeyPos
  chainClosed   : Bool
  /-- The line voltage the sensing showed last, V. -/
  gridVolts     : Nat
  lineAtBreak   : Bool
  heldCw        : Bool
  heldCcw       : Bool
  residualProof : Bool
  fullProof     : Bool
  deriving DecidableEq, Repr

/-! ## Converter supervisor -/

/-- String states, in the order of R1. -/
inductive StrState where
  | offline | precharging | ready | running | derated | stopping | faulted | isolated
  deriving DecidableEq, Repr

/-- Precharge phases (R1). -/
inductive Phase where
  | loopWait | charging
  deriving DecidableEq, Repr

/-- Priority in force (R16). -/
inductive Priority where
  | p | q
  deriving DecidableEq, Repr

/-- What a string module is told, with its contactor and precharge circuit (R4). -/
structure ModuleCommand where
  contactorClosed : Bool
  prechargeOn     : Bool
  run             : Bool
  pulseBlock      : Bool
  share           : Nat
  p               : Int
  q               : Int
  deriving DecidableEq, Repr

/-- A string record (R1). -/
structure StringRec where
  state        : StrState
  iMeas        : Nat
  overrange    : Nat
  uDc          : Nat
  silence      : Nat
  /-- A report has arrived since the latest share interval expiry (R3). -/
  reported     : Bool
  iLim         : Nat
  cap          : Nat
  share        : Nat
  p            : Int
  q            : Int
  enabled      : Bool
  isolateOnEnd : Bool
  /-- The blocked-stop field, present only while Stopping. -/
  blockedStop  : Option Bool
  phase        : Option Phase
  /-- The 4 s precharge timer; `since` is the precharge start time. -/
  precharge    : Option Countdown
  out          : ModuleCommand
  deriving DecidableEq, Repr

/-- The power request record (R15). -/
structure PowerRequest where
  p     : Int
  q     : Int
  rampP : Nat
  rampQ : Nat
  deriving DecidableEq, Repr

/-- The granted-power record (R16). -/
structure Granted where
  p        : Int
  q        : Int
  s        : Nat
  priority : Priority
  deriving DecidableEq, Repr

/-- An entry of the dip list: its clock time and the sample that added it (R33). -/
structure DipEntry where
  time   : Nat
  sample : Nat
  deriving DecidableEq, Repr

structure Converter where
  strings : Six StringRec
  /-- The precharge queue, head first. -/
  queue   : List StringId
  request : PowerRequest
  granted : Granted
  /-- The dip list, oldest first. -/
  dips    : List DipEntry
  deriving DecidableEq, Repr

/-! ## Grid monitor -/

/-- The three monitors; the direction is fixed by the role (R27). -/
inductive MonitorId where
  | m1 | m2 | m3
  deriving DecidableEq, Repr

structure Monitor where
  armed  : Bool
  level  : Nat
  count  : Nat
  beyond : Bool
  run    : Nat
  deriving DecidableEq, Repr

/-- How long a dip may last (R35). -/
inductive Allowance where
  | ms (t : Nat) | unlimited
  deriving DecidableEq, Repr

/-- The fields present in Dip (R31). -/
structure DipTiming where
  start   : Nat
  minU    : Nat
  allowed : Allowance
  deriving DecidableEq, Repr

/-- The fields present in Recovering (R31). -/
structure RecoveryTiming where
  start : Nat
  qHold : Bool
  deriving DecidableEq, Repr

/-- The grid monitor; `volts` is U, `sampleNo` counts grid samples (R26, log 33). -/
structure Grid where
  m1         : Monitor
  m2         : Monitor
  m3         : Monitor
  overSince  : Option Nat
  state      : GridState
  volts      : Nat
  u          : Nat
  sampleTime : Nat
  entryTime  : Nat
  sampleNo   : Nat
  dip        : Option DipTiming
  recovery   : Option RecoveryTiming
  dwellStart : Option Nat
  deriving DecidableEq, Repr

/-! ## Thermal model -/

structure ThermRec where
  iUsed  : Nat
  pLoss  : Nat
  target : Nat
  tRise  : Nat
  tj     : Int
  limit  : Nat
  deriving DecidableEq, Repr

/-- Where a temperature in use came from (R56). -/
inductive TempSource where
  | reading | held | substitute
  deriving DecidableEq, Repr

/-- The inlet of a liquid loop, and the nacelle air temperature of L3; `holdStart` counts intervals (R56, R76). -/
structure Inlet where
  inUse     : Int
  source    : TempSource
  lastValid : Option Int
  holdStart : Option Nat
  deriving DecidableEq, Repr

structure Thermal where
  recs       : Six ThermRec
  inlet1     : Inlet
  inlet2     : Inlet
  heat1      : Nat
  heat2      : Nat
  intervalNo : Nat
  deriving DecidableEq, Repr

/-! ## Cooling controller -/

/-- States of a liquid loop (R62). -/
inductive LoopState where
  | off | starting | running | degraded | failed
  deriving DecidableEq, Repr

/-- States of the air loop (R62). -/
inductive AirState where
  | off | running | degraded
  deriving DecidableEq, Repr

/-- Whether the pump commanded to run was tried first or as the standby (R62, R67). -/
inductive PumpRole where
  | duty | standby
  deriving DecidableEq, Repr

structure FanChannel where
  commanded : Bool
  proven    : Bool
  failed    : Bool
  mismatch  : Option Countdown
  deriving DecidableEq, Repr

/-- The record of L1 or L2 (R62). The pump in trial is `role` while Starting. -/
structure LiquidLoop where
  state     : LoopState
  required  : Bool
  /-- A judgement of R64 is owed at the end of this event (log 11). -/
  judge     : Bool
  pump      : Option Pump
  role      : Option PumpRole
  proof     : Option Countdown
  flow      : Bool
  drop      : Option Countdown
  outlet    : Option Int
  demand    : Nat
  selection : Nat
  runOn     : Option Countdown
  clamp     : Nat
  fans      : List FanChannel
  /-- The fan claim is due: submitted, or withdrawn for want of an unfailed channel (R66, R73). -/
  fansDue   : Bool
  deriving DecidableEq, Repr

/-- The record of L3 (R62, R76). -/
structure AirLoop where
  state     : AirState
  required  : Bool
  demand    : Nat
  selection : Nat
  runOn     : Option Countdown
  air       : Inlet
  fans      : List FanChannel
  deriving DecidableEq, Repr

structure Cooling where
  l1           : LiquidLoop
  l2           : LiquidLoop
  l3           : AirLoop
  heaterOn     : Bool
  humidity     : Nat
  evaluationNo : Nat
  deriving DecidableEq, Repr

/-! ## Auxiliary budget -/

/-- The ten claimants, in list position order (R82). -/
inductive ClaimId where
  | pump1 | pump2 | fans1 | fans2 | fans3 | precharge | yaw | heaters | charger | hoist
  deriving DecidableEq, Repr

structure Claim where
  submitted : Bool
  time      : Option Nat
  floor     : Nat
  ceiling   : Nat
  grant     : Nat
  deriving DecidableEq, Repr

structure Claims where
  pump1     : Claim
  pump2     : Claim
  fans1     : Claim
  fans2     : Claim
  fans3     : Claim
  precharge : Claim
  yaw       : Claim
  heaters   : Claim
  charger   : Claim
  hoist     : Claim
  deriving DecidableEq, Repr

structure Budget where
  claims       : Claims
  /-- The submitted claims in submission order. -/
  order        : List ClaimId
  source       : Source
  held         : Option Nat
  bridge       : Option Countdown
  /-- Normal since, with its 10 s count (R91). -/
  normal       : Option Countdown
  lowMark      : Bool
  criticalMark : Bool
  spare        : Nat
  /-- A change of R83 awaits its walk in this event (log 11). -/
  walkDue      : Bool
  chargerPower : Nat
  hoistOn      : Bool
  deriving DecidableEq, Repr

/-! ## Yaw controller -/

structure Vane where
  valid    : Bool
  stuck    : Nat
  previous : Option Int
  deriving DecidableEq, Repr

/-- Where a relative angle came from (R102). -/
inductive AngleSource where
  | a | b | blend
  deriving DecidableEq, Repr

structure RingEntry where
  time   : Nat
  angle  : Int
  wind   : Nat
  valid  : Bool
  source : Option AngleSource
  theta  : Option Int
  deriving DecidableEq, Repr

/-- Yaw modes, in the order of R106. -/
inductive YawMode where
  | disabled | storm | untwist | manual | auto
  deriving DecidableEq, Repr

inductive BrakeState where
  | full | venting | residual | pressurizing
  deriving DecidableEq, Repr

inductive MoveKind where
  | auto | manual | clearance | untwist | storm
  deriving DecidableEq, Repr

/-- The speed reference of the running channels (R108, R128). -/
inductive SpeedRef where
  | zero | running | falling
  deriving DecidableEq, Repr

structure DriveChannel where
  commanded : Bool
  proven    : Bool
  failed    : Bool
  mismatch  : Option Countdown
  deriving DecidableEq, Repr

/-- A clearance move that is due (R117). -/
structure Clearance where
  window : Nat
  target : Int
  deriving DecidableEq, Repr

/-- The untwist record (R129). -/
structure Untwist where
  due      : Bool
  wait     : Option Countdown
  ready    : Bool
  inFlight : Bool
  deriving DecidableEq, Repr

structure Yaw where
  vaneA        : Vane
  vaneB        : Vane
  disagree     : Nat
  /-- The ring, oldest first. -/
  ring         : List RingEntry
  shortMean    : Option Int
  longMean     : Option Int
  shortSpeed   : Option Nat
  longSpeed    : Option Nat
  cap          : Option Nat
  invalidSince : Option Nat
  sampleNo     : Nat
  mode         : YawMode
  manualMark   : Bool
  /-- The panel button whose press was taken and whose jog it still holds (R119, log 18). -/
  panelJog     : Option Dir
  brake        : BrakeState
  /-- The pressure commanded: full, or residual. -/
  commandFull  : Bool
  /-- The venting or pressurizing settle (R107). -/
  settle       : Option Countdown
  fullAbsent   : Option Countdown
  residAbsent  : Option Countdown
  motion       : Motion
  kind         : Option MoveKind
  direction    : Option Dir
  target       : Option Int
  driveCount   : Nat
  continuing   : Option Nat
  forced       : Bool
  rest         : Option Countdown
  manualTimer  : Option Countdown
  ramp         : Option Countdown
  /-- The move has reached Moving (R110). -/
  reached      : Bool
  speed        : SpeedRef
  channels     : List DriveChannel
  clearance    : Option Clearance
  /-- The no-dwell windows in force: the records as the latest update of θ or start found them (R115, log 39). -/
  windows      : List Window
  untwist      : Untwist
  /-- The latest encoder reading since the start (R126). -/
  encoder      : Option EncoderReading
  deriving DecidableEq, Repr

/-! ## Mode controller -/

/-- Causes, numbered as in R175. -/
inductive Cause where
  | start | requested | idleReached | idleFailed | generatingReached | generatingRefused
  | gridLost | gridReturned | stormWind | stormCalm | emergencyStop | keyLockout | keyLeavesLockout | linkSilence
  deriving DecidableEq, Repr

inductive Owner where
  | remote | localOwner | pendingRemote
  deriving DecidableEq, Repr

structure ModeCtl where
  current     : Mode
  target      : Option Mode
  previous    : Mode
  entryTime   : Nat
  cause       : Cause
  idleLimit   : Option Countdown
  calm        : Option Countdown
  owner       : Owner
  supEnabled  : Bool
  supInterval : Nat
  supTimer    : Option Countdown
  supCount    : Nat
  noticeDue   : Bool
  changeCount : Nat
  /-- The 20 change marks of R148. -/
  marks       : List Bool
  /-- The 20 items as last compared (log 11). -/
  base        : List Nat
  deriving DecidableEq, Repr

/-! ## Fault table -/

/-- Row states (R151). -/
inductive RowState where
  | clear | active | latched
  deriving DecidableEq, Repr

/-- The changing fields of a fault row; code, unit and class follow from its index (R151). -/
structure FaultRow where
  state     : RowState
  ack       : Bool
  count     : Nat
  firstTime : Option Nat
  lastTime  : Option Nat
  lastStamp : Option Nat
  firstMark : Bool
  pending   : Bool
  slot      : Option Nat
  lost      : Bool
  deriving DecidableEq, Repr

def FaultRow.blank : FaultRow where
  state := .clear
  ack := false
  count := 0
  firstTime := none
  lastTime := none
  lastStamp := none
  firstMark := false
  pending := false
  slot := none
  lost := false

/-- A snapshot record with the index of its owner row (R159). -/
structure Snapshot where
  row     : Nat
  time    : Nat
  mode    : Mode
  grid    : GridState
  u       : Nat
  source  : Source
  iMeas   : Six Nat
  tj      : Six Int
  theta   : Option Int
  motion  : Motion
  inlet1  : Int
  inlet2  : Int
  deriving DecidableEq, Repr

/-- The fault table and its snapshot store; slots are numbered from 1, `capture` lists the full ones oldest first. -/
structure FaultTable where
  rows    : List FaultRow
  slots   : List (Option Snapshot)
  capture : List Nat
  deriving DecidableEq, Repr

/-- The event in progress: its place in the event order, and the states as they stood before it (R160, log 11). -/
structure EventMark where
  stamp  : Nat
  mode   : Mode
  grid   : GridState
  source : Source
  motion : Motion
  deriving DecidableEq, Repr

/-! ## Link port -/

/-- A byte held by the parser, with its arrival time in µs (R169, log 25). -/
structure HeldByte where
  byte : Byte
  time : Nat
  deriving DecidableEq, Repr

/-- A frame without SYNC, LEN and CRC, which follow from it (R168). -/
structure Frame where
  kind : Byte
  tag  : Byte
  body : List Byte
  deriving DecidableEq, Repr

/-- A frame of the outbound queue: a reply or a notice; `restart` marks the reply to an accepted Restart (R149). -/
structure OutFrame where
  frame   : Frame
  notice  : Bool
  restart : Bool
  deriving DecidableEq, Repr

structure Link where
  held          : List HeldByte
  inbound       : List Frame
  outbound      : List OutFrame
  badFrames     : Nat
  overruns      : Nat
  overrunSeen   : Bool
  badSeen       : Bool
  breakOn       : Bool
  restartQueued : Bool
  deriving DecidableEq, Repr

/-! ## The whole state -/

structure State where
  pending  : List Instr
  powered  : Bool
  lines    : Lines
  clock    : Nat
  evt      : EventMark
  conv     : Converter
  grid     : Grid
  therm    : Thermal
  cool     : Cooling
  aux      : Budget
  yaw      : Yaw
  mode     : ModeCtl
  faults   : FaultTable
  link     : Link
  store    : Store
  retained : Retained
  deriving DecidableEq, Repr

/-! ## Reset -/

def ModuleCommand.stopped : ModuleCommand where
  contactorClosed := false
  prechargeOn := false
  run := false
  pulseBlock := true
  share := 0
  p := 0
  q := 0

/-- A string record after a start (R25). -/
def StringRec.atStart : StringRec where
  state := .offline
  iMeas := 0
  overrange := 0
  uDc := 0
  silence := 0
  reported := false
  iLim := 480
  cap := 0
  share := 0
  p := 0
  q := 0
  enabled := true
  isolateOnEnd := false
  blockedStop := none
  phase := none
  precharge := none
  out := ModuleCommand.stopped

/-- The converter supervisor after cold start (R25). -/
def Converter.atStart : Converter where
  strings := ⟨.atStart, .atStart, .atStart, .atStart, .atStart, .atStart⟩
  queue := []
  request := ⟨0, 0, 100, 7000⟩
  granted := ⟨0, 0, 0, .p⟩
  dips := []

/-- The grid monitor of R44 and R45 at a start sample of 3,300 V. -/
def Grid.atStart : Grid where
  m1 := ⟨true, 900, 2, false, 0⟩
  m2 := ⟨true, 150, 2, false, 0⟩
  m3 := ⟨true, 1100, 4, false, 0⟩
  overSince := none
  state := .normal
  volts := 3300
  u := 1000
  sampleTime := 0
  entryTime := 0
  sampleNo := 0
  dip := none
  recovery := none
  dwellStart := none

def ThermRec.atStart : ThermRec where
  iUsed := 0
  pLoss := 0
  target := 0
  tRise := 0
  tj := 0
  limit := 480

def Inlet.atStart : Inlet where
  inUse := 0
  source := .held
  lastValid := none
  holdStart := some 0

/-- The thermal model after cold start (R61), with the default base loads. -/
def Thermal.atStart : Thermal where
  recs := ⟨.atStart, .atStart, .atStart, .atStart, .atStart, .atStart⟩
  inlet1 := .atStart
  inlet2 := .atStart
  heat1 := 20000
  heat2 := 20000
  intervalNo := 0

def FanChannel.atStart : FanChannel where
  commanded := false
  proven := false
  failed := false
  mismatch := none

def LiquidLoop.atStart : LiquidLoop where
  state := .off
  required := false
  judge := false
  pump := none
  role := none
  proof := none
  flow := false
  drop := none
  outlet := none
  demand := 0
  selection := 0
  runOn := none
  clamp := 100
  fans := List.replicate 4 .atStart
  fansDue := false

def AirLoop.atStart : AirLoop where
  state := .off
  required := false
  demand := 0
  selection := 0
  runOn := none
  air := .atStart
  fans := List.replicate 3 .atStart

/-- The cooling controller after cold start (R80). -/
def Cooling.atStart : Cooling where
  l1 := .atStart
  l2 := .atStart
  l3 := .atStart
  heaterOn := false
  humidity := 0
  evaluationNo := 0

/-- A withdrawn claim, as a start leaves it, without a submission time (R99, log 23). -/
def Claim.withdrawn (floor ceiling : Nat) : Claim where
  submitted := false
  time := none
  floor := floor
  ceiling := ceiling
  grant := 0

/-- The claim list with every claim withdrawn (R82, R99, log 23). -/
def Claims.atStart : Claims where
  pump1 := .withdrawn 15 15
  pump2 := .withdrawn 15 15
  fans1 := .withdrawn 8 0
  fans2 := .withdrawn 8 0
  fans3 := .withdrawn 6 0
  precharge := .withdrawn 25 25
  yaw := .withdrawn 44 88
  heaters := .withdrawn 20 20
  charger := .withdrawn 10 40
  hoist := .withdrawn 30 30

/-- The budget after cold start on Grid with a full battery (R99, log 7). -/
def Budget.atStart : Budget where
  claims := .atStart
  order := []
  source := .grid
  held := none
  bridge := none
  normal := none
  lowMark := false
  criticalMark := false
  spare := 370
  walkDue := false
  chargerPower := 0
  hoistOn := false

def Vane.atStart : Vane where
  valid := false
  stuck := 0
  previous := none

/-- An entry of the emptied ring (R103, R122). -/
def RingEntry.empty : RingEntry where
  time := 0
  angle := 0
  wind := 0
  valid := false
  source := none
  theta := none

def DriveChannel.atStart : DriveChannel where
  commanded := false
  proven := false
  failed := false
  mismatch := none

def Untwist.atStart : Untwist where
  due := false
  wait := none
  ready := false
  inFlight := false

/-- The yaw controller after cold start (R122, R135). -/
def Yaw.atStart : Yaw where
  vaneA := .atStart
  vaneB := .atStart
  disagree := 0
  ring := List.replicate 60 .empty
  shortMean := none
  longMean := none
  shortSpeed := none
  longSpeed := none
  cap := none
  invalidSince := some 0
  sampleNo := 0
  mode := .auto
  manualMark := false
  panelJog := none
  brake := .full
  commandFull := true
  settle := none
  fullAbsent := none
  residAbsent := none
  motion := .hold
  kind := none
  direction := none
  target := none
  driveCount := 0
  continuing := none
  forced := false
  rest := none
  manualTimer := none
  ramp := none
  reached := false
  speed := .zero
  channels := List.replicate 10 .atStart
  clearance := none
  windows := List.replicate 4 ⟨1, 0⟩
  untwist := .atStart
  encoder := none

/-- The mode controller after cold start in Parked (R150). -/
def ModeCtl.atStart : ModeCtl where
  current := .parked
  target := none
  previous := .parked
  entryTime := 0
  cause := .start
  idleLimit := none
  calm := none
  owner := .remote
  supEnabled := false
  supInterval := 10
  supTimer := none
  supCount := 0
  noticeDue := true
  changeCount := 0
  marks := List.replicate 20 true
  base := [1, 255, 0, 0, 0, 255, 0, 0, 4, 0, 0, 0, 0] ++ List.replicate 7 0

/-- The fault table after cold start (R166). -/
def FaultTable.atStart : FaultTable where
  rows := List.replicate 79 .blank
  slots := List.replicate 8 none
  capture := []

def EventMark.atStart : EventMark where
  stamp := 0
  mode := .parked
  grid := .normal
  source := .grid
  motion := .hold

/-- The link port after a start (R179). -/
def Link.atStart : Link where
  held := []
  inbound := []
  outbound := []
  badFrames := 0
  overruns := 0
  overrunSeen := false
  badSeen := false
  breakOn := false
  restartQueued := false

/-- The settings store after a cold start that found a valid image of defaults (R183, R186, log 7). -/
def Store.atStart : Store where
  working := .defaults
  image := .defaults
  imageCheck := true
  imageValid := true
  storing := none
  lock := false

/-- The retained domain of log 7. -/
def Retained.atStart : Retained where
  twist := ⟨0, 0, 0, true, true⟩
  energy := 648000
  energyCheck := true

/-- The outside pins of log 6. -/
def Lines.atStart : Lines where
  key := .remotePos
  chainClosed := true
  gridVolts := 3300
  lineAtBreak := false
  heldCw := false
  heldCcw := false
  residualProof := false
  fullProof := true

/-- The part right after reset: a cold start on a healthy grid, with an empty queue of commands (logs 6 and 7). -/
def State.reset : State where
  pending := []
  powered := true
  lines := .atStart
  clock := 0
  evt := .atStart
  conv := .atStart
  grid := .atStart
  therm := .atStart
  cool := .atStart
  aux := .atStart
  yaw := .atStart
  mode := .atStart
  faults := .atStart
  link := .atStart
  store := .atStart
  retained := .atStart

end Sys2Proof.Machine
end

