-- ==== Sys2Proof/Machine/Arith.lean ====
section
/-! DEFINITION. Arithmetic and small accessors: the conventions of ABOUT:CONV, numbers as bytes of the line (R168), timers (R185), and the six strings by number. -/

namespace Sys2Proof.Machine

/-! ## Numbers -/

/-- One more binary digit of a square root: the largest root below `root + 2 ^ digits` whose square does not exceed `x`. -/
def isqrtFrom (x : Nat) : Nat → Nat → Nat
  | 0, root => root
  | digits + 1, root =>
    let tried := root + 2 ^ digits
    isqrtFrom x digits (if tried * tried ≤ x then tried else root)

/-- isqrt(x): the largest integer whose square does not exceed x (ABOUT:CONV Arithmetic). -/
def isqrt (x : Nat) : Nat := isqrtFrom x (Nat.log2 x / 2 + 1) 0

/-- clamp(x, a, b) over the integers. -/
def clampInt (x a b : Int) : Int := max a (min x b)

/-- clamp(x, a, b) over the naturals. -/
def clampNat (x a b : Nat) : Nat := max a (min x b)

/-- `value` moved toward `target` by at most `step`; within one step it takes the target (R20). -/
def moveToward (value target : Int) (step : Nat) : Int :=
  if (target - value).natAbs ≤ step then target
  else if value < target then value + step
  else value - step

/-- An angle wrapped into −1,800..+1,799 (R102). -/
def wrapAngle (x : Int) : Int := (x + 1800) % 3600 - 1800

/-- The magnitude limited to `limit`, with the sign kept (R21). -/
def limitMagnitude (x : Int) (limit : Nat) : Int :=
  if x < 0 then -((min x.natAbs limit : Nat) : Int) else ((min x.natAbs limit : Nat) : Int)

/-- x × num / den, truncated toward zero, 0 when the divisor is 0. -/
def scale (x num den : Int) : Int := Int.tdiv (x * num) den

/-- A yes/no as 1 and 0 (R168). -/
def bit (b : Bool) : Nat := if b then 1 else 0

/-! ## Timers -/

/-- A timer loaded now with `ms` milliseconds. -/
def startTimer (clock ms : Nat) : Option Countdown := some ⟨clock, ms⟩

/-- A running timer after one more millisecond; at 0 it awaits its expiry command (log 1). -/
def Countdown.tick (c : Countdown) : Countdown := { c with left := c.left - 1 }

def tickTimer (t : Option Countdown) : Option Countdown := t.map Countdown.tick

/-- The clock one millisecond later; it wraps from 4,294,967,294 to 0 (R185). -/
def nextClock (clock : Nat) : Nat := if clock ≥ 4294967294 then 0 else clock + 1

/-! ## Bytes of the line (R168) -/

def u8 (n : Nat) : List Byte := [BitVec.ofNat 8 n]

/-- Two bytes, most significant first. -/
def pair (x : BitVec 16) : List Byte := [x.extractLsb' 8 8, x.extractLsb' 0 8]

/-- Four bytes, most significant first. -/
def quad (x : BitVec 32) : List Byte :=
  [x.extractLsb' 24 8, x.extractLsb' 16 8, x.extractLsb' 8 8, x.extractLsb' 0 8]

def u16 (n : Nat) : List Byte := pair (BitVec.ofNat 16 n)
def u32 (n : Nat) : List Byte := quad (BitVec.ofNat 32 n)
def i16 (x : Int) : List Byte := pair (BitVec.ofInt 16 x)
def i32 (x : Int) : List Byte := quad (BitVec.ofInt 32 x)

/-- Absent items are sent as all one bits (R168). -/
def opt8 (x : Option Nat) : List Byte := x.elim [255] u8
def opt16 (x : Option Nat) : List Byte := x.elim [255, 255] u16
def optI16 (x : Option Int) : List Byte := x.elim [255, 255] i16
def opt32 (x : Option Nat) : List Byte := x.elim [255, 255, 255, 255] u32

/-- Time remaining on a timer of at most 65 s, in the two bytes of R168; a stopped timer is sent as absent (log 12). -/
def remaining (t : Option Countdown) : List Byte := opt16 (t.map Countdown.left)

/-- Time remaining on a timer whose milliseconds two bytes cannot hold, in four; a stopped timer is sent as absent (log 12). -/
def remainingLong (t : Option Countdown) : List Byte := opt32 (t.map Countdown.left)

/-- The byte of a body at an offset. -/
def byteAt (body : List Byte) (i : Nat) : Byte := body.getD i 0

def natAt (body : List Byte) (i : Nat) : Nat := (byteAt body i).toNat

/-- A two-byte unsigned field at an offset. -/
def wordAt (body : List Byte) (i : Nat) : Nat := (byteAt body i ++ byteAt body (i + 1)).toNat

/-- A two-byte two's complement field at an offset. -/
def intAt (body : List Byte) (i : Nat) : Int := (byteAt body i ++ byteAt body (i + 1)).toInt

/-- A four-byte field at an offset. -/
def longAt (body : List Byte) (i : Nat) : BitVec 32 :=
  byteAt body i ++ byteAt body (i + 1) ++ (byteAt body (i + 2) ++ byteAt body (i + 3))

/-- A yes/no or on/off byte: 0 and 1 by R168; any other byte is left open (log 10). -/
def flagOf (b : Byte) : Bool :=
  if b = 0 then false else if b = 1 then true else Config.oddFlag b

/-! ## The check of a frame (R168) -/

/-- One bit of the CRC register. -/
def crcShift (c : BitVec 16) : BitVec 16 :=
  if c.msb then (c <<< 1) ^^^ 0x1021#16 else c <<< 1

def crcBits : Nat → BitVec 16 → BitVec 16
  | 0, c => c
  | n + 1, c => crcBits n (crcShift c)

/-- One byte into the register, most significant bit first. -/
def crcByte (c : BitVec 16) (b : Byte) : BitVec 16 := crcBits 8 (c ^^^ (b ++ 0#8))

/-- CRC over bytes: generator x¹⁶ + x¹² + x⁵ + 1, register from all ones, not reflected, no final inversion. -/
def crc16 (bytes : List Byte) : BitVec 16 := bytes.foldl crcByte 0xFFFF#16

/-- A frame as it stands on the line (R168). -/
def wireBytes (f : Frame) : List Byte :=
  let covered := BitVec.ofNat 8 f.body.length :: f.kind :: f.tag :: f.body
  0xA5#8 :: covered ++ pair (crc16 covered)

/-! ## The six strings -/

end Sys2Proof.Machine

namespace Sys2Proof

/-- The strings in ascending number. -/
def StringId.all : List StringId := [.s1, .s2, .s3, .s4, .s5, .s6]

/-- The number of a string, 1 to 6. -/
def StringId.num : StringId → Nat
  | .s1 => 1 | .s2 => 2 | .s3 => 3 | .s4 => 4 | .s5 => 5 | .s6 => 6

/-- The string of a number, if there is one. -/
def StringId.ofNum : Nat → Option StringId
  | 1 => some .s1 | 2 => some .s2 | 3 => some .s3 | 4 => some .s4 | 5 => some .s5 | 6 => some .s6
  | _ => none

/-- L1 cools S1 to S3, L2 cools S4 to S6. -/
def StringId.loop : StringId → Liquid
  | .s1 | .s2 | .s3 => .l1
  | .s4 | .s5 | .s6 => .l2

def Liquid.num : Liquid → Nat
  | .l1 => 1 | .l2 => 2

/-- The strings a loop cools. -/
def Liquid.strings : Liquid → List StringId
  | .l1 => [.s1, .s2, .s3]
  | .l2 => [.s4, .s5, .s6]

end Sys2Proof

namespace Sys2Proof.Machine

def Six.get {α : Type} (x : Six α) : StringId → α
  | .s1 => x.s1 | .s2 => x.s2 | .s3 => x.s3 | .s4 => x.s4 | .s5 => x.s5 | .s6 => x.s6

def Six.set {α : Type} (x : Six α) (k : StringId) (a : α) : Six α :=
  match k with
  | .s1 => { x with s1 := a }
  | .s2 => { x with s2 := a }
  | .s3 => { x with s3 := a }
  | .s4 => { x with s4 := a }
  | .s5 => { x with s5 := a }
  | .s6 => { x with s6 := a }

def Six.map {α β : Type} (f : StringId → α → β) (x : Six α) : Six β :=
  ⟨f .s1 x.s1, f .s2 x.s2, f .s3 x.s3, f .s4 x.s4, f .s5 x.s5, f .s6 x.s6⟩

def Six.toList {α : Type} (x : Six α) : List α := [x.s1, x.s2, x.s3, x.s4, x.s5, x.s6]

def Six.any {α : Type} (p : α → Bool) (x : Six α) : Bool := x.toList.any p
def Six.all {α : Type} (p : α → Bool) (x : Six α) : Bool := x.toList.all p

/-- A list with one entry changed by `f`. -/
def updateAt {α : Type} (l : List α) (i : Nat) (f : α → α) : List α := l.modify i f

/-- A change made to the state once for each of a list of things, in order. -/
def forEach {α : Type} (l : List α) (f : α → State → State) (s : State) : State :=
  l.foldl (fun t a => f a t) s

end Sys2Proof.Machine
end

