-- ==== Sys2Proof/Machine/Flags.lean ====
section
/-! DEFINITION. The fault table: the catalogue, raising, clearing and acknowledging a row, the first-fault mark, snapshots and the pending order (R151 to R166). -/

namespace Sys2Proof.Machine

/-! ## The catalogue (R152) -/

/-- The 33 fault codes, in catalogue order. -/
inductive FaultCode where
  | strOc | strTjTrip | strDerate | strPrecharge | strGate | strDclinkOv
  | gridDip | gridRtExceed | gridOv | gridLost
  | loopFlow | loopFailed | loopLimited | coolSensor
  | auxRevoked | auxBridge | battLow | battCritical
  | vaneFault | vaneDisagree | yawDrive | yawDrivesLow | brakeFb | yawDwellForced
  | twistSoft | twistHard | twistSensor | estop | linkSilent | linkOverrun
  | untwistDue | stormEntered | settingsDefault
  deriving DecidableEq, Repr

def FaultCode.all : List FaultCode :=
  [.strOc, .strTjTrip, .strDerate, .strPrecharge, .strGate, .strDclinkOv,
   .gridDip, .gridRtExceed, .gridOv, .gridLost,
   .loopFlow, .loopFailed, .loopLimited, .coolSensor] ++
  [.auxRevoked, .auxBridge, .battLow, .battCritical,
   .vaneFault, .vaneDisagree, .yawDrive, .yawDrivesLow, .brakeFb, .yawDwellForced,
   .twistSoft, .twistHard, .twistSensor, .estop, .linkSilent, .linkOverrun,
   .untwistDue, .stormEntered, .settingsDefault]

/-- The code number, 1 to 33. -/
def FaultCode.num : FaultCode → Nat
  | .strOc => 1 | .strTjTrip => 2 | .strDerate => 3 | .strPrecharge => 4 | .strGate => 5 | .strDclinkOv => 6
  | .gridDip => 7 | .gridRtExceed => 8 | .gridOv => 9 | .gridLost => 10
  | .loopFlow => 11 | .loopFailed => 12 | .loopLimited => 13 | .coolSensor => 14
  | .auxRevoked => 15 | .auxBridge => 16 | .battLow => 17 | .battCritical => 18
  | .vaneFault => 19 | .vaneDisagree => 20 | .yawDrive => 21 | .yawDrivesLow => 22 | .brakeFb => 23
  | .yawDwellForced => 24 | .twistSoft => 25 | .twistHard => 26 | .twistSensor => 27 | .estop => 28
  | .linkSilent => 29 | .linkOverrun => 30 | .untwistDue => 31 | .stormEntered => 32 | .settingsDefault => 33

/-- How many units a code concerns. -/
def FaultCode.units : FaultCode → Nat
  | .strOc | .strTjTrip | .strDerate | .strPrecharge | .strGate | .strDclinkOv => 6
  | .loopFlow | .loopFailed | .vaneFault => 2
  | .loopLimited | .coolSensor => 3
  | .yawDrive => 10
  | _ => 1

/-- The index of a code's first row. -/
def FaultCode.firstRow : FaultCode → Nat
  | .strOc => 0 | .strTjTrip => 6 | .strDerate => 12 | .strPrecharge => 18 | .strGate => 24 | .strDclinkOv => 30
  | .gridDip => 36 | .gridRtExceed => 37 | .gridOv => 38 | .gridLost => 39
  | .loopFlow => 40 | .loopFailed => 42 | .loopLimited => 44 | .coolSensor => 47
  | .auxRevoked => 50 | .auxBridge => 51 | .battLow => 52 | .battCritical => 53
  | .vaneFault => 54 | .vaneDisagree => 56 | .yawDrive => 57 | .yawDrivesLow => 67 | .brakeFb => 68
  | .yawDwellForced => 69 | .twistSoft => 70 | .twistHard => 71 | .twistSensor => 72 | .estop => 73
  | .linkSilent => 74 | .linkOverrun => 75 | .untwistDue => 76 | .stormEntered => 77 | .settingsDefault => 78

/-- The Trip codes; their class is fixed and no other code can take it (R152). -/
def FaultCode.isTrip : FaultCode → Bool
  | .strOc | .strTjTrip | .strPrecharge | .strGate | .strDclinkOv
  | .gridRtExceed | .gridOv | .gridLost | .loopFailed | .brakeFb | .twistSensor | .estop => true
  | _ => false

/-- The classes SetFaultClass may give a code; a fixed code takes its own class alone (R152, R163). -/
def FaultCode.permitted : FaultCode → List FaultClass
  | .strDerate | .gridDip | .loopLimited | .linkOverrun => [.notice, .record]
  | .battCritical | .yawDrivesLow | .twistHard => [.derate]
  | c => if c.isTrip then [.trip] else [.derate, .notice, .record]

/-- The code of each of the 79 rows, in index order (R151). -/
def rowCodes : List FaultCode := FaultCode.all.flatMap fun c => List.replicate c.units c

/-- The row index of a code's unit, units counted from 1. -/
def rowOf (c : FaultCode) (unit : Nat) : Nat := c.firstRow + (unit - 1)

def codeOfRow (i : Nat) : FaultCode := rowCodes.getD i .settingsDefault

def unitOfRow (i : Nat) : Nat := i - (codeOfRow i).firstRow + 1

def FaultCode.ofNum (n : Nat) : Option FaultCode := if n = 0 then none else FaultCode.all[n - 1]?

/-- The class a code carries: the class setting (R152). -/
def classOf (s : State) (c : FaultCode) : FaultClass := s.store.working.classes.getD (c.num - 1) .notice

def FaultClass.code : FaultClass → Nat
  | .trip => 0 | .derate => 1 | .notice => 2 | .record => 3

def FaultClass.ofCode : Nat → Option FaultClass
  | 0 => some .trip | 1 => some .derate | 2 => some .notice | 3 => some .record | _ => none

/-! ## Reading rows -/

def rowAt (s : State) (i : Nat) : FaultRow := s.faults.rows.getD i .blank

def faultState (s : State) (c : FaultCode) (unit : Nat) : RowState := (rowAt s (rowOf c unit)).state

def isActive (s : State) (c : FaultCode) (unit : Nat) : Bool := faultState s c unit = .active

/-- Active or Latched: the hold of the trip gate (R158). -/
def isHeld (s : State) (c : FaultCode) (unit : Nat) : Bool := faultState s c unit ≠ .clear

def countRows (s : State) (p : FaultRow → Bool) : Nat := (s.faults.rows.filter p).length

def activeRows (s : State) : Nat := countRows s fun r => r.state = .active
def latchedRows (s : State) : Nat := countRows s fun r => r.state = .latched
def pendingRows (s : State) : Nat := countRows s fun r => r.pending

/-- Some Trip row of a table is Active or Latched. -/
def anyTripHeld (rows : List FaultRow) : Bool :=
  (rowCodes.zip rows).any fun (c, r) => c.isTrip && r.state ≠ .clear

/-! ## Twist position, read here for the snapshot -/

/-- The referred angle of an encoder angle (R123). -/
def referred (ref angle : Nat) : Nat := (angle + 3600 - ref) % 3600

/-- The twist position T × 3,600 + p of a record (R123). -/
def TwistRecord.position (r : TwistRecord) : Int := r.turns * 3600 + referred r.ref r.last

/-- θ, or unknown (R123). -/
def theta (s : State) : Option Int :=
  if s.retained.twist.valid then some s.retained.twist.position else none

/-! ## Raise, clear, acknowledge -/

/-- The snapshot of a raise: measured values as they stand, states as they stood before the event (R159, R160). -/
def snapshotNow (s : State) (i : Nat) : Snapshot where
  row := i
  time := s.clock
  mode := s.evt.mode
  grid := s.evt.grid
  u := s.grid.u
  source := s.evt.source
  iMeas := s.conv.strings.map fun _ r => r.iMeas
  tj := s.therm.recs.map fun _ r => r.tj
  theta := theta s
  motion := s.evt.motion
  inlet1 := s.therm.inlet1.inUse
  inlet2 := s.therm.inlet2.inUse

/-- A slot whose row is Clear, or Active and acknowledged, may be displaced (R160). -/
def displaceable (t : FaultTable) (k : Nat) : Bool :=
  match t.slots.getD (k - 1) none with
  | none => false
  | some snap =>
    let r := t.rows.getD snap.row .blank
    r.state = .clear || (r.state = .active && r.ack)

/-- The slot a capture for row `i` uses, by the first line of R160 that applies. -/
def chooseSlot (t : FaultTable) (i : Nat) : Option Nat :=
  match (t.rows.getD i .blank).slot with
  | some k => some k
  | none =>
    match [1, 2, 3, 4, 5, 6, 7, 8].find? fun k => (t.slots.getD (k - 1) none).isNone with
    | some k => some k
    | none => t.capture.find? (displaceable t)

/-- Rows other than `i` lose slot `k`. -/
def detachSlot (rows : List FaultRow) (k : Nat) : List FaultRow :=
  rows.map fun r => if r.slot = some k then { r with slot := none } else r

/-- Capture a snapshot for row `i` (R160). -/
def capture (t : FaultTable) (i : Nat) (snap : Snapshot) : FaultTable :=
  match chooseSlot t i with
  | none => { t with rows := updateAt t.rows i fun r => { r with slot := none, lost := true } }
  | some k =>
    { rows := updateAt (detachSlot t.rows k) i fun r => { r with slot := some k, lost := false }
      slots := t.slots.set (k - 1) (some snap)
      capture := t.capture.filter (· ≠ k) ++ [k] }

/-- A row entering Active (R153), with the first-fault mark judged against the other rows (R157). -/
def enterActive (s : State) (i : Nat) (r : FaultRow) : FaultRow :=
  { r with
    state := .active
    ack := false
    count := min 255 (r.count + 1)
    firstTime := if r.count = 0 then some s.clock else r.firstTime
    lastTime := some s.clock
    lastStamp := some s.evt.stamp
    pending := r.pending || classOf s (codeOfRow i) ≠ .record
    firstMark := r.firstMark ||
      ((codeOfRow i).isTrip && !anyTripHeld (s.faults.rows.set i .blank)) }

/-- The table after a raise of row `i` (R153). -/
def raiseIn (s : State) (i : Nat) : FaultTable :=
  if (rowAt s i).state = .active then s.faults
  else
    let t := { s.faults with rows := updateAt s.faults.rows i (enterActive s i) }
    if (codeOfRow i).isTrip then capture t i (snapshotNow s i) else t

/-- A raise by the owning block (R153). -/
def raise (c : FaultCode) (unit : Nat) (s : State) : State :=
  { s with faults := raiseIn s (rowOf c unit) }

/-- A row that its owner clears (R154). -/
def clearRow (noticed : Bool) (r : FaultRow) : FaultRow :=
  if r.state = .active then
    if r.ack then { r with state := .clear, ack := false, firstMark := false, pending := r.pending || noticed }
    else { r with state := .latched, pending := r.pending || noticed }
  else r

/-- A clear by the owning block (R154). -/
def clearFault (c : FaultCode) (unit : Nat) (s : State) : State :=
  { s with faults := { s.faults with
      rows := updateAt s.faults.rows (rowOf c unit) (clearRow (classOf s c ≠ .record)) } }

/-- Raise when a condition holds, clear when it does not. -/
def setFault (c : FaultCode) (unit : Nat) (present : Bool) (s : State) : State :=
  if present then raise c unit s else clearFault c unit s

/-- A row that is acknowledged (R155). -/
def ackRow (noticed : Bool) (r : FaultRow) : FaultRow :=
  match r.state with
  | .latched => { r with state := .clear, firstMark := false, pending := r.pending || noticed }
  | .active => { r with ack := true }
  | .clear => r

/-- Acknowledge row `i` (R155). -/
def ackAt (i : Nat) (s : State) : State :=
  { s with faults := { s.faults with
      rows := updateAt s.faults.rows i (ackRow (classOf s (codeOfRow i) ≠ .record)) } }

/-- Acknowledge the rows that `p` picks, in index order (R155, R145). -/
def ackWhere (p : Nat → FaultRow → Bool) (s : State) : State :=
  { s with faults := { s.faults with
      rows := s.faults.rows.mapIdx fun i r =>
        if p i r then ackRow (classOf s (codeOfRow i) ≠ .record) r else r } }

/-- How many rows an acknowledgement of all rows changes (R155). -/
def ackChanges (r : FaultRow) : Bool :=
  match r.state with
  | .latched => true
  | .active => !r.ack
  | .clear => false

/-! ## The pending order (R162) -/

/-- `a` goes before `b`: class, then the older last stamp, then the lower index. -/
def noticeBefore (s : State) (a b : Nat) : Bool :=
  let ca := (classOf s (codeOfRow a)).code
  let cb := (classOf s (codeOfRow b)).code
  let sa := (rowAt s a).lastStamp.getD 0
  let sb := (rowAt s b).lastStamp.getD 0
  ca < cb || (ca = cb && (sa < sb || (sa = sb && a < b)))

/-- The indices of the rows with notice pending. -/
def pendingList (s : State) : List Nat :=
  (s.faults.rows.zipIdx.filter fun (r, _) => r.pending).map (·.2)

/-- The head of the pending order. -/
def pendingHead (s : State) : Option Nat :=
  (pendingList s).foldl
    (fun best i => match best with
      | none => some i
      | some j => if noticeBefore s i j then some i else some j) none

/-- Free one snapshot slot; the row that named it loses it (R161). -/
def freeSlot (k : Nat) (t : FaultTable) : FaultTable :=
  { rows := detachSlot t.rows k
    slots := t.slots.set (k - 1) none
    capture := t.capture.filter (· ≠ k) }

end Sys2Proof.Machine
end

