-- ==== Sys2Proof/Machine/Ops.lean ====
section
/-! DEFINITION. Shared operations: the event in progress, and the auxiliary budget, its claim list, walk, source and marks (R81 to R94). -/

namespace Sys2Proof.Machine

/-! ## The event in progress -/

/-- A new event: the next place in the event order, numbered on from the cold start's 0 and through a warm restart (log 12), and the
states as they stand before it (R153, R160). -/
def beginEvent (s : State) : State :=
  { s with evt :=
      { stamp := s.evt.stamp + 1
        mode := s.mode.current
        grid := s.grid.state
        source := s.aux.source
        motion := s.yaw.motion } }

/-! ## The claim list (R82) -/

/-- Classes of claims, in the order of the walk. -/
inductive ClaimClass where
  | cooling | motion | comfort | service
  deriving DecidableEq, Repr

def ClaimClass.all : List ClaimClass := [.cooling, .motion, .comfort, .service]

/-- The claimants in list position order. -/
def claimList : List ClaimId :=
  [.pump1, .pump2, .fans1, .fans2, .fans3, .precharge, .yaw, .heaters, .charger, .hoist]

def claimClass : ClaimId → ClaimClass
  | .pump1 | .pump2 | .fans1 | .fans2 | .fans3 => .cooling
  | .precharge | .yaw => .motion
  | .heaters => .comfort
  | .charger | .hoist => .service

def Claims.get (c : Claims) : ClaimId → Claim
  | .pump1 => c.pump1 | .pump2 => c.pump2 | .fans1 => c.fans1 | .fans2 => c.fans2 | .fans3 => c.fans3
  | .precharge => c.precharge | .yaw => c.yaw | .heaters => c.heaters | .charger => c.charger | .hoist => c.hoist

def Claims.set (c : Claims) (id : ClaimId) (x : Claim) : Claims :=
  match id with
  | .pump1 => { c with pump1 := x }
  | .pump2 => { c with pump2 := x }
  | .fans1 => { c with fans1 := x }
  | .fans2 => { c with fans2 := x }
  | .fans3 => { c with fans3 := x }
  | .precharge => { c with precharge := x }
  | .yaw => { c with yaw := x }
  | .heaters => { c with heaters := x }
  | .charger => { c with charger := x }
  | .hoist => { c with hoist := x }

def claimOf (s : State) (id : ClaimId) : Claim := s.aux.claims.get id

def submitted (s : State) (id : ClaimId) : Bool := (claimOf s id).submitted

def grantOf (s : State) (id : ClaimId) : Nat := (claimOf s id).grant

/-- Change the ceiling of a claim; the claim keeps its place, and a change owes a walk (R82, R83). -/
def setCeiling (id : ClaimId) (ceiling : Nat) (s : State) : State :=
  { s with aux :=
      if (claimOf s id).ceiling = ceiling then s.aux
      else { s.aux with claims := s.aux.claims.set id { claimOf s id with ceiling := ceiling }, walkDue := true } }

/-- Submit a claim at a ceiling; it takes its place in the submission order at the walk of this event (R82).
A claim already submitted keeps its place. -/
def submitClaim (id : ClaimId) (ceiling : Nat) (s : State) : State :=
  { s with aux :=
      if (claimOf s id).submitted then (setCeiling id ceiling s).aux
      else { s.aux with
        claims := s.aux.claims.set id
          { claimOf s id with submitted := true, time := some s.clock, ceiling := ceiling, grant := 0 }
        walkDue := true } }

/-- Withdraw a claim: no longer submitted, grant 0, out of the order (R82). -/
def withdrawClaim (id : ClaimId) (s : State) : State :=
  { s with aux :=
      if (claimOf s id).submitted then
        { s.aux with
          claims := s.aux.claims.set id { claimOf s id with submitted := false, grant := 0 }
          order := s.aux.order.filter (· ≠ id)
          walkDue := true }
      else s.aux }

/-! ## The capacity record (R81) -/

def sourceCapacity (s : State) : Nat :=
  match s.aux.source with
  | .battery => Config.batteryLimit
  | .grid | .bridged => Config.auxTransformer

/-- A capacity less the two reserves, not below 0. -/
def lessReserves (s : State) (capacity : Nat) : Nat :=
  capacity - s.store.working.controlReserve - s.store.working.brakeReserve

def dispatchable (s : State) : Nat := lessReserves s (sourceCapacity s)

/-- The held dispatchable in Bridged, the dispatchable otherwise. -/
def dispatchableInForce (s : State) : Nat := s.aux.held.getD (dispatchable s)

/-! ## The walk (R83 to R86) -/

/-- The cap of the battery marks on a claim, or none (R84). -/
def markCap (s : State) (id : ClaimId) : Option Nat :=
  match s.aux.source with
  | .grid | .bridged => none
  | .battery =>
    match claimClass id with
    | .cooling => none
    | .motion =>
      if s.aux.criticalMark then (if id = .yaw then some 44 else some 0) else none
    | .comfort | .service =>
      if s.aux.lowMark || s.aux.criticalMark then some 0 else none

/-- What one claim is granted out of what remains (R83). -/
def grantFrom (s : State) (c : Claim) (id : ClaimId) (remaining : Nat) : Nat :=
  let amount := min c.ceiling (min remaining ((markCap s id).getD remaining))
  if amount ≥ c.floor then amount else 0

/-- The walk over submitted claims in the order given: the claims with their grants, and what remains. -/
def allocate (s : State) : List ClaimId → Claims → Nat → Claims × Nat
  | [], claims, remaining => (claims, remaining)
  | id :: rest, claims, remaining =>
    let c := claims.get id
    let g := grantFrom s c id remaining
    allocate s rest (claims.set id { c with grant := g }) (remaining - g)

/-- The submission order once this event's submissions have taken the last places, in list position order (R82). -/
def placedOrder (s : State) : List ClaimId :=
  s.aux.order ++ claimList.filter fun id => submitted s id && !s.aux.order.contains id

/-- The order of the walk: by class, then by submission (R83). -/
def walkOrder (order : List ClaimId) : List ClaimId :=
  ClaimClass.all.flatMap fun c => order.filter fun id => claimClass id = c

/-- Whether a walk revoked a claim's grant (R86). -/
def revoked (before after : Claims) (id : ClaimId) : Bool :=
  (after.get id).submitted && (after.get id).grant < min (before.get id).grant (after.get id).ceiling

/-- What each walk does to AUX_REVOKED (R86). -/
def judgeRevoked (before : Claims) (s : State) : State :=
  if claimList.any (revoked before s.aux.claims) then raise .auxRevoked 1 s
  else if claimList.any fun id => submitted s id && grantOf s id = 0 then s
  else clearFault .auxRevoked 1 s

/-- The claim list and the spare as the walk leaves them. -/
def walkBudget (s : State) : Budget :=
  let order := placedOrder s
  let result := allocate s (walkOrder order) s.aux.claims (dispatchableInForce s)
  { s.aux with
    claims := result.1
    order := order
    spare := result.2
    walkDue := false
    chargerPower := result.1.charger.grant
    hoistOn := result.1.hoist.grant = 30 }

/-- The allocation walk (R83), with the charger, hoist and heater outputs following their grants (R77, R94, R96). -/
def runWalk (s : State) : State :=
  let t := { s with aux := walkBudget s }
  judgeRevoked s.aux.claims
    { t with cool := { t.cool with heaterOn := t.aux.claims.heaters.grant = 20 } }

/-- A walk is owed at the end of this event. -/
def oweWalk (s : State) : State := { s with aux := { s.aux with walkDue := true } }

/-! ## The battery charger and the marks (R93, R94) -/

/-- The charger is submitted on Grid below full. -/
def judgeCharger (s : State) : State :=
  if s.aux.source = .grid ∧ s.retained.energy < Config.batteryCapacity then
    if submitted s .charger then s else submitClaim .charger 40 s
  else s

/-- A mark after a judgement: set below `low`, cleared from 162,000 kJ, kept between (R93). -/
def judgedMark (mark : Bool) (low energy : Nat) : Bool :=
  if energy < low then true else if energy ≥ 162000 then false else mark

/-- Write a mark's new value: its row follows, and a change owes a walk (R93, R83). -/
def writeMarks (low critical : Bool) (s : State) : State :=
  let t := { s with aux := { s.aux with
      lowMark := low
      criticalMark := critical
      walkDue := s.aux.walkDue || low ≠ s.aux.lowMark || critical ≠ s.aux.criticalMark } }
  let t := if low ≠ s.aux.lowMark then setFault .battLow 1 low t else t
  if critical ≠ s.aux.criticalMark then setFault .battCritical 1 critical t else t

/-- Judge both marks against the energy (R93). -/
def judgeMarks (s : State) : State :=
  writeMarks (judgedMark s.aux.lowMark 129600 s.retained.energy)
    (judgedMark s.aux.criticalMark 64800 s.retained.energy) s

/-- Write the battery energy estimate, with its check rewritten (R186). -/
def writeEnergy (energy : Nat) (s : State) : State :=
  { s with retained := { s.retained with energy := energy, energyCheck := true } }

/-! ## The source (R88 to R91) -/

/-- The source becomes Battery: from Bridged or Grid (R89, R90). -/
def sourceToBattery (s : State) : State :=
  let t := withdrawClaim .charger s
  let t := { t with aux := { t.aux with
      source := .battery, held := none, bridge := none, normal := none, walkDue := true } }
  if s.aux.source = .bridged then clearFault .auxBridge 1 t else t

/-- The source becomes Grid: from Bridged at Recovering or from Battery after 10 s of Normal (R89, R91). -/
def sourceToGrid (s : State) : State :=
  let t := { s with aux := { s.aux with
      source := .grid, held := none, bridge := none, normal := none, walkDue := true } }
  let t := if s.aux.source = .bridged then clearFault .auxBridge 1 t else t
  judgeCharger t

/-- Grid becomes Dip (R88, R91). -/
def auxOnDip (s : State) : State :=
  match s.aux.source with
  | .grid =>
    let t := { s with aux := { s.aux with
        source := .bridged
        held := some (lessReserves s Config.auxTransformer)
        bridge := startTimer s.clock s.store.working.bridgeInterval } }
    withdrawClaim .charger (raise .auxBridge 1 t)
  | .bridged => s
  | .battery => { s with aux := { s.aux with normal := none } }

/-- Grid becomes Recovering (R89, R91). -/
def auxOnRecovering (s : State) : State :=
  match s.aux.source with
  | .grid => s
  | .bridged => sourceToGrid s
  | .battery => { s with aux := { s.aux with normal := none } }

/-- Grid becomes Normal (R91). -/
def auxOnNormal (s : State) : State :=
  match s.aux.source with
  | .grid | .bridged => s
  | .battery => { s with aux := { s.aux with normal := startTimer s.clock 10000 } }

/-- Grid becomes Lost (R89, R90). -/
def auxOnLost (s : State) : State :=
  match s.aux.source with
  | .grid | .bridged => sourceToBattery s
  | .battery => { s with aux := { s.aux with normal := none } }

end Sys2Proof.Machine
end

