-- ==== Sys2Proof/Machine/Strings.lean ====
section
/-! DEFINITION. The converter supervisor: string state machine, precharge queue, share interval and power sharing (R1 to R23). -/

namespace Sys2Proof.Machine

/-! ## Records -/

def strOf (s : State) (k : StringId) : StringRec := s.conv.strings.get k

/-- Change one string record. -/
def modStr (k : StringId) (f : StringRec → StringRec) (s : State) : State :=
  { s with conv := { s.conv with strings := s.conv.strings.set k (f (strOf s k)) } }

def loopOf (s : State) : Liquid → LiquidLoop
  | .l1 => s.cool.l1
  | .l2 => s.cool.l2

/-- Change the record of one liquid loop. -/
def modLoop (l : Liquid) (f : LiquidLoop → LiquidLoop) (s : State) : State :=
  { s with cool :=
      match l with
      | .l1 => { s.cool with l1 := f s.cool.l1 }
      | .l2 => { s.cool with l2 := f s.cool.l2 } }

/-- The requirement of a loop is to be judged in this event (R64). -/
def oweJudgement (l : Liquid) (s : State) : State := modLoop l (fun r => { r with judge := true }) s

def oweBothJudgements (s : State) : State := oweJudgement .l2 (oweJudgement .l1 s)

/-- A change of a string's state is an event of R64 for its loop. -/
def setStrState (k : StringId) (st : StrState) (s : State) : State :=
  oweJudgement k.loop (modStr k (fun r => { r with state := st }) s)

/-- A loop that is Running or Degraded. -/
def LoopState.flowing : LoopState → Bool
  | .running | .degraded => true
  | .off | .starting | .failed => false

def loopFlowing (s : State) (l : Liquid) : Bool := (loopOf s l).state.flowing

/-- Running or Derated: an eligible string (R1). -/
def StrState.eligible : StrState → Bool
  | .running | .derated => true
  | _ => false

/-- The states that a mode, grid or loop event stops (R12, R13). -/
def StrState.stoppable : StrState → Bool
  | .precharging | .ready | .running | .derated => true
  | _ => false

/-- Offline, Isolated or Faulted: done for a transition to Parked or Storm (R140). -/
def StrState.done : StrState → Bool
  | .offline | .isolated | .faulted => true
  | _ => false

/-- The five Trip codes of a string (R6). -/
def stringTrips : List FaultCode := [.strOc, .strTjTrip, .strPrecharge, .strGate, .strDclinkOv]

def stringGated (s : State) (k : StringId) : Bool := stringTrips.any fun c => isHeld s c k.num

/-! ## Queue -/

def setQueue (q : List StringId) (s : State) : State := { s with conv := { s.conv with queue := q } }

/-- Empty the precharge queue; loops lose a cause of R64. -/
def emptyQueue (s : State) : State :=
  if s.conv.queue = [] then s else oweBothJudgements (setQueue [] s)

/-- Take one string out of the queue. -/
def dequeue (k : StringId) (s : State) : State :=
  oweJudgement k.loop (setQueue (s.conv.queue.filter (· ≠ k)) s)

/-- The conditions of R7. -/
def mayJoin (s : State) (k : StringId) : Bool :=
  (strOf s k).state = .offline &&
  (s.mode.current = .idle || s.mode.current = .generating) &&
  !(s.mode.target = some .parked || s.mode.target = some .storm) &&
  (strOf s k).enabled &&
  !s.conv.queue.contains k &&
  (loopOf s k.loop).state ≠ .failed

/-- Test R7 for one string; it joins the tail of the queue. -/
def testJoin (k : StringId) (s : State) : State :=
  if mayJoin s k then oweJudgement k.loop (setQueue (s.conv.queue ++ [k]) s) else s

/-- Test R7 for several strings, in ascending number. -/
def testJoins (ks : List StringId) (s : State) : State := forEach ks testJoin s

/-! ## Stopping and Faulted -/

/-- What leaving the precharge circuit means for a record (R10). -/
def StringRec.offCircuit (r : StringRec) : StringRec :=
  { r with phase := none, precharge := none, out := { r.out with prechargeOn := false } }

/-- Pulses blocked and stop ordered at once, with no share (R4). -/
def StringRec.blocked (r : StringRec) : StringRec :=
  { r with share := 0, p := 0, q := 0
           out := { r.out with run := false, pulseBlock := true, share := 0, p := 0, q := 0 } }

/-- Enter Stopping with the given blocked-stop field (R11 to R13). -/
def stopString (blockedStop : Bool) (k : StringId) (s : State) : State :=
  setStrState k .stopping (modStr k (fun r =>
    let r := { r.offCircuit with blockedStop := some blockedStop }
    if blockedStop then r.blocked else r) s)

/-- One string at an event that stops strings: a stoppable one enters Stopping; a Stopping one turns to blocked stop when
the event blocks (R12, R13). -/
def stopOne (blockedStop : Bool) (k : StringId) (s : State) : State :=
  if (strOf s k).state.stoppable then stopString blockedStop k s
  else if blockedStop && (strOf s k).state = .stopping then
    modStr k (fun r => { r.blocked with blockedStop := some true }) s
  else s

/-- Stop every string and empty the queue (R12, R13). -/
def stopStrings (blockedStop : Bool) (s : State) : State :=
  emptyQueue (forEach StringId.all (stopOne blockedStop) s)

/-- Entry to Faulted, from any state but Isolated and Faulted (R5). -/
def faultString (k : StringId) (s : State) : State :=
  if (strOf s k).state = .isolated ∨ (strOf s k).state = .faulted then s
  else
    dequeue k (setStrState k .faulted (modStr k (fun r =>
      let r := { r.offCircuit.blocked with blockedStop := none }
      { r with out := { r.out with contactorClosed := false } }) s))

/-- A Trip row of a string raised, with the string Faulted in the event (R5). -/
def tripString (c : FaultCode) (k : StringId) (s : State) : State := faultString k (raise c k.num s)

/-! ## Precharge (R8 to R10) -/

def isPrecharging (s : State) (k : StringId) : Bool := (strOf s k).state = .precharging

def anyPrecharging (s : State) : Bool := StringId.all.any (isPrecharging s)

def prechargeGranted (s : State) : Bool := grantOf s .precharge = 25

/-- The head string begins its precharge, when none is Precharging and the grant is 25 kW (R8). -/
def beginPrecharge (s : State) : State :=
  match s.conv.queue with
  | [] => s
  | k :: rest =>
    if anyPrecharging s || !prechargeGranted s then s
    else setStrState k .precharging
      (modStr k (fun r => { r with phase := some .loopWait, precharge := none }) (setQueue rest s))

/-- A Precharging string follows its loop between Loop wait and Charging (R8, R10). -/
def followLoop (k : StringId) (s : State) : State :=
  if isPrecharging s k then
    match (strOf s k).phase, loopFlowing s k.loop with
    | some .loopWait, true =>
      modStr k (fun r => { r with
        phase := some .charging
        precharge := startTimer s.clock 4000
        out := { r.out with prechargeOn := true } }) s
    | some .charging, false =>
      modStr k (fun r => { r.offCircuit with phase := some .loopWait }) s
    | _, _ => s
  else s

/-- The claim stands while the queue holds a string or one is Precharging (R8). -/
def followPrechargeClaim (s : State) : State :=
  if s.conv.queue ≠ [] ∨ anyPrecharging s then
    if submitted s .precharge then s else submitClaim .precharge 25 s
  else withdrawClaim .precharge s

/-- Everything the precharge does by itself inside an event. -/
def followPrecharge (s : State) : State :=
  followPrechargeClaim (forEach StringId.all followLoop (beginPrecharge s))

/-- The grant reduced to 0: the precharge is aborted and the string returns to the head of the queue (R10). -/
def abortPrecharge (k : StringId) (s : State) : State :=
  if isPrecharging s k then
    setStrState k .offline (modStr k StringRec.offCircuit (setQueue (k :: s.conv.queue) s))
  else s

/-! ## String reports (R2, R9) -/

def chargeSuccess (k : StringId) (s : State) : State :=
  if isPrecharging s k && (strOf s k).phase = some .charging && (strOf s k).precharge.isSome
      && (strOf s k).uDc ≥ 4860 then
    setStrState k .ready (modStr k (fun r =>
      { r.offCircuit with out := { r.offCircuit.out with contactorClosed := true } }) s)
  else s

/-- The current test of a report (R2). -/
def testCurrent (k : StringId) (current : Nat) (s : State) : State :=
  if current > 600 then
    let t := modStr k (fun r => { r with overrange := min 3 (r.overrange + 1) }) s
    if (strOf t k).overrange = 3 then tripString .strOc k t else t
  else clearFault .strOc k.num (modStr k (fun r => { r with overrange := 0 }) s)

/-- The DC-link test of a report (R2). -/
def testDcLink (k : StringId) (s : State) : State :=
  if (strOf s k).uDc > 6210 then tripString .strDclinkOv k s
  else if (strOf s k).uDc ≤ 5940 then clearFault .strDclinkOv k.num s
  else s

/-- The module fault flag of a report (R2). -/
def testGate (k : StringId) (moduleFault : Bool) (s : State) : State :=
  if moduleFault then tripString .strGate k s else clearFault .strGate k.num s

/-- A report arrives from a string module (R2, R9). An Isolated string's report writes what it measures and leaves the
overrange run as it stands (log 41). -/
def takeReport (k : StringId) (current uDc : Nat) (moduleFault : Bool) (s : State) : State :=
  let t := modStr k (fun r => { r with
    iMeas := min current 600, uDc := min uDc 8000, silence := 0, reported := true }) s
  if (strOf s k).state = .isolated then t
  else chargeSuccess k (testGate k moduleFault (testDcLink k (testCurrent k current t)))

/-- The precharge timer of a string expires (R9). -/
def timeoutPrecharge (k : StringId) (s : State) : State :=
  if isPrecharging s k && (strOf s k).phase = some .charging && (strOf s k).precharge.isSome then
    tripString .strPrecharge k s
  else s

/-! ## SetStringEnable (R14) -/

/-- The string record of a string that goes to Isolated. -/
def StringRec.opened (r : StringRec) : StringRec :=
  { r.offCircuit with out := { r.offCircuit.out with contactorClosed := false } }

def disableString (k : StringId) (s : State) : State :=
  let t :=
    match (strOf s k).state with
    | .running | .derated => stopString false k (modStr k (fun r => { r with isolateOnEnd := true }) s)
    | .stopping | .faulted => modStr k (fun r => { r with isolateOnEnd := true }) s
    | .ready | .precharging => setStrState k .isolated (modStr k StringRec.opened s)
    | .offline => dequeue k (setStrState k .isolated s)
    | .isolated => s
  modStr k (fun r => { r with enabled := false }) t

/-- The string turned on: an Isolated one enters Offline, and R7 is tested whatever state it is in (R7, R14). -/
def enableString (k : StringId) (s : State) : State :=
  let t := modStr k (fun r => { r with enabled := true }) s
  testJoin k
    (match (strOf s k).state with
    | .isolated => setStrState k .offline t
    | .stopping | .faulted => modStr k (fun r => { r with isolateOnEnd := false }) t
    | .offline | .precharging | .ready | .running | .derated => t)

/-! ## The share interval (R17) -/

/-- Step 1: silence counts (R3). -/
def silenceStep (k : StringId) (s : State) : State :=
  let r := strOf s k
  let t := modStr k (fun r => { r with reported := false }) s
  if r.state = .isolated ∨ r.reported then t
  else
    let t := modStr k (fun r => { r with silence := min 3 (r.silence + 1) }) t
    if (strOf t k).silence = 3 then tripString .strGate k t else t

/-- Step 2: STR_PRECHARGE rows raised at earlier events are cleared (R9). -/
def clearPrechargeRow (k : StringId) (s : State) : State := clearFault .strPrecharge k.num s

/-- Step 3: a Faulted string with its five rows Clear is released (R6). -/
def releaseStep (k : StringId) (s : State) : State :=
  if (strOf s k).state = .faulted ∧ stringGated s k = false then
    if (strOf s k).isolateOnEnd then
      setStrState k .isolated (modStr k (fun r => { r with isolateOnEnd := false }) s)
    else setStrState k .offline s
  else s

/-- Step 4: Ready strings run in Generating (R12). -/
def runStep (k : StringId) (s : State) : State :=
  if s.mode.current = .generating ∧ (strOf s k).state = .ready then setStrState k .running s else s

/-- The current limit of a string (R18). -/
def limitOf (s : State) (k : StringId) : Nat :=
  min (s.therm.recs.get k).limit (Config.iRated * (loopOf s k.loop).clamp / 100)

/-- Step 5: current limits and the Running/Derated choice (R18). -/
def limitStep (k : StringId) (s : State) : State :=
  let t := modStr k (fun r => { r with iLim := limitOf s k }) s
  if (strOf s k).state.eligible then
    setStrState k (if limitOf s k < Config.iRated then .derated else .running) t
  else t

/-! ### The sharing computation (R19 to R23) -/

def eligible (s : State) (k : StringId) : Bool := (strOf s k).state.eligible

/-- Cap_k (R19). -/
def capOf (s : State) (k : StringId) : Nat :=
  if eligible s k then (strOf s k).iLim * s.grid.volts * 1732 / 1000000 else 0

def sumOver (f : StringId → Nat) : Nat := (StringId.all.map f).sum

def capTotal (s : State) : Nat := sumOver (capOf s)

/-- Cap_eff: Cap_total limited by the misalignment cap, none counting as 15,000 (R19). -/
def capEff (s : State) : Nat := min (capTotal s) (s.yaw.cap.getD 15000)

/-- The reactive demand of K_q at a voltage deviation (R20). -/
def injection (s : State) (deviation : Nat) : Nat :=
  min Config.qMax (s.store.working.kq * deviation * 15000 / 10000)

/-- The demanded Q, by the first line of R20 that applies. -/
def demandQ (s : State) : Int :=
  if s.grid.state = .dip then injection s (900 - s.grid.u)
  else if s.grid.m3.beyond then -((injection s (s.grid.u - 1100) : Nat) : Int)
  else s.conv.request.q

/-- The P ramp in force (R20). -/
def rampP (s : State) : Nat :=
  if s.grid.state = .recovering then s.store.working.recoveryRamp else s.conv.request.rampP

def rampedP (s : State) : Int := moveToward s.conv.granted.p s.conv.request.p (rampP s)
def rampedQ (s : State) : Int := moveToward s.conv.granted.q (demandQ s) s.conv.request.rampQ

/-- The priority in force: Q in Dip and in the first 500 ms of Recovering (R21). -/
def priorityNow (s : State) : Priority :=
  if s.grid.state = .dip then .q
  else match s.grid.recovery with
    | some r => if s.grid.state = .recovering ∧ r.qHold then .q else .p
    | none => .p

/-- isqrt of the sum of two squares. -/
def apparent (p q : Int) : Nat := isqrt (p.natAbs * p.natAbs + q.natAbs * q.natAbs)

/-- What is left of a capacity beside one part. -/
def besides (capacity : Nat) (part : Int) : Nat := isqrt (capacity * capacity - part.natAbs * part.natAbs)

/-- P_g and Q_g before M2 is looked at (R21). -/
def grantPQ (pr qr : Int) (capacity : Nat) (prio : Priority) : Int × Int :=
  if apparent pr qr ≤ capacity then (pr, qr)
  else match prio with
    | .p =>
      let pg := min pr (capacity : Int)
      (pg, limitMagnitude qr (besides capacity pg))
    | .q =>
      let qg := limitMagnitude qr capacity
      (min pr (besides capacity qg : Int), qg)

/-- The granted-power record of this expiry (R20 to R22). -/
def grantedNow (s : State) : Granted :=
  let prio := priorityNow s
  let g := grantPQ (rampedP s) (rampedQ s) (capEff s) prio
  let pg := if s.grid.m2.beyond then 0 else g.1
  { p := pg, q := g.2, s := apparent pg g.2, priority := prio }

/-- share_k before the remainder (R22). -/
def baseShare (s : State) (total : Nat) (k : StringId) : Nat := total * capOf s k / capTotal s

/-- Insert a string before the first whose Tj is not lower; among equals the lower number stays first. -/
def insertByTj (s : State) (k : StringId) : List StringId → List StringId
  | [] => [k]
  | m :: rest =>
    if (s.therm.recs.get k).tj ≤ (s.therm.recs.get m).tj then k :: m :: rest
    else m :: insertByTj s k rest

/-- The eligible strings in ascending Tj, ties to the lower number (R22). -/
def byTj (s : State) : List StringId :=
  (StringId.all.filter (eligible s)).foldr (insertByTj s) []

/-- Hand out a remainder 1 kVA at a time to strings whose share is below their Cap (R22). -/
def handOut (s : State) : List StringId → Nat → Six Nat → Six Nat
  | [], _, shares => shares
  | _ :: _, 0, shares => shares
  | k :: rest, n + 1, shares =>
    if shares.get k < capOf s k then handOut s rest n (shares.set k (shares.get k + 1))
    else handOut s rest (n + 1) shares

/-- The shares of all strings for an apparent power (R22). -/
def sharesFor (s : State) (total : Nat) : Six Nat :=
  let base : Six Nat := ⟨baseShare s total .s1, baseShare s total .s2, baseShare s total .s3,
    baseShare s total .s4, baseShare s total .s5, baseShare s total .s6⟩
  handOut s (byTj s) (total - sumOver base.get) base

/-- A string record after the sharing computation (R19, R22, R23). -/
def shareRecord (s : State) (g : Granted) (shares : Six Nat) (k : StringId) (r : StringRec) : StringRec :=
  if r.state.eligible then
    { r with cap := capOf s k, share := shares.get k
             p := scale (shares.get k) g.p g.s, q := scale (shares.get k) g.q g.s }
  else { r with cap := 0 }

/-- Step 6: the sharing computation in Generating, zeros in any other mode (R16, R19 to R23). Outside Generating
no share interval finds a capacity, and Cap keeps the value of the latest one in Generating (log 42). -/
def sharingStep (s : State) : State :=
  if s.mode.current = .generating then
    let g := grantedNow s
    let shares := sharesFor s g.s
    { s with conv := { s.conv with granted := g, strings := s.conv.strings.map (shareRecord s g shares) } }
  else
    { s with conv := { s.conv with
        granted := ⟨0, 0, 0, .p⟩
        strings := s.conv.strings.map fun _ r =>
          if r.state.eligible then { r with share := 0, p := 0, q := 0 } else r } }

/-- A stop completes (R11). -/
def completeStop (k : StringId) (s : State) : State :=
  let r := strOf s k
  let t := modStr k (fun r => { r with blockedStop := none }) s
  let opened := modStr k (fun r => { r with out := { r.out with contactorClosed := false } }) t
  if r.isolateOnEnd then
    setStrState k .isolated (modStr k (fun r => { r with isolateOnEnd := false }) opened)
  else if r.blockedStop = some false ∧ s.mode.current = .generating ∧ s.mode.target = none
      ∧ loopFlowing s k.loop then
    setStrState k .ready t
  else setStrState k .offline opened

/-- The share of a ramping stop after this expiry (R11). -/
def rampedShare (s : State) (k : StringId) : Nat :=
  if s.mode.current = .generating then (strOf s k).share - s.conv.request.rampP else 0

/-- Step 7: Stopping ramps and completions (R11). -/
def stoppingStep (k : StringId) (s : State) : State :=
  if (strOf s k).state = .stopping then
    if (strOf s k).blockedStop = some true then completeStop k s
    else
      let n := rampedShare s k
      let t := modStr k (fun r => { r with share := n, p := scale r.p n r.share, q := scale r.q n r.share }) s
      if n = 0 then completeStop k t else t
  else s

/-- The command a module is sent, by its string's state (R4). -/
def commandFor (r : StringRec) : ModuleCommand :=
  match r.state with
  | .offline | .faulted | .isolated => ModuleCommand.stopped
  | .precharging => { ModuleCommand.stopped with prechargeOn := r.phase = some .charging }
  | .ready => ⟨true, false, false, false, 0, 0, 0⟩
  | .running | .derated => ⟨true, false, true, false, r.share, r.p, r.q⟩
  | .stopping =>
    if r.blockedStop = some true then { ModuleCommand.stopped with contactorClosed := r.out.contactorClosed }
    else ⟨true, false, true, false, r.share, r.p, r.q⟩

/-- Step 8: the commands to the modules (R4). -/
def commandStep (s : State) : State :=
  { s with conv := { s.conv with strings := s.conv.strings.map fun _ r => { r with out := commandFor r } } }

/-- A string that has entered Offline in this event tests R7 (R7). -/
def joinEntered (before : State) (k : StringId) (s : State) : State :=
  if (strOf s k).state = .offline ∧ (strOf before k).state ≠ .offline then testJoin k s else s

/-- Steps 1 to 5 of the share interval: the state that the sharing computation receives (R17). -/
def beforeSharing (s : State) : State :=
  let s := forEach StringId.all silenceStep s
  let s := forEach StringId.all clearPrechargeRow s
  let s := forEach StringId.all releaseStep s
  let s := forEach StringId.all runStep s
  forEach StringId.all limitStep s

/-- The eight steps of the share interval, in order (R17). The strings released at step 3 and stopped at step 7 join the
queue together, in ascending number, since one event makes them Offline (R7). -/
def shareInterval (s : State) : State :=
  let t := forEach StringId.all stoppingStep (sharingStep (beforeSharing s))
  commandStep (forEach StringId.all (joinEntered s) t)

end Sys2Proof.Machine
end

