-- ==== Sys2Proof/Machine/Loops.lean ====
section
/-! DEFINITION. The thermal model and the cooling controller: inlets, loss filter, junction estimate, loops, flow proofs, fan stages, clamps and heaters (R46 to R80). -/

namespace Sys2Proof.Machine

/-! ## Temperatures in use (R56, R57, R76) -/

/-- What a sensor's row does after a reading. -/
inductive RowAct where
  | raised | cleared | left
  deriving DecidableEq, Repr

/-- A reading the sensor input shows as good (R56, R76). -/
def validTemp (x : Int) : Bool := -400 ≤ x && x ≤ 1500

/-- A temperature in use after the reading of interval `now`; `period` is the interval in ms, `sub` the substitute (R56, R57,
R76). A hold that the start began (R61, R80) runs on from the start at an invalid first reading (log 43). -/
def readTemp (old : Inlet) (now period : Nat) (sub reading : Int) : Inlet × RowAct :=
  if validTemp reading then
    ({ inUse := reading, source := .reading, lastValid := some reading, holdStart := none }, .cleared)
  else
    let start := old.holdStart.getD now
    if old.source = .substitute then ({ old with inUse := sub }, .left)
    else if (now - start) * period ≥ 5000 then
      ({ old with inUse := sub, source := .substitute, holdStart := some start }, .raised)
    else
      ({ old with
          inUse := if old.lastValid.isSome then old.inUse else sub
          source := .held
          holdStart := some start }, .left)

def rowAct (a : RowAct) (c : FaultCode) (unit : Nat) (s : State) : State :=
  match a with
  | .raised => raise c unit s
  | .cleared => clearFault c unit s
  | .left => s

def inletOf (s : State) : Liquid → Inlet
  | .l1 => s.therm.inlet1
  | .l2 => s.therm.inlet2

def setInlet (l : Liquid) (x : Inlet) (s : State) : State :=
  { s with therm :=
      match l with
      | .l1 => { s.therm with inlet1 := x }
      | .l2 => { s.therm with inlet2 := x } }

def setpointOf (s : State) : Liquid → Nat
  | .l1 => s.store.working.setpoint1
  | .l2 => s.store.working.setpoint2

def dutyOf (s : State) : Liquid → Pump
  | .l1 => s.store.working.duty1
  | .l2 => s.store.working.duty2

/-- The substitute of a lost inlet sensor: setpoint + 150 (R57). -/
def substituteOf (s : State) (l : Liquid) : Int := setpointOf s l + 150

/-- Step 1 of the thermal interval for one loop (R56, R57). -/
def readInlet (l : Liquid) (reading : Int) (s : State) : State :=
  let r := readTemp (inletOf s l) s.therm.intervalNo 100 (substituteOf s l) reading
  rowAct r.2 .coolSensor l.num (setInlet l r.1 s)

/-- The 5 s of a hold are up: the source becomes Substitute (R57). -/
def substituteInlet (l : Liquid) (s : State) : State :=
  let i := inletOf s l
  if i.source = .held ∧ i.holdStart.isSome then
    raise .coolSensor l.num (setInlet l { i with inUse := substituteOf s l, source := .substitute } s)
  else s

/-! ## Loss, rise and limit (R48 to R53) -/

/-- I_used of a string (R48). -/
def usedCurrent (s : State) (k : StringId) : Nat :=
  match (strOf s k).state with
  | .precharging | .ready | .running | .derated | .stopping => (strOf s k).iMeas
  | .offline | .faulted | .isolated => 0

/-- P_loss, the two terms truncated apart (R49). -/
def lossOf (i : Nat) : Nat := Config.c1 * i / 100 + Config.c2 * i * i / 1000

/-- The settled rise of a loss (R50). -/
def targetOf (loss : Nat) : Nat := loss * Config.rth / 1000

/-- The step of the rise filter, at least one while a difference stands (R51). -/
def riseStep (d : Int) (alpha : Nat) : Int :=
  let step := Int.tdiv (d * alpha) 256
  if d ≠ 0 ∧ step = 0 then (if d > 0 then 1 else -1) else step

/-- T_rise after an interval (R51). -/
def riseAfter (rise target alpha : Nat) : Nat :=
  (clampInt (rise + riseStep ((target : Int) - rise) alpha) 0 2000).toNat

/-- The thermal limit of a junction estimate (R53). -/
def limitAt (tj td tx : Int) : Nat :=
  if tj ≤ td then Config.iRated
  else if tj ≥ tx then 0
  else Config.iRated - ((Config.iRated - Config.iFloor) * (tj - td).toNat / (tx - td).toNat)

/-- Step 2 of the thermal interval for one string (R48 to R53). -/
def thermAfter (s : State) (k : StringId) (r : ThermRec) : ThermRec :=
  let i := usedCurrent s k
  let loss := lossOf i
  let target := targetOf loss
  let rise := riseAfter r.tRise target s.store.working.alpha
  let tj := clampInt ((inletOf s k.loop).inUse + rise) (-400) 2500
  { iUsed := i, pLoss := loss, target := target, tRise := rise, tj := tj,
    limit := limitAt tj s.store.working.td s.store.working.tx }

/-- The STR_TJ_TRIP test of a string (R54). -/
def testJunction (k : StringId) (s : State) : State :=
  let tj := (s.therm.recs.get k).tj
  if tj ≥ s.store.working.tx then
    if (strOf s k).state = .isolated then s else tripString .strTjTrip k s
  else if tj ≤ s.store.working.td then clearFault .strTjTrip k.num s
  else s

/-- The STR_DERATE test of a string (R55). -/
def testDerate (k : StringId) (s : State) : State :=
  if (s.therm.recs.get k).limit < Config.iRated then
    if (strOf s k).state = .isolated then s else raise .strDerate k.num s
  else clearFault .strDerate k.num s

/-- The heat load of a loop: its strings' losses and its base load (R58). -/
def heatLoad (s : State) (l : Liquid) : Nat :=
  ((l.strings.map fun k => (s.therm.recs.get k).pLoss).sum) +
    (match l with | .l1 => s.store.working.baseLoad1 | .l2 => s.store.working.baseLoad2)

/-- The thermal interval (R47). -/
def thermalInterval (inlet1 inlet2 : Int) (s : State) : State :=
  let s := { s with therm := { s.therm with intervalNo := s.therm.intervalNo + 1 } }
  let s := readInlet .l2 inlet2 (readInlet .l1 inlet1 s)
  let s := { s with therm := { s.therm with recs := s.therm.recs.map (thermAfter s) } }
  let s := forEach StringId.all (fun k t => testDerate k (testJunction k t)) s
  let s := { s with therm := { s.therm with heat1 := heatLoad s .l1, heat2 := heatLoad s .l2 } }
  oweBothJudgements s

/-- Write the thermal limit of one string from its stored Tj (R53, R59). -/
def relimit (k : StringId) (s : State) : State :=
  let r := s.therm.recs.get k
  let limit := limitAt r.tj s.store.working.td s.store.working.tx
  { s with therm := { s.therm with recs := s.therm.recs.set k { r with limit := limit } } }

/-- A change of T_d or T_x acts on every string from its stored Tj (R59). -/
def applyThermalSettings (s : State) : State :=
  forEach StringId.all (fun k t => testDerate k (testJunction k (relimit k t))) s

/-! ## Loops: records and claims -/

def pumpClaim : Liquid → ClaimId
  | .l1 => .pump1
  | .l2 => .pump2

def fanClaim : Liquid → ClaimId
  | .l1 => .fans1
  | .l2 => .fans2

/-- The number of channels not marked failed (R62, R63). -/
def maxStage (fans : List FanChannel) : Nat := (fans.filter fun c => !c.failed).length

/-- Granted stage of a liquid loop: fan grant / 8 (R62). -/
def grantedStage (s : State) (l : Liquid) : Nat := grantOf s (fanClaim l) / 8

/-- Granted stage of L3: fan grant / 6 (R62). -/
def grantedStage3 (s : State) : Nat := grantOf s .fans3 / 6

/-- The demanded stage: the stage demand limited to the maximum stage (R62). -/
def demandedStage (r : LiquidLoop) : Nat := min r.demand (maxStage r.fans)
def demandedStage3 (r : AirLoop) : Nat := min r.demand (maxStage r.fans)

/-- The current mode stops the run-on and raises the temperature bar (R64, R72). -/
def scarce (s : State) : Bool := s.mode.current = .isolated || s.mode.current = .storm

/-- The inlet above which a loop is required (R64). -/
def hotBar (s : State) : Int := if scarce s then 550 else 450

/-- A string state that keeps its loop required and its selection above 0 (R64, R71). -/
def StrState.needsLoop : StrState → Bool
  | .precharging | .ready | .running | .derated | .stopping => true
  | .offline | .faulted | .isolated => false

/-- The requirement of a liquid loop (R64). -/
def requiredNow (s : State) (l : Liquid) : Bool :=
  (l.strings.any fun k => s.conv.queue.contains k || (strOf s k).state.needsLoop) ||
  (inletOf s l).inUse > hotBar s ||
  ((loopOf s l).runOn.isSome && !scarce s)

/-- The feed-forward stage of a heat load (R71). -/
def feedForward (heat : Nat) : Nat :=
  if heat < 40000 then 1 else if heat < 80000 then 2 else if heat < 120000 then 3 else 4

def heatOf (s : State) : Liquid → Nat
  | .l1 => s.therm.heat1
  | .l2 => s.therm.heat2

/-- The run-on timer loaded with 120 s, unless the mode keeps it stopped (R66, R72). -/
def loadedRunOn (s : State) : Option Countdown :=
  if scarce s then none else startTimer s.clock 120000

/-- The fan claim follows the stage demand and the maximum stage: withdrawn for want of a channel, and while it is due submitted
again when a channel returns, also at a demand that fell to 0 meanwhile (R73). -/
def followFanClaim (l : Liquid) (s : State) : State :=
  let r := loopOf s l
  if r.demand ≥ 1 ∧ maxStage r.fans = 0 then withdrawClaim (fanClaim l) s
  else if submitted s (fanClaim l) then setCeiling (fanClaim l) (8 * max 1 (demandedStage r)) s
  else if r.fansDue ∧ maxStage r.fans > 0 then submitClaim (fanClaim l) (8 * max 1 (demandedStage r)) s
  else s

/-- L3's fan claim follows its stage demand and maximum stage (R73, R76). -/
def followFanClaim3 (s : State) : State :=
  if submitted s .fans3 then setCeiling .fans3 (6 * demandedStage3 s.cool.l3) s else s

/-! ## Starting, proving, failing (R65 to R70) -/

/-- The pumps, trials and timers of a loop at rest. -/
def LiquidLoop.resting (r : LiquidLoop) (st : LoopState) : LiquidLoop :=
  { r with state := st, pump := none, role := none, proof := none, drop := none, runOn := none, demand := 0, fansDue := false }

/-- Ceasing to be required: the loop goes to Off with its claims withdrawn (R65). -/
def loopOff (l : Liquid) (s : State) : State :=
  let t := modLoop l (fun r => { r.resting .off with selection := 0 }) s
  clearFault .loopFlow l.num (withdrawClaim (fanClaim l) (withdrawClaim (pumpClaim l) t))

/-- The pump grant lost: Off with the pump claim kept (R70). -/
def pumpGrantLost (l : Liquid) (s : State) : State :=
  if (loopOf s l).state = .starting ∨ loopFlowing s l then
    let t := modLoop l (fun r => r.resting .off) s
    clearFault .loopFlow l.num (withdrawClaim (fanClaim l) t)
  else s

/-- The loop has lost both pumps (R68), with its strings stopped in the same event (R13). -/
def loopFail (l : Liquid) (s : State) : State :=
  let t := raise .loopFailed l.num s
  let t := modLoop l (fun r => { r.resting .failed with selection := 0 }) t
  let t := withdrawClaim (fanClaim l) (withdrawClaim (pumpClaim l) t)
  let t := forEach l.strings (stopOne true) t
  oweJudgement l (setQueue (t.conv.queue.filter fun k => !l.strings.contains k) t)

/-- A flow proof succeeds (R66). -/
def proofSuccess (l : Liquid) (s : State) : State :=
  let r := loopOf s l
  let good := r.role = some .duty ∧ maxStage r.fans = r.fans.length
  let t := modLoop l (fun r => { r with state := if good then .running else .degraded, proof := none }) s
  if submitted s (fanClaim l) then t
  else followFanClaim l (modLoop l (fun r =>
    { r with demand := feedForward (heatOf s l), runOn := loadedRunOn s, fansDue := true }) t)

/-- A trial begins on a pump; it succeeds at once where the switch shows flow (R66, R67). -/
def beginTrial (l : Liquid) (p : Pump) (role : PumpRole) (s : State) : State :=
  let t := modLoop l (fun r => { r with
    state := .starting, pump := some p, role := some role
    proof := startTimer s.clock 15000, drop := none }) s
  if (loopOf s l).flow then proofSuccess l t else t

/-- An Off loop whose pump claim is granted 15 kW starts on its duty pump (R66). -/
def startLoop (l : Liquid) (s : State) : State :=
  if (loopOf s l).state = .off then beginTrial l (dutyOf s l) .duty s else s

def Pump.other : Pump → Pump
  | .a => .b
  | .b => .a

/-- The duty pump has failed: the standby trial (R67). -/
def standbyTrial (l : Liquid) (s : State) : State :=
  let p := ((loopOf s l).pump.getD (dutyOf s l)).other
  beginTrial l p .standby (raise .loopFlow l.num s)

/-- A pump fails: a duty pump gives way to the standby, a standby pump fails the loop (R67, R68). -/
def pumpFails (l : Liquid) (s : State) : State :=
  if (loopOf s l).role = some .standby then loopFail l s else standbyTrial l s

/-- The 15 s proof timer expires (R67, R68). -/
def proofTimeout (l : Liquid) (s : State) : State :=
  if (loopOf s l).state = .starting ∧ (loopOf s l).proof.isSome then pumpFails l s else s

/-- The 2 s drop timer expires (R67, R68). -/
def dropTimeout (l : Liquid) (s : State) : State :=
  if loopFlowing s l ∧ (loopOf s l).drop.isSome then pumpFails l s else s

/-- The flow switch changes (R66, R67). -/
def flowChange (l : Liquid) (flow : Bool) (s : State) : State :=
  let t := modLoop l (fun r => { r with flow := flow }) s
  match (loopOf s l).state with
  | .starting => if flow ∧ (loopOf s l).proof.isSome then proofSuccess l t else t
  | .running | .degraded =>
    modLoop l (fun r => { r with
      drop := if flow then none else r.drop.orElse fun _ => startTimer s.clock 2000 }) t
  | .off | .failed => t

/-- A judgement of the requirement that is owed in this event (R64, R65). -/
def judgeLoop (l : Liquid) (s : State) : State :=
  let r := loopOf s l
  if r.judge then
    let need := requiredNow s l
    let t := modLoop l (fun r => { r with required := need, judge := false }) s
    if r.state = .failed then t
    else if need then
      if r.state = .off ∧ submitted s (pumpClaim l) = false then submitClaim (pumpClaim l) 15 t else t
    else if r.required ∨ r.state ≠ .off then loopOff l t else t
  else s

def judgeLoops (s : State) : State := judgeLoop .l2 (judgeLoop .l1 s)

/-! ## Stages (R71 to R73, R76) -/

/-- The latest selection of a liquid loop (R71). -/
def selectStage (s : State) (l : Liquid) : Nat :=
  let r := loopOf s l
  let temp := (inletOf s l).inUse
  let ff := feedForward (heatOf s l)
  let setpoint : Int := setpointOf s l
  if !(l.strings.any fun k => (strOf s k).state.needsLoop) && temp ≤ hotBar s then 0
  else if temp > setpoint + 20 then min 4 (max (r.demand + 1) ff)
  else if temp < setpoint - 30 then ff
  else max r.demand ff

/-- Stage demand and run-on of a liquid loop follow a selection (R72). -/
def followSelection (l : Liquid) (n : Nat) (s : State) : State :=
  followFanClaim l (modLoop l (fun r =>
    if n ≥ r.demand then { r with selection := n, demand := n, runOn := loadedRunOn s }
    else { r with selection := n }) s)

/-- A Failed loop at an evaluation (R69). -/
def evaluateFailed (l : Liquid) (s : State) : State :=
  let t := clearFault .loopFailed l.num s
  if faultState t .loopFailed l.num = .clear then
    testJoins l.strings
      (oweJudgement l (clearFault .loopFlow l.num (modLoop l (fun r => { r with state := .off }) t)))
  else t

/-- The evaluation of a liquid loop, before its clamp (R69, R71, R72). -/
def evaluateLoop (l : Liquid) (outlet : Int) (s : State) : State :=
  let s := modLoop l (fun r => { r with outlet := if validTemp outlet then some outlet else none }) s
  if (loopOf s l).state = .failed then evaluateFailed l s
  else if submitted s (fanClaim l) then followSelection l (selectStage s l) s
  else s

/-- The selection of L3 from the air temperature in use (R76). -/
def selectStage3 (air : Int) : Nat :=
  if air < 350 then 0 else if air < 400 then 1 else if air < 450 then 2 else 3

def modAir (f : AirLoop → AirLoop) (s : State) : State := { s with cool := { s.cool with l3 := f s.cool.l3 } }

/-- The nacelle air sensor is read (R76). -/
def readAir (reading : Int) (s : State) : State :=
  let r := readTemp s.cool.l3.air s.cool.evaluationNo 1000 450 reading
  rowAct r.2 .coolSensor 3 (modAir (fun a => { a with air := r.1 }) s)

/-- A hold of the air sensor runs (R76). -/
def airHeld (s : State) : Bool := s.cool.l3.air.source = .held && s.cool.l3.air.holdStart.isSome

/-- The 5 s of the air sensor's hold are up: A, its source and the row (R76). -/
def substituteAir (s : State) : State :=
  raise .coolSensor 3 (modAir (fun a => { a with air := { a.air with inUse := 450, source := .substitute } }) s)

/-- L3 at an evaluation, before its row (R76). -/
def evaluateAir (s : State) : State :=
  let n := selectStage3 s.cool.l3.air.inUse
  let run := startTimer s.clock 120000
  if s.cool.l3.state = .off then
    if n ≥ 1 then
      let t := modAir (fun a => { a with
        state := if maxStage a.fans = a.fans.length then .running else .degraded
        required := true, selection := n, demand := n, runOn := run }) s
      submitClaim .fans3 (6 * demandedStage3 t.cool.l3) t
    else modAir (fun a => { a with selection := n }) s
  else
    followFanClaim3 (modAir (fun a =>
      if n ≥ a.demand then { a with selection := n, demand := n, runOn := run }
      else { a with selection := n }) s)

/-- L3 ceases to be required (R76). -/
def airOff (s : State) : State :=
  clearFault .loopLimited 3 (withdrawClaim .fans3
    (modAir (fun a => { a with state := .off, required := false, runOn := none }) s))

/-- The run-on timer and stage demand at an expiry: one stage down when the selection is below it (R72). -/
def runOnAfter (clock demand selection : Nat) : Nat × Option Countdown :=
  if selection < demand then
    (demand - 1, if demand - 1 > 0 then startTimer clock 120000 else none)
  else (demand, startTimer clock 120000)

/-- The run-on timer of a liquid loop expires (R72). -/
def runOnExpires (l : Liquid) (s : State) : State :=
  if (loopOf s l).runOn.isSome then
    oweJudgement l (followFanClaim l (modLoop l (fun r =>
      let x := runOnAfter s.clock r.demand r.selection
      { r with demand := x.1, runOn := x.2 }) s))
  else s

/-- The run-on timer of L3 expires (R72, R76). -/
def runOnExpires3 (s : State) : State :=
  if s.cool.l3.runOn.isSome then
    let t := modAir (fun a =>
      let x := runOnAfter s.clock a.demand a.selection
      { a with demand := x.1, runOn := x.2 }) s
    if t.cool.l3.demand = 0 then airOff t else followFanClaim3 t
  else s

/-! ## Clamps (R74) and heaters (R77) -/

/-- The loop clamp, by the first line of R74 that applies. -/
def clampOf (s : State) (l : Liquid) : Nat :=
  let r := loopOf s l
  if r.state.flowing then
    if grantOf s (fanClaim l) = 0 then 55
    else match r.demand - grantedStage s l with
      | 0 => 100
      | 1 => 85
      | 2 => 70
      | _ => 55
  else if l.strings.any fun k => (strOf s k).state.eligible then 55
  else 100

def setClamp (l : Liquid) (s : State) : State :=
  let c := clampOf s l
  setFault .loopLimited l.num (c < 100) (modLoop l (fun r => { r with clamp := c }) s)

/-- LOOP_LIMITED of L3: the granted stage below the demand (R76). -/
def limitAir (s : State) : State :=
  if s.cool.l3.state = .off then s else setFault .loopLimited 3 (grantedStage3 s < s.cool.l3.demand) s

/-- The end of an evaluation, after the budget has answered (R74, R76). -/
def clampLoops (s : State) : State := limitAir (setClamp .l2 (setClamp .l1 s))

/-- Modes in which the heaters may run (R77). -/
def heaterMode : Mode → Bool
  | .parked | .storm | .isolated => true
  | .lockout | .idle | .generating => false

/-- The heaters at an evaluation (R77). -/
def evaluateHeaters (humidity : Int) (s : State) : State :=
  let h := if 0 ≤ humidity ∧ humidity ≤ 100 then humidity.toNat else s.cool.humidity
  let t := { s with cool := { s.cool with humidity := h } }
  if heaterMode s.mode.current ∧ h ≥ 85 ∧ submitted s .heaters = false then submitClaim .heaters 20 t
  else if h < 80 then withdrawClaim .heaters t
  else t

/-- The cooling evaluation up to the budget's answer (R69 to R73, R76, R77). -/
def evaluateCooling (outlet1 outlet2 air humidity : Int) (s : State) : State :=
  let s := { s with cool := { s.cool with evaluationNo := s.cool.evaluationNo + 1 } }
  let s := evaluateLoop .l2 outlet2 (evaluateLoop .l1 outlet1 s)
  evaluateHeaters humidity (evaluateAir (readAir air s))

/-! ## Fan channels (R63, R75) -/

/-- The lowest-numbered unfailed channels of a loop run, as many as its granted stage (R63). -/
def chooseFans : List FanChannel → Nat → List FanChannel
  | [], _ => []
  | c :: rest, n =>
    if c.failed then { c with commanded := false } :: chooseFans rest n
    else match n with
      | 0 => { c with commanded := false } :: chooseFans rest 0
      | m + 1 => { c with commanded := true } :: chooseFans rest m

/-- The mismatch timer of a channel: it runs while commanded and proven differ (R75, R114, log 21). -/
def followMismatch (clock ms : Nat) (failed commanded proven : Bool) (t : Option Countdown) : Option Countdown :=
  if failed ∨ commanded = proven then none else t.orElse fun _ => startTimer clock ms

def watchFans (clock stage : Nat) (fans : List FanChannel) : List FanChannel :=
  (chooseFans fans stage).map fun c =>
    { c with mismatch := followMismatch clock 2000 c.failed c.commanded c.proven c.mismatch }

/-- Every fan channel follows the granted stage of its loop, and its mismatch time is judged (R63, R75). -/
def driveFans (s : State) : State :=
  { s with cool := { s.cool with
      l1 := { s.cool.l1 with fans := watchFans s.clock (grantedStage s .l1) s.cool.l1.fans }
      l2 := { s.cool.l2 with fans := watchFans s.clock (grantedStage s .l2) s.cool.l2.fans }
      l3 := { s.cool.l3 with fans := watchFans s.clock (grantedStage3 s) s.cool.l3.fans } } }

/-- Change one fan channel. -/
def modFan (f : FanId) (g : FanChannel → FanChannel) (s : State) : State :=
  match f with
  | .l1 c => modLoop .l1 (fun r => { r with fans := updateAt r.fans c g }) s
  | .l2 c => modLoop .l2 (fun r => { r with fans := updateAt r.fans c g }) s
  | .l3 c => modAir (fun a => { a with fans := updateAt a.fans c g }) s

def fanAt (s : State) : FanId → FanChannel
  | .l1 c => s.cool.l1.fans.getD c .atStart
  | .l2 c => s.cool.l2.fans.getD c .atStart
  | .l3 c => s.cool.l3.fans.getD c .atStart

/-- A Running loop that has lost a channel is Degraded (R75). -/
def degradeLoop (l : Liquid) (s : State) : State :=
  followFanClaim l (modLoop l (fun r =>
    { r with state := if r.state = .running then .degraded else r.state }) s)

/-- The 2 s mismatch of a channel is up: it is marked failed (R75). -/
def fanFails (f : FanId) (s : State) : State :=
  if (fanAt s f).mismatch.isSome then
    let t := modFan f (fun c => { c with failed := true, mismatch := none }) s
    match f with
    | .l1 _ => degradeLoop .l1 t
    | .l2 _ => degradeLoop .l2 t
    | .l3 _ => followFanClaim3 (modAir (fun a =>
        { a with state := if a.state = .running then .degraded else a.state }) t)
  else s

def unfail (fans : List FanChannel) : List FanChannel := fans.map fun c => { c with failed := false }

/-- The failed channels of a loop are returned (R75, R78). -/
def returnFans (l : LoopId) (s : State) : State :=
  let liquid (l : Liquid) : State :=
    followFanClaim l (modLoop l (fun r => { r with
      fans := unfail r.fans
      state := if r.state = .degraded ∧ r.role = some .duty then .running else r.state }) s)
  match l with
  | .l1 => liquid .l1
  | .l2 => liquid .l2
  | .l3 => followFanClaim3 (modAir (fun a => { a with
      fans := unfail a.fans
      state := if a.state = .degraded then .running else a.state }) s)

/-! ## The mode's hand-over to cooling (R72, R77) -/

/-- The cooling controller at a change of the current mode. -/
def coolOnMode (m : Mode) (s : State) : State :=
  let t :=
    if m = .isolated ∨ m = .storm then
      modLoop .l2 (fun r => { r with runOn := none }) (modLoop .l1 (fun r => { r with runOn := none }) s)
    else s
  let t := oweBothJudgements t
  if heaterMode m then t else withdrawClaim .heaters t

end Sys2Proof.Machine
end

