-- ==== Sys2Proof/Machine/YawOps.lean ====
section
/-! DEFINITION. The yaw controller: drives, windows, the stops and starts of a move, the twist position and its rules, the yaw mode and the yaw sample (R100 to R135). -/

namespace Sys2Proof.Machine

/-- Change the yaw record. -/
def modYaw (f : Yaw → Yaw) (s : State) : State := { s with yaw := f s.yaw }

/-! ## Drives (R108, R113, R114) -/

def channelAt (s : State) (c : Fin 10) : DriveChannel := s.yaw.channels.getD c .atStart

/-- The channels of the slots that hold one not marked failed, in slot order. -/
def availableChannels (s : State) : List (Fin 10) :=
  (s.store.working.slots.filterMap id).filter fun c => !(channelAt s c).failed

/-- The available drives (R114). -/
def availableDrives (s : State) : Nat := (availableChannels s).length

/-- The claim's ceiling and YAW_DRIVES_LOW follow the available count (R114). -/
def judgeDrives (s : State) : State :=
  setFault .yawDrivesLow 1 (availableDrives s < 4) (setCeiling .yaw (11 * availableDrives s) s)

/-- The channels that run: in Moving the first drive count available ones, in Ramping those of them that still run (R108,
R112); none once the hard limit has stopped them (R128), and none unless the brake state is Residual. -/
def runningChannels (s : State) : List (Fin 10) :=
  if s.yaw.brake ≠ .residual then []
  else match s.yaw.motion with
    | .moving => (availableChannels s).take s.yaw.driveCount
    | .ramping =>
      if s.yaw.speed = .zero then []
      else ((availableChannels s).filter fun c => (channelAt s c).commanded).take s.yaw.driveCount
    | .hold | .venting | .pressurizing => []

/-- Drive `i` after the running set is chosen, with its mismatch time judged (R108, R114). -/
def driveAfter (clock : Nat) (running : List (Fin 10)) (i : Nat) (c : DriveChannel) : DriveChannel :=
  let run := running.any fun k => k.val = i
  { c with commanded := run, mismatch := followMismatch clock 500 c.failed run c.proven c.mismatch }

/-- The drive count once the running set is chosen: in Ramping the channels that still run, of which a failure takes one (R108,
R114). -/
def countRunning (s : State) : Nat :=
  if s.yaw.motion = .ramping then (runningChannels s).length else s.yaw.driveCount

/-- Every drive channel is commanded by the running set (R108). -/
def driveYaw (s : State) : State :=
  { s with yaw := { s.yaw with
      driveCount := countRunning s
      channels := s.yaw.channels.mapIdx (driveAfter s.clock (runningChannels s)) } }

/-! ## No-dwell windows (R115, R116) -/

def Window.enabled (w : Window) : Bool := w.base ≤ w.limit

def Window.holds (w : Window) (x : Int) : Bool := w.base ≤ x && x ≤ w.limit

/-- The record of window `n` in the working settings, numbered from 1. -/
def windowRecord (s : State) (n : Nat) : Window := s.store.working.windows.getD (n - 1) ⟨1, 0⟩

/-- Window `n` as it is in force (R115, log 39). -/
def windowOf (s : State) (n : Nat) : Window := s.yaw.windows.getD (n - 1) ⟨1, 0⟩

/-- The window in force that contains a position. -/
def windowAt (s : State) (x : Int) : Option Nat := [1, 2, 3, 4].find? fun n => (windowOf s n).holds x

/-- The window records come into force: at an update of θ and at a start (R115, R122). -/
def windowsAct (s : State) : State := modYaw (fun y => { y with windows := s.store.working.windows }) s

/-- The window in force that contains θ. -/
def windowNow (s : State) : Option Nat := (theta s).bind (windowAt s)

/-- A clearance out of window `n` from position `x`: the nearer edge, a tie going to the base (R117). -/
def clearanceFrom (s : State) (n : Nat) (x : Int) : Clearance :=
  let w := windowOf s n
  { window := n, target := if x - w.base ≤ w.limit - x then w.base else w.limit }

/-- The direction toward a position. -/
def toward (x target : Int) : Dir := if target < x then .ccw else .cw

/-! ## The hard limit (R128) -/

/-- Motion in the direction increases the magnitude. -/
def growsTwist (d : Dir) (x : Int) : Bool :=
  match d with
  | .cw => x ≥ 0
  | .ccw => x ≤ 0

/-- Motion barred by the hard limit. -/
def barred (s : State) (d : Dir) : Bool :=
  match theta s with
  | some x => x.natAbs ≥ s.store.working.hardLimit && growsTwist d x
  | none => false

/-- An untwist becomes due (R129). -/
def untwistBecomesDue (s : State) : State :=
  modYaw (fun y => { y with untwist := { y.untwist with due := true } }) s

/-- A raise of TWIST_HARD makes an untwist due (R128, R129). -/
def raiseTwistHard (s : State) : State := untwistBecomesDue (raise .twistHard 1 s)

/-! ## The end of a move (R110, R117, R132) -/

/-- The untwist record at the completion of a move: an aborted one waits again (R132). -/
def untwistAfterMove (s : State) : Untwist :=
  let u := s.yaw.untwist
  if u.inFlight then
    { u with
      inFlight := false
      wait := if u.due && s.mode.current ≠ .storm && (theta s).isSome then startTimer s.clock 600000 else none }
  else u

/-- The motion record with no move. -/
def Yaw.cleared (y : Yaw) (u : Untwist) : Yaw :=
  { y with
    motion := .hold, kind := none, direction := none, target := none, continuing := none, forced := false
    driveCount := 0, manualTimer := none, ramp := none, reached := false, speed := .zero, panelJog := none
    untwist := u }

/-- A claim waiting in Hold. -/
def waiting (s : State) : Bool := s.yaw.motion = .hold && submitted s .yaw

/-- A waiting claim withdrawn: the move's completion, the rest timer left as it stands (R110). -/
def completeWaiting (s : State) : State :=
  withdrawClaim .yaw (modYaw (fun y => y.cleared (untwistAfterMove s)) s)

/-- A due clearance with θ inside no window ceases to be due (R117). -/
def endClearance (s : State) : State :=
  clearFault .yawDwellForced 1 (modYaw (fun y => { y with clearance := none }) s)

/-- What a completed stop does about no-dwell windows (R117). -/
def judgeDwell (kind : Option MoveKind) (forced : Bool) (s : State) : State :=
  match theta s with
  | none => s
  | some x =>
    match windowAt s x with
    | some n =>
      if forced then
        raise .yawDwellForced 1 (modYaw (fun y => { y with clearance := some (clearanceFrom s n x) }) s)
      else s
    | none =>
      if forced = false ∧ kind = some .clearance ∧ s.yaw.clearance.isSome then
        endClearance s
      else s

/-- A normal stop of a claim waiting in Hold: the move's completion, which ends a clearance that θ has left (R110, R117). -/
def stopWaiting (s : State) : State := judgeDwell s.yaw.kind false (completeWaiting s)

/-- The completion of a move at brake state Full (R110). -/
def completeMove (forced : Bool) (s : State) : State :=
  let kind := s.yaw.kind
  let rest := if s.yaw.reached then startTimer s.clock 30000 else s.yaw.rest
  let u := untwistAfterMove s
  let t := modYaw (fun y => { y.cleared u with
    brake := .full, commandFull := true, settle := none, residAbsent := none, rest := rest }) s
  judgeDwell kind forced (withdrawClaim .yaw t)

/-! ## Stopping (R110, R111, R116) -/

/-- Every drive stops, the brakes are commanded full, and both states become Pressurizing with a fresh 2 s (R107, R110). -/
def beginPressurize (s : State) : State :=
  modYaw (fun y => { y with
    motion := .pressurizing, brake := .pressurizing, commandFull := true
    settle := startTimer s.clock 2000, residAbsent := none, ramp := none
    driveCount := 0, speed := .zero, continuing := none }) s

/-- Ramping begins (R110); with the speed at zero every drive stops at once (R128). -/
def beginRamp (speed : SpeedRef) (s : State) : State :=
  modYaw (fun y => { y with
    motion := .ramping, ramp := startTimer s.clock 2000, continuing := none, speed := speed
    driveCount := if speed = .zero then 0 else y.driveCount }) s

/-- A normal stop of a move that has its grant (R110, R116). -/
def runningStop (s : State) : State :=
  match s.yaw.motion with
  | .venting => beginPressurize s
  | .moving =>
    if s.yaw.continuing.isSome then s
    else match windowNow s with
      | some n => modYaw (fun y => { y with continuing := some n }) s
      | none => beginRamp .falling s
  | .hold | .ramping | .pressurizing => s

/-- A normal stop cause (R110, R116). -/
def normalStop (s : State) : State := if waiting s then stopWaiting s else runningStop s

/-- A stop cause of a move of one kind only. -/
def stopKind (k : MoveKind) (s : State) : State := if s.yaw.kind = some k then normalStop s else s

def setForced (s : State) : State := modYaw (fun y => { y with forced := true }) s

/-- A forced stop that stops the drives in the event (R111). -/
def forcedStop (s : State) : State :=
  match s.yaw.motion with
  | .hold => if submitted s .yaw then completeWaiting s else s
  | .venting | .moving | .ramping => setForced (beginPressurize s)
  | .pressurizing => setForced s

/-- The yaw grant has fallen to 0 (R111, R112). -/
def yawGrantLost (s : State) : State :=
  match s.yaw.motion with
  | .venting | .moving | .ramping => setForced (beginPressurize s)
  | .hold | .pressurizing => s

/-- The forced stop of TWIST_SENSOR, through Ramping (R111). -/
def sensorStop (s : State) : State :=
  match s.yaw.motion with
  | .hold => if submitted s .yaw then completeWaiting s else s
  | .venting => setForced (beginPressurize s)
  | .moving => setForced (beginRamp .falling s)
  | .ramping | .pressurizing => setForced s

/-- BRAKE_FB (R107): drives stopped, brakes Full, Hold, the claim withdrawn; a move in flight is a forced stop for R117. -/
def brakeFailed (s : State) : State :=
  let t := raise .brakeFb 1 s
  if s.yaw.motion = .hold then
    let t := if submitted s .yaw then completeWaiting t else t
    modYaw (fun y => { y with brake := .full, commandFull := true, settle := none }) t
  else completeMove true t

/-! ## Starting (R109, R112, R132) -/

/-- A move is written and its claim submitted at 11 × the available drives. -/
def startMove (kind : MoveKind) (d : Dir) (target : Option Int) (s : State) : State :=
  submitClaim .yaw (11 * availableDrives s)
    (modYaw (fun y => { y with kind := some kind, direction := some d, target := target, reached := false }) s)

/-- Venting begins on a grant (R107, R109). -/
def beginVent (s : State) : State :=
  modYaw (fun y => { y with
    motion := .venting, brake := .venting, commandFull := false
    settle := startTimer s.clock 1500, fullAbsent := none }) s

/-- The hard limit bars the move that the motion record holds (R128). -/
def moveBarred (s : State) : Bool := s.yaw.direction.any (barred s)

/-- A new yaw grant of 44 or more (R112). A waiting claim whose move is barred is not granted a start (R128). -/
def takeYawGrant (grant : Nat) (s : State) : State :=
  match s.yaw.motion with
  | .hold => if submitted s .yaw ∧ moveBarred s = false then beginVent s else s
  | .moving => modYaw (fun y => { y with driveCount := grant / 11 }) s
  | .ramping => modYaw (fun y => { y with driveCount := min y.driveCount (grant / 11) }) s
  | .venting | .pressurizing => s

/-- The grant before and after a walk, acted on by motion state (R112). -/
def yawGrantChange (before after : Nat) (s : State) : State :=
  if before = after then s
  else if after ≥ 44 then takeYawGrant after s
  else yawGrantLost s

/-- The end of the 1.5 s venting settle (R107, R109). -/
def ventSettles (s : State) : State :=
  if s.yaw.motion = .venting ∧ s.yaw.settle.isSome then
    if s.lines.residualProof then
      modYaw (fun y => { y with
        motion := .moving, brake := .residual, settle := none, reached := true, speed := .running
        driveCount := grantOf s .yaw / 11 }) s
    else brakeFailed s
  else s

/-- The end of the 2 s pressurizing settle (R107, R110). -/
def pressurizeSettles (s : State) : State :=
  if s.yaw.motion = .pressurizing ∧ s.yaw.settle.isSome then
    if s.lines.fullProof then completeMove s.yaw.forced s else brakeFailed s
  else s

/-- The end of the 2 s of Ramping (R110). -/
def rampSettles (s : State) : State :=
  if s.yaw.motion = .ramping ∧ s.yaw.ramp.isSome then beginPressurize s else s

/-- An untwist move starts (R132); the yaw mode is Untwist from this event. -/
def startUntwist (x : Int) (s : State) : State :=
  let t := modYaw (fun y => { y with
    untwist := { y.untwist with ready := false, wait := none, inFlight := true }, mode := .untwist }) s
  startMove .untwist (if x > 0 then .ccw else .cw) (some 0) (clearFault .untwistDue 1 t)

/-! ## The yaw mode (R106) -/

def yawDisabled (s : State) : Bool :=
  s.mode.current = .lockout || isHeld s .brakeFb 1 || isHeld s .twistSensor 1 || availableDrives s < 4

/-- The first line of R106 that applies. -/
def yawModeNow (s : State) : YawMode :=
  if yawDisabled s then .disabled
  else if s.mode.current = .storm then .storm
  else if s.yaw.untwist.inFlight then .untwist
  else if s.yaw.manualMark then .manual
  else .auto

def setYawMode (m : YawMode) (s : State) : State := modYaw (fun y => { y with mode := m }) s

/-- The normal stop that a change of the yaw mode brings. A clearance claim waits only while θ lies in its window, since the update
of θ that leaves the window stops it (R110, R117): a clearance so stopped stays due. -/
def modeStop (s : State) : State :=
  if waiting s then completeWaiting s else runningStop s

/-- What a move in flight meets at a change of the yaw mode (R106); the other causes of Disabled have acted in their own
events (R107, R111, R124). -/
def yawModeEffect (before after : YawMode) (s : State) : State :=
  match before, after with
  | _, .disabled => if availableDrives s < 4 then forcedStop s else s
  | .auto, .storm | .storm, .auto => s
  | .disabled, _ => s
  | _, _ => modeStop s

/-- The yaw mode is judged again (R106). -/
def judgeYaw (s : State) : State :=
  let m := yawModeNow s
  if m = s.yaw.mode then s else yawModeEffect s.yaw.mode m (setYawMode m s)

/-! ## Twist position (R123 to R129) -/

/-- Stop the untwist wait: the timer stopped, the ready mark cleared, UNTWIST_DUE cleared (R130). -/
def stopUntwistWait (s : State) : State :=
  clearFault .untwistDue 1
    (modYaw (fun y => { y with untwist := { y.untwist with wait := none, ready := false } }) s)

/-- Change the twist record, with its check rewritten (R123). -/
def modTwist (f : TwistRecord → TwistRecord) (s : State) : State :=
  { s with retained := { s.retained with twist := { f s.retained.twist with checkGood := true } } }

/-- TWIST_SENSOR: θ unknown, a forced stop, the untwist wait stopped (R124, R130). -/
def twistSensorFails (s : State) : State :=
  sensorStop (stopUntwistWait (modTwist (fun r => { r with valid := false }) (raise .twistSensor 1 s)))

/-- The turn count after a referred angle moves from `old` to `new` (R124). -/
def turnsAfter (turns : Int) (old new : Nat) : Int :=
  if (new : Int) - old < -1800 then turns + 1
  else if (new : Int) - old > 1800 then turns - 1
  else turns

/-- The twist record after a valid reading `a` (R124). -/
def TwistRecord.after (r : TwistRecord) (a : Nat) : TwistRecord :=
  { r with turns := turnsAfter r.turns (referred r.ref r.last) (referred r.ref a), last := a }

/-- The hard-limit motion rule applied to the move in flight (R128). -/
def applyHardLimit (s : State) : State :=
  match s.yaw.direction with
  | none => s
  | some d =>
    if barred s d then
      match s.yaw.motion with
      | .hold =>
        if submitted s .yaw then
          let t := stopWaiting s
          if s.yaw.kind = some .auto ∨ s.yaw.kind = some .storm then raiseTwistHard t else t
        else s
      | .venting => beginPressurize s
      | .moving => beginRamp .zero (raiseTwistHard s)
      | .ramping => modYaw (fun y => { y with speed := .zero, driveCount := 0 }) s
      | .pressurizing => s
    else s

/-- |θ| above the soft limit makes an untwist due (R129). -/
def judgeSoftLimit (s : State) : State :=
  match theta s with
  | some x => if x.natAbs > s.store.working.softLimit then untwistBecomesDue (raise .twistSoft 1 s) else s
  | none => s

/-- A due untwist ends at |θ| ≤ 50 (R129). -/
def judgeUntwistEnd (s : State) : State :=
  match theta s with
  | some x =>
    if x.natAbs ≤ 50 ∧ s.yaw.untwist.due then
      let t := modYaw (fun y => { y with
        untwist := { y.untwist with due := false, ready := false, wait := none } }) s
      clearFault .untwistDue 1 (clearFault .twistHard 1 (clearFault .twistSoft 1 t))
    else s
  | none => s

/-- θ has reached or passed a target (R110). -/
def passed (d : Option Dir) (x target : Int) : Bool :=
  match d with
  | some .cw => x ≥ target
  | some .ccw => x ≤ target
  | none => false

/-- The stop causes of a move that θ alone decides (R110, R132). -/
def thetaStops (s : State) (x : Int) : Bool :=
  match s.yaw.kind with
  | some .manual => s.yaw.target.any fun target => passed s.yaw.direction x target
  | some .clearance => !(s.yaw.clearance.any fun c => (windowOf s c.window).holds x)
  | some .untwist => x.natAbs ≤ 50
  | some .auto | some .storm | none => false

/-- θ is past the far edge of a window in the direction of travel, or the window stands no more (R116). -/
def pastWindow (d : Option Dir) (w : Window) (x : Int) : Bool :=
  !w.enabled ||
  match d with
  | some .cw => x > w.limit
  | some .ccw => x < w.base
  | none => true

/-- A stop carried past a window (R116). -/
def carryStop (s : State) (x : Int) : State :=
  match s.yaw.continuing with
  | none => s
  | some n =>
    if s.yaw.motion = .moving ∧ pastWindow s.yaw.direction (windowOf s n) x then
      match windowAt s x with
      | some k => modYaw (fun y => { y with continuing := some k }) s
      | none => beginRamp .falling s
    else s

/-- The rules on θ at an update (R124 step 5). -/
def applyTheta (s : State) : State :=
  let s := judgeUntwistEnd (judgeSoftLimit (applyHardLimit s))
  match theta s with
  | none => s
  | some x => carryStop (if thetaStops s x then normalStop s else s) x

/-- An encoder reading arrives (R124). -/
def encoderUpdate (r : EncoderReading) (s : State) : State :=
  let t := windowsAct (modYaw (fun y => { y with encoder := some r }) s)
  match r with
  | .invalid => twistSensorFails t
  | .angle a =>
    if s.retained.twist.valid then
      let new := s.retained.twist.after a
      let u := modTwist (fun _ => new) t
      if new.position.natAbs > 10800 ∨ new.turns.natAbs > 4 then twistSensorFails u else applyTheta u
    else modTwist (fun r => { r with last := a }) t

/-! ## Vanes and the ring (R101 to R105) -/

/-- A reading in the range of a vane. -/
def vaneValue : Reading → Option Int
  | .value x => if -1800 ≤ x ∧ x ≤ 1799 then some x else none
  | .bad => none

/-- A vane after a sample (R101). A reading marked open or shorted has no value, so the previous reading is absent after it
(log 44). -/
def vaneAfter (v : Vane) (r : Reading) (wind : Nat) : Vane :=
  let stuck :=
    match vaneValue r with
    | some x => if v.previous = some x ∧ wind > 50 then min 60 (v.stuck + 1) else 0
    | none => 0
  { stuck := stuck
    valid := (vaneValue r).isSome && stuck ≠ 60
    previous := match r with
      | .value x => some x
      | .bad => none }

/-- The relative angle and source of an entry, and whether it is of the first two lines of R102. -/
def blend (primary : VaneId) (a b : Option Int) : Option (Int × AngleSource) :=
  match a, b with
  | some x, some y =>
    let d := wrapAngle (y - x)
    if d.natAbs ≤ 150 then some (wrapAngle (x + Int.tdiv d 2), .blend)
    else match primary with
      | .a => some (x, .a)
      | .b => some (y, .b)
  | some x, none => some (x, .a)
  | none, some y => some (y, .b)
  | none, none => none

/-- Both vanes valid and apart by more than 150 (R102). -/
def disagrees (a b : Option Int) : Bool :=
  match a, b with
  | some x, some y => (wrapAngle (y - x)).natAbs > 150
  | _, _ => false

/-- A sample of the first line of R102. -/
def agrees (a b : Option Int) : Bool :=
  match a, b with
  | some x, some y => (wrapAngle (y - x)).natAbs ≤ 150
  | _, _ => false

/-- The reading of a vane found valid at this sample. -/
def validReading (v : Vane) : Option Int := if v.valid then v.previous else none

/-- Steps 2 and 3 of the yaw sample (R101 to R103). -/
def sampleVanes (vaneA vaneB : Reading) (wind : Nat) (s : State) : State :=
  let a := vaneAfter s.yaw.vaneA vaneA wind
  let b := vaneAfter s.yaw.vaneB vaneB wind
  let ra := validReading a
  let rb := validReading b
  let run := if disagrees ra rb then min 10 (s.yaw.disagree + 1) else 0
  let angle := blend s.store.working.primaryVane ra rb
  let entry : RingEntry :=
    { time := s.clock
      angle := (angle.map Prod.fst).getD 0
      wind := wind
      valid := angle.isSome
      source := angle.map Prod.snd
      theta := theta s }
  let t := modYaw (fun y => { y with
    vaneA := a, vaneB := b, disagree := run, ring := y.ring.tail ++ [entry] }) s
  let t := setFault .vaneFault 2 (!b.valid) (setFault .vaneFault 1 (!a.valid) t)
  if run = 10 ∧ s.yaw.disagree < 10 then raise .vaneDisagree 1 t
  else if agrees ra rb then clearFault .vaneDisagree 1 t
  else t

/-- The referred angle of an entry (R104). -/
def referAngle (now : Option Int) (e : RingEntry) : Int :=
  match now, e.theta with
  | some x, some y => wrapAngle (e.angle - (x - y))
  | _, _ => e.angle

/-- The mean of a list, truncated toward zero, when it has at least `need` entries. -/
def meanOf (need : Nat) (l : List Int) : Option Int :=
  if l.length < need then none else some (Int.tdiv l.sum l.length)

/-- Step 4 of the yaw sample: the four means (R104). -/
def formMeans (s : State) : State :=
  let valid := s.yaw.ring.filter (·.valid)
  let newest := (s.yaw.ring.drop (s.yaw.ring.length - 10)).filter (·.valid)
  let angles (l : List RingEntry) : List Int := l.map (referAngle (theta s))
  let winds (l : List RingEntry) : List Int := l.map fun e => (e.wind : Int)
  modYaw (fun y => { y with
    shortMean := meanOf 6 (angles newest)
    longMean := meanOf 40 (angles valid)
    shortSpeed := (meanOf 6 (winds newest)).map Int.toNat
    longSpeed := (meanOf 40 (winds valid)).map Int.toNat }) s

/-- The cap of a long mean (R105). -/
def capOfMean (m : Int) : Option Nat :=
  if m.natAbs < 250 then none
  else if m.natAbs < 400 then some 10500
  else if m.natAbs < 600 then some 6000
  else some 0

/-- Step 4 of the yaw sample: the misalignment cap (R105). -/
def formCap (s : State) : State :=
  modYaw (fun y =>
    match y.longMean with
    | some m => { y with cap := capOfMean m, invalidSince := none }
    | none =>
      let since := y.invalidSince.getD y.sampleNo
      { y with invalidSince := some since, cap := if y.sampleNo - since ≥ 60 then some 6000 else y.cap }) s

/-- BRAKE_FB is cleared at a sample with brake state Full and the full proof present (R107). -/
def clearBrakeFault (s : State) : State :=
  if s.yaw.brake = .full ∧ s.lines.fullProof then clearFault .brakeFb 1 s else s

/-! ## Step 5 of the yaw sample -/

/-- The stop threshold in force (R120, R134). -/
def stopLevel (s : State) : Nat := if s.yaw.mode = .storm then 50 else s.store.working.stop

/-- The long-mean start value in force (R120, R134). -/
def startLevel (s : State) : Nat :=
  if s.yaw.mode = .storm then
    if s.aux.source = .battery ∧ s.aux.lowMark then 300 else 150
  else s.store.working.startLong

/-- The direction of a mean. -/
def dirOf (m : Int) : Dir := if m ≥ 0 then .cw else .ccw

/-- The start conditions of R109 and R134: the direction of the move they ask for. -/
def wantedMove (s : State) : Option Dir :=
  let long :=
    match s.yaw.longMean, s.yaw.longSpeed with
    | some m, some w => if m.natAbs ≥ startLevel s ∧ w ≥ 30 then some (dirOf m) else none
    | _, _ => none
  match long with
  | some d => some d
  | none =>
    if s.yaw.mode = .storm then none
    else match s.yaw.shortMean with
      | some m => if m.natAbs ≥ s.store.working.startShort then some (dirOf m) else none
      | none => none

/-- The short mean stands on the side opposite to the direction (R110). -/
def oppositeMean (d : Option Dir) (m : Int) : Bool :=
  match d with
  | some .cw => m < 0
  | some .ccw => m > 0
  | none => false

/-- The stop causes tested at a yaw sample (R110, R132). -/
def sampleStops (s : State) : Bool :=
  match s.yaw.kind with
  | some .auto | some .storm =>
    match s.yaw.shortMean with
    | none => true
    | some m => m.natAbs ≤ stopLevel s || oppositeMean s.yaw.direction m
  | some .untwist => s.yaw.shortSpeed.any fun w => w ≥ 80
  | some .manual | some .clearance | none => false

/-- The stop causes, and the start conditions of a waiting automatic claim (R109, R110). -/
def testStops (s : State) : State :=
  if sampleStops s then normalStop s
  else if waiting s ∧ (s.yaw.kind = some .auto ∨ s.yaw.kind = some .storm) ∧ wantedMove s = none then
    completeWaiting s
  else s

/-- An untwist whose wait R130 keeps. -/
def untwistWaits (s : State) : Bool :=
  s.yaw.untwist.due && !s.yaw.untwist.inFlight && (theta s).isSome && s.mode.current ≠ .storm

/-- The two steps of R130. -/
def testUntwistWait (wind : Nat) (s : State) : State :=
  if untwistWaits s then
    let load (u : Untwist) : Untwist := { u with wait := startTimer s.clock 600000, ready := false }
    if wind ≥ 40 then
      let t := modYaw (fun y => { y with untwist := load y.untwist }) s
      if s.yaw.untwist.ready then clearFault .untwistDue 1 t else t
    else if s.yaw.untwist.ready = false ∧ s.yaw.untwist.wait = none then
      modYaw (fun y => { y with untwist := load y.untwist }) s
    else s
  else s

/-- Hold with the claim withdrawn, and the chain closed. -/
def mayStart (s : State) : Bool :=
  s.yaw.motion = .hold && !submitted s .yaw && s.lines.chainClosed

/-- The conditions of R131. -/
def untwistMayStart (s : State) : Bool :=
  s.yaw.untwist.ready && s.yaw.mode = .auto && mayStart s && s.yaw.clearance.isNone &&
  (s.mode.current = .parked || s.mode.current = .idle ||
    (s.mode.current = .isolated && !s.aux.lowMark))

/-- The automatic start of R109, with the thresholds of R134 in Storm. -/
def testAutoStart (s : State) : State :=
  if (s.yaw.mode = .auto ∨ s.yaw.mode = .storm) ∧ mayStart s ∧ s.yaw.clearance = none ∧ s.yaw.rest = none then
    match wantedMove s with
    | none => s
    | some d =>
      if barred s d then raiseTwistHard s
      else startMove (if s.yaw.mode = .storm then .storm else .auto) d none s
  else s

/-- The start rules: a ready untwist before the automatic start (R109, R131). -/
def testStarts (s : State) : State :=
  if untwistMayStart s then
    match theta s with
    | some x => startUntwist x s
    | none => s
  else testAutoStart s

/-- A due clearance waits while its own move runs, which ends it at its completion, and in Manual and Untwist (R117, R118). -/
def clearanceRests (s : State) : Bool :=
  (s.yaw.kind = some .clearance && s.yaw.motion ≠ .hold) || s.yaw.manualMark || s.yaw.mode = .untwist

/-- The direction of a clearance: toward its edge, counter-clockwise to the base (R117). -/
def clearanceDir (s : State) (c : Clearance) : Dir :=
  if c.target = (windowOf s c.window).limit ∧ c.target ≠ (windowOf s c.window).base then .cw else .ccw

/-- The clearance move starts in Auto and Storm, unless the hard limit bars its direction (R117, R128). -/
def startClearanceMove (n : Nat) (x : Int) (s : State) : State :=
  let c := clearanceFrom s n x
  if (s.yaw.mode = .auto ∨ s.yaw.mode = .storm) ∧ mayStart s ∧ barred s (clearanceDir s c) = false then
    startMove .clearance (clearanceDir s c) (some c.target) (modYaw (fun y => { y with clearance := some c }) s)
  else s

/-- The clearance move (R117). -/
def testClearance (s : State) : State :=
  if clearanceRests s then s
  else match theta s with
    | none => s
    | some x =>
      match windowAt s x with
      | none => endClearance s
      | some n => startClearanceMove n x s

/-- Step 5 of the yaw sample (R100). -/
def sampleMotion (wind : Nat) (s : State) : State :=
  let t := testUntwistWait wind (testStops s)
  if t.yaw.clearance.isSome then testClearance t else testStarts t

/-- Steps 1 to 4 of the yaw sample (R100). -/
def sampleWind (vaneA vaneB : Reading) (wind : Nat) (s : State) : State :=
  let s := modYaw (fun y => { y with sampleNo := y.sampleNo + 1 }) s
  formCap (formMeans (sampleVanes vaneA vaneB wind s))

/-! ## Manual moves (R118, R119) -/

/-- The manual mark set, with the yaw mode it makes (R106). -/
def takeManual (s : State) : State := modYaw (fun y => { y with manualMark := true, mode := .manual }) s

/-- A manual jog: from Hold it submits the claim, in a Manual move it takes the move over (R118). -/
def jog (d : Dir) (s : State) : State :=
  let t := takeManual s
  let t :=
    if s.yaw.motion = .hold then startMove .manual d none t
    else modYaw (fun y => { y with target := none, continuing := none, panelJog := none }) t
  modYaw (fun y => { y with manualTimer := startTimer s.clock 10000 }) t

/-- A manual move to a target (R118). -/
def goTo (x target : Int) (s : State) : State :=
  let t := modYaw (fun y => { y with manualTimer := none }) (takeManual s)
  if s.yaw.motion = .hold then
    if target = x then t else startMove .manual (toward x target) (some target) t
  else modYaw (fun y => { y with target := some target, continuing := none, panelJog := none }) t

/-- YawCommand Stop (R118). -/
def manualStop (s : State) : State := normalStop (modYaw (fun y => { y with manualMark := true }) s)

/-- YawCommand Auto (R118, R132). -/
def manualAuto (s : State) : State :=
  let t := modYaw (fun y => { y with manualMark := false }) s
  if s.yaw.kind = some .manual ∨ s.yaw.kind = some .untwist then normalStop t else t

/-- A Manual move in Moving in the direction given (R118). -/
def movingManually (s : State) (d : Dir) : Bool :=
  s.yaw.motion = .moving && s.yaw.kind = some .manual && s.yaw.direction = some d

/-- The motion state is Hold with the claim withdrawn. -/
def yawIdle (s : State) : Bool := s.yaw.motion = .hold && !submitted s .yaw

/-- The owner changes, or stays; a change stops a Manual move (R119, R143). -/
def setOwner (o : Owner) (s : State) : State :=
  let t := { s with mode := { s.mode with owner := o } }
  if o = s.mode.owner then t else stopKind .manual t

/-- The conditions under which a press of a jog button is taken (R119). -/
def pressTaken (d : Dir) (s : State) : Bool :=
  s.mode.owner = .localOwner && s.yaw.mode ≠ .disabled && s.yaw.mode ≠ .storm && s.lines.chainClosed &&
  (theta s).isSome && s.yaw.motion = .hold && !barred s d

/-- A press of a jog button that no other button forestalls (R119). -/
def pressJog (d : Dir) (s : State) : State :=
  if pressTaken d s then
    let t := if submitted s .yaw then completeWaiting s else s
    modYaw (fun y => { y with panelJog := some d }) (jog d t)
  else s

/-- The release of a jog button (R119). -/
def releaseJog (d : Dir) (s : State) : State :=
  if s.yaw.panelJog = some d then
    normalStop (modYaw (fun y => { y with panelJog := none }) s)
  else s

/-- The 10 s of a jog are up (R110). -/
def manualTimeout (s : State) : State :=
  if s.yaw.manualTimer.isSome then
    stopKind .manual (modYaw (fun y => { y with manualTimer := none }) s)
  else s

/-- A drive channel has differed for 500 ms (R114). -/
def driveFails (c : Fin 10) (s : State) : State :=
  if (channelAt s c).mismatch.isSome then
    let t := modYaw (fun y => { y with
      channels := updateAt y.channels c fun d => { d with failed := true, mismatch := none } }) s
    judgeDrives (raise .yawDrive (c + 1) t)
  else s

/-- The failed marks of the channels a table holds are removed, with their rows (R113). -/
def returnDrives (held : List (Fin 10)) (s : State) : State :=
  let t := modYaw (fun y => { y with
    channels := y.channels.mapIdx fun i c => if held.any fun k => k.val = i then { c with failed := false } else c }) s
  judgeDrives (forEach held (fun c => clearFault .yawDrive (c + 1)) t)

/-! ## Clearance and untwist at a known θ -/

/-- A clearance becomes due where θ lies inside an enabled window; elsewhere one already due stands until the next yaw sample (R126,
log 49). -/
def clearanceBecomesDue (s : State) : State :=
  match theta s with
  | none => s
  | some x =>
    match windowAt s x with
    | none => s
    | some n => raise .yawDwellForced 1 (modYaw (fun y => { y with clearance := some (clearanceFrom s n x) }) s)

/-- The twist record that SetTwistReference writes (R126). -/
def referenceRecord (ref : Int) (a : Nat) : TwistRecord :=
  let turns := Int.fdiv ref 3600
  let p := (ref - turns * 3600).toNat
  { turns := turns, ref := (a + 3600 - p) % 3600, last := a, valid := true, checkGood := true }

/-- An accepted SetTwistReference (R126). The ring is left as it is written (log 49). -/
def setReference (ref : Int) (a : Nat) (s : State) : State :=
  let t := windowsAct { s with retained := { s.retained with twist := referenceRecord ref a } }
  clearanceBecomesDue (judgeUntwistEnd (judgeSoftLimit (clearFault .twistSensor 1 t)))

/-- An accepted lowering of the soft or the hard limit acts on θ at once; a raised limit changes nothing (R127). -/
def applyTwistLimits (old : Settings) (s : State) : State :=
  let t := if s.store.working.hardLimit < old.hardLimit then applyHardLimit s else s
  if s.store.working.softLimit < old.softLimit then judgeSoftLimit t else t

/-- The untwist wait expires (R130, R131). -/
def untwistWaitExpires (s : State) : State :=
  if s.yaw.untwist.wait.isSome then
    let t := modYaw (fun y => { y with untwist := { y.untwist with wait := none, ready := true } }) s
    if s.mode.current = .generating then raise .untwistDue 1 t else t
  else s

/-- An accepted YawCommand Untwist with no move in flight (R133). -/
def commandUntwist (x : Int) (s : State) : State :=
  let t := modYaw (fun y => { y with manualMark := false }) s
  if x.natAbs ≤ 50 then judgeUntwistEnd t else startUntwist x (untwistBecomesDue t)

end Sys2Proof.Machine
end

