-- ==== Sys2Proof/Machine/ModeOps.lean ====
section
/-! DEFINITION. The mode controller: the mode record and what its neighbours do at a change, requested and automatic transitions, the emergency stop, the key, supervision and the status items (R136 to R150). -/

namespace Sys2Proof.Machine

/-! ## A change of the mode record (R136, R147) -/

/-- Targets under which the Idle limit runs (R139). -/
def risingTarget : Option Mode → Bool
  | some .idle | some .generating => true
  | _ => false

/-- Targets that stop the strings (R12, R140). -/
def fallingTarget : Option Mode → Bool
  | some .parked | some .storm => true
  | _ => false

/-- The mode record after a change, with the ModeNotice made pending (R136, R147). -/
def ModeCtl.changed (m : ModeCtl) (clock : Nat) (current : Mode) (target : Option Mode) (cause : Cause) : ModeCtl :=
  { m with
    current := current
    target := target
    previous := if current = m.current then m.previous else m.current
    entryTime := if current = m.current then m.entryTime else clock
    cause := cause
    idleLimit := if risingTarget target then startTimer clock 120000 else none
    calm := if current = .storm then m.calm else none
    noticeDue := true
    changeCount := min 255 (m.changeCount + 1) }

/-- What the converter does at a change of the mode or the target (R7, R12). -/
def stringsOnMode (changed : Bool) (current : Mode) (target : Option Mode) (s : State) : State :=
  if changed then
    match current with
    | .parked | .storm => stopStrings false s
    | .lockout | .isolated => stopStrings true s
    | .idle | .generating => if fallingTarget target then stopStrings false s else testJoins StringId.all s
  else if fallingTarget target then stopStrings false s
  else s

/-- What the yaw controller does at a change of the current mode (R106, R111, R130, R131, R132). -/
def yawOnMode (current : Mode) (s : State) : State :=
  match current with
  | .storm => stopUntwistWait (modYaw (fun y => { y with manualMark := false }) s)
  | .lockout => forcedStop (clearFault .untwistDue 1 s)
  | .generating =>
    let t := stopKind .untwist s
    if s.yaw.untwist.ready then raise .untwistDue 1 t else t
  | .parked | .idle | .isolated => clearFault .untwistDue 1 s

/-- The neighbours at a change of the current mode (R136). -/
def handMode (before current : Mode) (s : State) : State :=
  let t := yawOnMode current (coolOnMode current s)
  if before = .storm then clearFault .stormEntered 1 t else t

/-- A change of current mode or target, handed to the neighbours in the event (R136). A change that leaves both as they
are writes nothing. -/
def changeMode (current : Mode) (target : Option Mode) (cause : Cause) (s : State) : State :=
  if current = s.mode.current ∧ target = s.mode.target then s
  else
    let t := { s with mode := s.mode.changed s.clock current target cause }
    let t := stringsOnMode (current ≠ s.mode.current) current target t
    if current = s.mode.current then t else handMode s.mode.current current t

/-! ## Preconditions (R138) -/

/-- No row of codes 8, 9, 10 or 28 Active or Latched. -/
def nacelleFree (s : State) : Bool :=
  !isHeld s .gridRtExceed 1 && !isHeld s .gridOv 1 && !isHeld s .gridLost 1 && !isHeld s .estop 1

def readyStrings (s : State) : Nat := (StringId.all.filter fun k => (strOf s k).state = .ready).length

/-- The Generating preconditions. -/
def mayGenerate (s : State) : Bool :=
  readyStrings s ≥ 1 && s.grid.state = .normal && !s.grid.m1.beyond && s.aux.source = .grid && nacelleFree s

/-- What a requested pair does with no target in flight (R138): the new current mode and target, or nothing when the pair
is refused or its preconditions fail. -/
def requestedPair (s : State) (asked : Mode) : Option (Mode × Option Mode) :=
  match s.mode.current, asked with
  | .parked, .idle => if nacelleFree s then some (.idle, some .idle) else none
  | .parked, .generating => if nacelleFree s then some (.idle, some .generating) else none
  | .parked, .storm => some (.storm, none)
  | .idle, .generating => if mayGenerate s then some (.generating, none) else none
  | .idle, .parked => some (.idle, some .parked)
  | .idle, .storm => some (.idle, some .storm)
  | .generating, .parked => some (.generating, some .parked)
  | .generating, .storm => some (.generating, some .storm)
  | .storm, .parked => some (.parked, none)
  | _, _ => none

/-! ## Completion (R139, R140) -/

/-- A transition to Idle or Generating ends (R139). -/
def endTransition (s : State) : State :=
  if readyStrings s = 0 then changeMode .parked none .idleFailed s
  else if s.mode.target = some .generating then
    if mayGenerate s then changeMode .generating none .generatingReached s
    else changeMode s.mode.current none .generatingRefused s
  else changeMode s.mode.current none .idleReached s

/-- The transition in flight, if this event completes it (R139, R140). -/
def completeTransition (s : State) : State :=
  match s.mode.target with
  | some .idle | some .generating => if s.conv.queue = [] ∧ anyPrecharging s = false then endTransition s else s
  | some .parked =>
    if StringId.all.all fun k => (strOf s k).state.done then changeMode .parked none s.mode.cause s else s
  | some .storm =>
    if StringId.all.all fun k => (strOf s k).state.done then changeMode .storm none s.mode.cause s else s
  | _ => s

/-- The 120 s Idle limit expires (R139). -/
def idleLimitExpires (s : State) : State :=
  if s.mode.idleLimit.isSome ∧ risingTarget s.mode.target then endTransition s else s

/-! ## Automatic transitions (R141) -/

/-- The grid becomes Lost. -/
def modeOnLost (s : State) : State :=
  if s.mode.current = .lockout then s else changeMode .isolated none .gridLost s

/-- The grid becomes Normal from Lost. -/
def modeOnReturn (s : State) : State :=
  if s.mode.current = .isolated then changeMode .parked none .gridReturned s else s

/-- Modes from which a storm is entered by wind. -/
def stormFrom : Mode → Bool
  | .parked | .idle | .generating => true
  | .lockout | .storm | .isolated => false

/-- A yaw sample with a storm's wind (R141). -/
def testStormEntry (s : State) : State :=
  if stormFrom s.mode.current ∧ s.lines.chainClosed ∧ s.yaw.longSpeed.any fun w => w ≥ 250 then
    changeMode .storm none .stormWind (raise .stormEntered 1 s)
  else s

/-- The calm timer at a yaw sample (R141). -/
def testCalm (s : State) : State :=
  if s.mode.current = .storm then
    { s with mode := { s.mode with
        calm := if s.yaw.longSpeed.any fun w => w < 200 then s.mode.calm.orElse fun _ => startTimer s.clock 600000
          else none } }
  else s

/-- The calm timer expires (R141). -/
def calmExpires (s : State) : State :=
  if s.mode.current = .storm ∧ s.mode.calm.isSome then changeMode .parked none .stormCalm s else s

/-! ## Emergency stop, key, panel (R142, R143, R145) -/

/-- The chain opens (R142). -/
def estopOpens (s : State) : State :=
  let t := forcedStop (forEach StringId.all faultString (raise .estop 1 s))
  if s.mode.current = .lockout then changeMode .lockout none .emergencyStop t
  else changeMode .parked none .emergencyStop t

/-- The owner at a position of the key (R143). -/
def ownerOf : KeyPos → Owner
  | .remotePos => .pendingRemote
  | .localPos | .lockoutPos => .localOwner

/-- The key reaches a position (R143); `before` is where it stood. -/
def keyReaches (before p : KeyPos) (s : State) : State :=
  let t := setOwner (ownerOf p) s
  if p = .lockoutPos then changeMode .lockout none .keyLockout t
  else if before = .lockoutPos then
    changeMode (if s.grid.state = .lost then .isolated else .parked) none .keyLeavesLockout t
  else t

/-- A press of the reset button: every Latched Trip row is acknowledged (R145). -/
def resetPressed (s : State) : State :=
  ackWhere (fun i r => (codeOfRow i).isTrip && r.state = .latched) s

/-! ## Link silence supervision (R146) -/

/-- The silence timer loaded with the interval. -/
def silenceTimer (s : State) (interval : Nat) : Option Countdown := startTimer s.clock (interval * 1000)

/-- A request frame has been accepted (R146). -/
def supervisionReload (s : State) : State :=
  if s.mode.supEnabled then
    clearFault .linkSilent 1
      { s with mode := { s.mode with supTimer := silenceTimer s s.mode.supInterval, supCount := 0 } }
  else s

/-- The silence timer expires (R146). -/
def supervisionExpires (s : State) : State :=
  if s.mode.supEnabled ∧ s.mode.supTimer.isSome then
    let n := min 2 (s.mode.supCount + 1)
    let t := { s with mode := { s.mode with supCount := n, supTimer := silenceTimer s s.mode.supInterval } }
    if n = 1 then raise .linkSilent 1 t
    else if (s.mode.current = .idle ∨ s.mode.current = .generating) ∧ fallingTarget s.mode.target = false then
      changeMode s.mode.current (some .parked) .linkSilence t
    else t
  else s

/-! ## Status (R148) and the numbers of the line (R168, R175) -/

def Mode.num : Mode → Nat
  | .lockout => 0 | .parked => 1 | .idle => 2 | .generating => 3 | .storm => 4 | .isolated => 5

def Mode.ofNum : Nat → Option Mode
  | 0 => some .lockout | 1 => some .parked | 2 => some .idle | 3 => some .generating
  | 4 => some .storm | 5 => some .isolated | _ => none

def Cause.num : Cause → Nat
  | .start => 0 | .requested => 1 | .idleReached => 2 | .idleFailed => 3 | .generatingReached => 4
  | .generatingRefused => 5 | .gridLost => 6 | .gridReturned => 7 | .stormWind => 8 | .stormCalm => 9
  | .emergencyStop => 10 | .keyLockout => 11 | .keyLeavesLockout => 12 | .linkSilence => 13

def Owner.num : Owner → Nat
  | .remote => 0 | .localOwner => 1 | .pendingRemote => 2

def keyNum : KeyPos → Nat
  | .remotePos => 0 | .localPos => 1 | .lockoutPos => 2

def GridState.num : GridState → Nat
  | .normal => 0 | .dip => 1 | .recovering => 2 | .lost => 3

def Source.num : Source → Nat
  | .grid => 0 | .bridged => 1 | .battery => 2

def YawMode.num : YawMode → Nat
  | .disabled => 0 | .storm => 1 | .untwist => 2 | .manual => 3 | .auto => 4

def Motion.num : Motion → Nat
  | .hold => 0 | .venting => 1 | .moving => 2 | .ramping => 3 | .pressurizing => 4

def LoopState.num : LoopState → Nat
  | .off => 0 | .starting => 1 | .running => 2 | .degraded => 3 | .failed => 4

def AirState.num : AirState → Nat
  | .off => 0 | .running => 1 | .degraded => 2

def StrState.num : StrState → Nat
  | .offline => 0 | .precharging => 1 | .ready => 2 | .running => 3 | .derated => 4
  | .stopping => 5 | .faulted => 6 | .isolated => 7

/-- The 20 items of GetStatus, an absent one as 255 (R148). -/
def statusItems (s : State) : List Nat :=
  [s.mode.current.num, (s.mode.target.map Mode.num).getD 255, s.mode.owner.num, keyNum s.lines.key,
   bit (!s.lines.chainClosed), if s.mode.supEnabled then s.mode.supCount else 255,
   s.grid.state.num, s.aux.source.num, s.yaw.mode.num, s.yaw.motion.num,
   s.cool.l1.state.num, s.cool.l2.state.num, s.cool.l3.state.num] ++
  (s.conv.strings.toList.map fun r => r.state.num) ++ [activeRows s]

/-- Marks that a comparison sets: those already set, and those of items that differ. -/
def marksAfter : List Bool → List Nat → List Nat → List Bool
  | m :: ms, a :: as, b :: bs => (m || a ≠ b) :: marksAfter ms as bs
  | ms, _, _ => ms

/-- The change mark of every item this event has changed is set (R148): the items are compared as the event found and leaves
them (log 48). -/
def updateMarks (s : State) : State :=
  { s with mode := { s.mode with
      marks := marksAfter s.mode.marks s.mode.base (statusItems s)
      base := statusItems s } }

end Sys2Proof.Machine
end

