-- ==== Sys2Proof/Machine/GridOps.lean ====
section
/-! DEFINITION. The grid monitor: the sample, the voltage monitors, the grid state machine, the ride-through curve and the dip list (R26 to R45), with the battery accounting it shares a source with (R92). -/

namespace Sys2Proof.Machine

def modGrid (f : Grid → Grid) (s : State) : State := { s with grid := f s.grid }

/-! ## The sample (R26) -/

/-- u of a line voltage, in thousandths of 3,300 V. -/
def perUnit (volts : Nat) : Nat := min 1500 (volts * 1000 / Config.uNom)

/-- Step 1: the voltage is taken. -/
def takeVoltage (reading : Nat) (s : State) : State :=
  let volts := min reading 5000
  modGrid (fun g => { g with volts := volts, u := perUnit volts, sampleTime := s.clock, sampleNo := g.sampleNo + 1 }) s

/-! ## The monitors (R27 to R30) -/

/-- The direction fixed by the role (R27). -/
def MonitorId.falling : MonitorId → Bool
  | .m1 | .m2 => true
  | .m3 => false

def MonitorId.num : MonitorId → Nat
  | .m1 => 1 | .m2 => 2 | .m3 => 3

def MonitorId.ofNum : Nat → Option MonitorId
  | 1 => some .m1 | 2 => some .m2 | 3 => some .m3 | _ => none

def monitorOf (s : State) : MonitorId → Monitor
  | .m1 => s.grid.m1
  | .m2 => s.grid.m2
  | .m3 => s.grid.m3

def setMonitor (m : MonitorId) (x : Monitor) (s : State) : State :=
  match m with
  | .m1 => modGrid (fun g => { g with m1 := x }) s
  | .m2 => modGrid (fun g => { g with m2 := x }) s
  | .m3 => modGrid (fun g => { g with m3 := x }) s

/-- A sample counts toward beyond (R27). -/
def countsBeyond (falling : Bool) (level u : Nat) : Bool := if falling then u < level else u > level

/-- A sample counts toward return: past the level by the hysteresis of 20 (R27). -/
def countsReturn (falling : Bool) (level u : Nat) : Bool := if falling then u ≥ level + 20 else u + 20 ≤ level

/-- What a monitor raises at a sample. -/
inductive MonitorEvent where
  | none | crossing | returning
  deriving DecidableEq, Repr

/-- The run of samples a change needs (R27). -/
def Monitor.needed (m : Monitor) : Nat := if m.count = 0 then 1 else m.count

/-- One sample judged by one monitor (R28, R29). -/
def Monitor.sample (m : Monitor) (falling : Bool) (u : Nat) : Monitor × MonitorEvent :=
  if !m.armed then (m, .none)
  else if (if m.beyond then countsReturn falling m.level u else countsBeyond falling m.level u) then
    if m.run + 1 ≥ m.needed then
      ({ m with beyond := !m.beyond, run := 0 }, if m.beyond then .returning else .crossing)
    else ({ m with run := m.run + 1 }, .none)
  else ({ m with run := 0 }, .none)

/-- M3's mark set or cleared: its over-since sample, and GRID_OV at the clearing (R28, R29, R30, R39). -/
def followOver (before after : Bool) (s : State) : State :=
  if after then
    if before then s else modGrid (fun g => { g with overSince := some g.sampleNo }) s
  else if before then clearFault .gridOv 1 (modGrid (fun g => { g with overSince := none }) s)
  else s

/-- Step 2 for one monitor. -/
def sampleMonitor (m : MonitorId) (s : State) : State × MonitorEvent :=
  let old := monitorOf s m
  let r := old.sample m.falling s.grid.u
  let t := setMonitor m r.1 s
  (if m = .m3 then followOver old.beyond r.1.beyond t else t, r.2)

/-- The beyond mark of a monitor judged by the latest u alone (R30, R45). -/
def judgeAlone (m : MonitorId) (level u : Nat) : Bool := countsBeyond m.falling level u

/-- An accepted ArmGridMonitor (R30). -/
def armMonitor (m : MonitorId) (arm : Bool) (level count : Nat) (s : State) : State :=
  let old := monitorOf s m
  let beyond := arm && judgeAlone m level s.grid.u
  let t := setMonitor m { armed := arm, level := level, count := count, beyond := beyond, run := 0 } s
  if m = .m3 then
    if beyond then followOver old.beyond true t
    else clearFault .gridOv 1 (modGrid (fun g => { g with overSince := none }) t)
  else t

/-! ## The ride-through curve (R35) -/

/-- The curve between points, from point `p` on. -/
def curveFrom (p : CurvePoint) : List CurvePoint → Nat → Allowance
  | [], _ => .unlimited
  | q :: rest, v =>
    if v < q.u then .ms (p.t + (q.t - p.t) * (v - p.u) / (q.u - p.u)) else curveFrom q rest v

/-- The curve's value at a voltage (R35). -/
def curveValue : List CurvePoint → Nat → Allowance
  | [], _ => .unlimited
  | p :: rest, v => if v < p.u then .ms p.t else curveFrom p rest v

/-- An elapsed time is beyond an allowance; unlimited is never exceeded (R34). -/
def Allowance.exceededBy (a : Allowance) (elapsed : Nat) : Bool :=
  match a with
  | .ms t => elapsed > t
  | .unlimited => false

/-! ## The dip list (R33) -/

/-- Step 3: every entry whose age has reached 10,000 samples leaves from the head. -/
def ageDips (s : State) : State :=
  { s with conv := { s.conv with
      dips := s.conv.dips.dropWhile fun e => s.grid.sampleNo - e.sample ≥ 10000 } }

/-! ## The state machine (R31 to R41) -/

/-- The grid state entered now, with the fields of every other state absent (R31). -/
def Grid.entered (g : Grid) (clock : Nat) (state : GridState) : Grid :=
  { g with state := state, entryTime := clock, dip := none, recovery := none, dwellStart := none }

/-- The entry to Lost, taken by the three neighbours in the event (R40). -/
def enterLost (s : State) : State :=
  let t := modGrid (fun g => g.entered s.clock .lost) (raise .gridLost 1 s)
  auxOnLost (modeOnLost (stopStrings true t))

/-- The entry to Lost by a cause with a row of its own. -/
def lostBy (c : FaultCode) (s : State) : State := enterLost (raise c 1 s)

/-- The clock time of a dip's start joins the dip list (R32). -/
def addDip (s : State) : State :=
  { s with conv := { s.conv with dips := s.conv.dips ++ [⟨s.clock, s.grid.sampleNo⟩] } }

/-- The fields of a dip that begins at this sample (R32). -/
def enterDip (s : State) : State :=
  auxOnDip (modGrid (fun g => { g.entered s.clock .dip with
    dip := some { start := g.sampleNo, minU := g.u, allowed := curveValue s.store.working.curve g.u } }) s)

/-- An M1 crossing in Normal or Recovering begins a dip (R32). -/
def beginDip (s : State) : State :=
  let t := raise .gridDip 1 (addDip s)
  if t.conv.dips.length < 3 then enterDip t else lostBy .gridRtExceed t

/-- An M1 return in Dip begins the recovery (R37). -/
def beginRecovery (s : State) : State :=
  auxOnRecovering (modGrid (fun g => { g.entered s.clock .recovering with
    recovery := some { start := g.sampleNo, qHold := true } }) s)

/-- Step 4: an M1 event is applied to the grid state. -/
def applyM1 (e : MonitorEvent) (s : State) : State :=
  match e, s.grid.state with
  | .crossing, .normal | .crossing, .recovering => beginDip s
  | .returning, .dip => beginRecovery s
  | _, _ => s

/-- Step 5: the overvoltage timing (R39). -/
def checkOver (s : State) : State :=
  match s.grid.overSince with
  | some n =>
    if s.grid.m3.beyond ∧ s.grid.state ≠ .lost ∧ s.grid.sampleNo - n ≥ 100 then lostBy .gridOv s else s
  | none => s

/-- Step 6 in Dip (R34). -/
def checkDip (d : DipTiming) (s : State) : State :=
  let low := min d.minU s.grid.u
  let d := { d with minU := low, allowed := curveValue s.store.working.curve low }
  let t := modGrid (fun g => { g with dip := some d }) s
  if d.allowed.exceededBy (s.grid.sampleNo - d.start) then lostBy .gridRtExceed t else t

/-- Recovering becomes Normal (R38). -/
def recoveryEnds (s : State) : State :=
  auxOnNormal (clearFault .gridDip 1 (modGrid (fun g => g.entered s.clock .normal) s))

/-- Step 6 in Recovering (R37, R38). -/
def checkRecovery (r : RecoveryTiming) (s : State) : State :=
  let elapsed := s.grid.sampleNo - r.start
  let r := { r with qHold := r.qHold && elapsed < 500 }
  let t := modGrid (fun g => { g with recovery := some r }) s
  if (r.qHold = false ∧ s.conv.granted.p = s.conv.request.p) ∨ elapsed ≥ 5000 then recoveryEnds t else t

/-- Lost becomes Normal (R41). -/
def gridReturns (s : State) : State :=
  let t := modGrid (fun g => g.entered s.clock .normal) s
  let t := clearFault .gridDip 1 (clearFault .gridLost 1 (clearFault .gridRtExceed 1 t))
  auxOnNormal (modeOnReturn t)

/-- A qualifying sample of the return dwell (R41). -/
def qualifies (s : State) : Bool := s.grid.u ≥ 950 && !s.grid.m3.beyond

/-- Step 6 in Lost (R41). -/
def checkReturn (s : State) : State :=
  if qualifies s then
    let start := s.grid.dwellStart.getD s.grid.sampleNo
    let t := modGrid (fun g => { g with dwellStart := some start }) s
    if s.grid.sampleNo - start ≥ s.store.working.returnDwell * 1000 then gridReturns t else t
  else modGrid (fun g => { g with dwellStart := none }) s

/-- Step 6: the timing of the state reached. -/
def checkTiming (s : State) : State :=
  match s.grid.state, s.grid.dip, s.grid.recovery with
  | .dip, some d, _ => checkDip d s
  | .recovering, _, some r => checkRecovery r s
  | .lost, _, _ => checkReturn s
  | _, _, _ => s

/-- The six steps of the grid sample (R26). -/
def gridSample (reading : Nat) (s : State) : State :=
  let s := takeVoltage reading s
  let r := sampleMonitor .m1 s
  let s := (sampleMonitor .m3 (sampleMonitor .m2 r.1).1).1
  checkTiming (checkOver (applyM1 r.2 (ageDips s)))

/-! ## Expiries of the grid monitor told as commands (log 2) -/

/-- A dip has outlived its allowance (R34). -/
def rideThroughEnds (s : State) : State :=
  match s.grid.state, s.grid.dip with
  | .dip, some d => if d.allowed = .unlimited then s else lostBy .gridRtExceed s
  | _, _ => s

/-- The Q hold ends (R37). -/
def qHoldEnds (s : State) : State :=
  match s.grid.state, s.grid.recovery with
  | .recovering, some r => modGrid (fun g => { g with recovery := some { r with qHold := false } }) s
  | _, _ => s

/-- 5,000 ms of Recovering are up (R38). -/
def recoveryTimesOut (s : State) : State := if s.grid.state = .recovering then recoveryEnds s else s

/-- M3 has been beyond for 100 ms (R39). -/
def overTimesOut (s : State) : State :=
  if s.grid.m3.beyond ∧ s.grid.state ≠ .lost then lostBy .gridOv s else s

/-- The return dwell is complete (R41). -/
def dwellCompletes (s : State) : State :=
  if s.grid.state = .lost ∧ s.grid.dwellStart.isSome then gridReturns s else s

/-! ## The battery (R89, R91, R92) -/

/-- The sum of the ten grants. -/
def grantSum (s : State) : Nat := (claimList.map (grantOf s)).sum

/-- The energy after an accounting expiry (R92). -/
def energyAfter (s : State) : Nat :=
  match s.aux.source with
  | .grid => min Config.batteryCapacity (s.retained.energy + grantOf s .charger)
  | .bridged | .battery =>
    s.retained.energy - (grantSum s + s.store.working.controlReserve + s.store.working.brakeReserve)

/-- The charger at an accounting expiry on Grid (R94). -/
def accountCharger (s : State) : State :=
  if s.aux.source = .grid ∧ s.retained.energy = Config.batteryCapacity then withdrawClaim .charger s
  else judgeCharger s

/-- The 1 s battery accounting (R92). -/
def accountBattery (s : State) : State := accountCharger (judgeMarks (writeEnergy (energyAfter s) s))

/-- The bridge timer expires (R89). -/
def bridgeExpires (s : State) : State :=
  if s.aux.source = .bridged ∧ s.aux.bridge.isSome then sourceToBattery s else s

/-- 10 s of Normal on Battery are up (R91). -/
def normalCountExpires (s : State) : State :=
  if s.aux.source = .battery ∧ s.aux.normal.isSome then sourceToGrid s else s

end Sys2Proof.Machine
end

