-- ==== Sys2Proof/Machine/React.lean ====
section
/-! DEFINITION. What the blocks do to one another at the end of an event: transitions, precharge, loops, yaw mode, the walk and the hand-over of grants (R8, R64, R85, R87, R106, R139, R140), in the order of log 11. -/

namespace Sys2Proof.Machine

/-! ## The hand-over of grants (R87) -/

/-- A grant has fallen to 0. -/
def fellToZero (before after : Claims) (id : ClaimId) : Bool :=
  (before.get id).grant > 0 && (after.get id).grant = 0 && (after.get id).submitted

/-- A grant has risen from 0. -/
def roseFromZero (before after : Claims) (id : ClaimId) : Bool :=
  (before.get id).grant = 0 && (after.get id).grant > 0

/-- A pump grant, handed to its loop (R66, R70). -/
def handPump (before after : Claims) (l : Liquid) (s : State) : State :=
  if roseFromZero before after (pumpClaim l) then startLoop l s
  else if fellToZero before after (pumpClaim l) then pumpGrantLost l s
  else s

/-- The precharge grant, handed to the converter supervisor (R10); a grant of 25 kW begins the head's precharge at the next
turn (R8). -/
def handPrecharge (before after : Claims) (s : State) : State :=
  if fellToZero before after .precharge then forEach StringId.all abortPrecharge s else s

/-- The yaw grant, handed to the yaw controller (R112). -/
def handYaw (before after : Claims) (s : State) : State :=
  if after.yaw.submitted then yawGrantChange before.yaw.grant after.yaw.grant s else s

/-- Every owner acts on its new grant; fans, heaters, charger and hoist follow theirs in the walk and in `outputs` (R87). -/
def handGrants (before after : Claims) (s : State) : State :=
  handYaw before after (handPrecharge before after (handPump before after .l2 (handPump before after .l1 s)))

/-- The walk that this event owes, and the owners' answers (R83, R85). -/
def walkAndHand (s : State) : State :=
  if s.aux.walkDue then
    let t := runWalk s
    handGrants s.aux.claims t.aux.claims t
  else s

/-! ## One turn, and the whole -/

/-- One turn of the reactions inside an event. -/
def turn (s : State) : State :=
  walkAndHand (judgeYaw (judgeLoops (followPrecharge (completeTransition s))))

/-- A number of turns. -/
def turns : Nat → State → State
  | 0, s => s
  | n + 1, s => turns n (turn s)

/-- Fan and drive channels follow the grants and the running set (R63, R108). -/
def outputs (s : State) : State := driveYaw (driveFans s)

/-- All the reactions of an event. The chain of R85 ends within the turns given (log 11). -/
def settle (s : State) : State := outputs (turns 8 s)

/-- The cooling evaluation sets its clamps after the budget has answered (R74, R76). -/
def coolingEvaluation (outlet1 outlet2 air humidity : Int) (s : State) : State :=
  clampLoops (settle (evaluateCooling outlet1 outlet2 air humidity s))

/-- The evaluation at which the air sensor's hold has lasted 5 s: L3 is judged from the substitute in that event, and its row
after the budget has answered (R76). -/
def airSubstitution (s : State) : State :=
  if airHeld s then limitAir (settle (evaluateAir (substituteAir s))) else s

/-- The yaw sample (R100), with the storm entry and calm timer that read its means (R141). -/
def yawSample (vaneA vaneB : Reading) (wind : Int) (s : State) : State :=
  let w := (clampInt wind 0 700).toNat
  let t := clearBrakeFault (testCalm (testStormEntry (sampleWind vaneA vaneB w s)))
  sampleMotion w (judgeYaw t)

end Sys2Proof.Machine
end

