-- ==== Sys2Proof/Machine/Starts.lean ====
section
/-! DEFINITION. The starts: cold start, warm restart and power failure, block by block (R25, R44, R45, R61, R80, R99, R122, R125, R135, R150, R166, R179, R183, R186). -/

namespace Sys2Proof.Machine

/-! ## Power failure (R182) -/

/-- The channels after a start: commanded to stop, with the feedback the line shows. -/
def FanChannel.started (c : FanChannel) : FanChannel := { FanChannel.atStart with proven := c.proven }
def DriveChannel.started (c : DriveChannel) : DriveChannel := { DriveChannel.atStart with proven := c.proven }

/-- The cooling controller with nothing but what its inputs show. -/
def Cooling.inputsOf (c : Cooling) : Cooling :=
  { Cooling.atStart with
    l1 := { LiquidLoop.atStart with flow := c.l1.flow, fans := c.l1.fans.map FanChannel.started }
    l2 := { LiquidLoop.atStart with flow := c.l2.flow, fans := c.l2.fans.map FanChannel.started }
    l3 := { AirLoop.atStart with fans := c.l3.fans.map FanChannel.started } }

/-- The yaw controller with nothing but what its inputs show. -/
def Yaw.inputsOf (y : Yaw) : Yaw := { Yaw.atStart with channels := y.channels.map DriveChannel.started }

/-- Power fails: what is not retained is lost, and a store in flight leaves the image failing its check (R182, logs 5 and 47). -/
def powerFails (s : State) : State :=
  { State.reset with
    pending := s.pending
    powered := false
    lines := s.lines
    cool := s.cool.inputsOf
    yaw := s.yaw.inputsOf
    retained := s.retained
    store := { Store.atStart with
      image := s.store.image
      imageCheck := s.store.imageCheck && s.store.storing.isNone } }

/-! ## The parts of a start -/

/-- The monitors of a start: defaults at cold start, as set at warm restart (R44). -/
def startMonitor (m : Monitor) (falling : Bool) (u : Nat) : Monitor :=
  { m with beyond := m.armed && countsBeyond falling m.level u, run := 0 }

/-- The grid monitor after its start sample (R44, R45). -/
def startGrid (g : Grid) (clock reading : Nat) : Grid :=
  let volts := min reading 5000
  let u := perUnit volts
  let m3 := startMonitor g.m3 false u
  let state : GridState := if u < 900 then .lost else .normal
  { m1 := startMonitor g.m1 true u
    m2 := startMonitor g.m2 true u
    m3 := m3
    overSince := if m3.beyond then some 0 else none
    state := state
    volts := volts
    u := u
    sampleTime := clock
    entryTime := clock
    sampleNo := 0
    dip := none
    recovery := none
    dwellStart := if state = .lost ∧ u ≥ 950 ∧ m3.beyond = false then some 0 else none }

/-- A string record at a start: Faulted on a held Trip row or an open chain, Isolated where not enabled (R25, R150). The current
measured before it stands until the start's rows have captured it (R160). -/
def startString (s : State) (k : StringId) (r : StringRec) : StringRec :=
  { StringRec.atStart with
    enabled := r.enabled
    iMeas := r.iMeas
    state :=
      if stringGated s k then .faulted
      else if !r.enabled then .isolated
      else if s.lines.chainClosed then .offline
      else .faulted }

/-- The converter supervisor at a start (R25). -/
def startConverter (s : State) : Converter :=
  { Converter.atStart with strings := s.conv.strings.map (startString s) }

/-- The thermal model at a start; a cold start comes with rises and temperatures of 0 (R61). -/
def startTherm (s : State) : Thermal :=
  let inlet (i : Inlet) : Inlet := { i with source := .held, lastValid := none, holdStart := some 0 }
  { recs := s.therm.recs.map fun _ r => { ThermRec.atStart with tRise := r.tRise, tj := r.tj }
    inlet1 := inlet s.therm.inlet1
    inlet2 := inlet s.therm.inlet2
    heat1 := s.store.working.baseLoad1
    heat2 := s.store.working.baseLoad2
    intervalNo := 0 }

/-- The cooling controller at a start (R80). -/
def startCooling (s : State) : Cooling :=
  let c := s.cool.inputsOf
  let loop (l : Liquid) (r : LiquidLoop) : LiquidLoop :=
    { r with state := if isHeld s .loopFailed l.num then .failed else .off }
  { c with
    l1 := loop .l1 c.l1
    l2 := loop .l2 c.l2
    l3 := { c.l3 with air := { s.cool.l3.air with source := .held, holdStart := some 0 } }
    humidity := s.cool.humidity }

/-- The mode controller at a start (R150). -/
def startMode (s : State) (grid : GridState) : ModeCtl :=
  let m : Mode :=
    if s.lines.key = .lockoutPos then .lockout else if grid = .lost then .isolated else .parked
  { ModeCtl.atStart with
    current := m
    previous := m
    entryTime := s.clock
    owner := if s.lines.key = .remotePos then .remote else .localOwner
    supInterval := s.mode.supInterval }

/-- Every block at its start values, from what the start finds kept (R149, R150). The states of the event's snapshots stay those
before it (R160). -/
def startBlocks (reading : Nat) (s : State) : State :=
  let grid := startGrid s.grid s.clock reading
  let mode := startMode s grid.state
  let source : Source := if grid.state = .lost then .battery else .grid
  { s with
    powered := true
    conv := startConverter s
    grid := grid
    therm := startTherm s
    cool := startCooling s
    aux := { Budget.atStart with source := source }
    yaw := { s.yaw.inputsOf with windows := s.store.working.windows }
    mode := mode
    link := { Link.atStart with breakOn := s.lines.lineAtBreak }
    store := { s.store with storing := none } }

/-- The rows that a start raises and clears, in ascending row index (R45, R80, R99, R122, R125, R150, R153, R179, R183). -/
def startRows (twistLost imageLost : Bool) (s : State) : State :=
  let lost := s.grid.state = .lost
  let s := if lost then s else clearFault .gridRtExceed 1 (clearFault .gridDip 1 s)
  let s := if s.grid.m3.beyond then s else clearFault .gridOv 1 s
  let s := setFault .gridLost 1 lost s
  let s := if s.cool.l1.state = .off then clearFault .loopFlow 1 s else s
  let s := if s.cool.l2.state = .off then clearFault .loopFlow 2 s else s
  let s := clearFault .loopLimited 3 (clearFault .loopLimited 2 (clearFault .loopLimited 1 s))
  let s := clearFault .auxBridge 1 (clearFault .auxRevoked 1 s)
  let s := setFault .battCritical 1 s.aux.criticalMark (setFault .battLow 1 s.aux.lowMark s)
  let s := forEach [1, 2, 3, 4, 5, 6, 7, 8, 9, 10] (clearFault .yawDrive) s
  let s := setFault .yawDrivesLow 1 (availableDrives s < 4) s
  let s := setFault .yawDwellForced 1 s.yaw.clearance.isSome s
  let s := if twistLost then raise .twistSensor 1 s else s
  let s := setFault .estop 1 (!s.lines.chainClosed) s
  let s := clearFault .stormEntered 1 (clearFault .linkOverrun 1 (clearFault .linkSilent 1 s))
  if imageLost then raise .settingsDefault 1 s else s

/-- The currents measured, 0 after a start (R25). -/
def clearMeasured (s : State) : State :=
  { s with conv := { s.conv with strings := s.conv.strings.map fun _ r => { r with iMeas := 0 } } }

/-- The states that a cold start's snapshots show, those of the start (R166). -/
def markStart (s : State) : State :=
  { s with evt := { s.evt with
      mode := s.mode.current, grid := s.grid.state, source := s.aux.source, motion := s.yaw.motion } }

/-- The clearance of a start at a known θ (R122). -/
def startClearance (s : State) : Option Clearance :=
  match theta s with
  | none => none
  | some x => (windowAt s x).map fun n => clearanceFrom s n x

/-- The battery marks, judged afresh (R99). -/
def startMarks (s : State) : State :=
  { s with aux := { s.aux with
      lowMark := s.retained.energy < 129600, criticalMark := s.retained.energy < 64800
      spare := dispatchable s } }

/-- What a start settles after its values are set: marks, clearance, rows, the charger's walk, the yaw mode and the status
items (R93, R94, R122, R148). -/
def startSettles (twistLost imageLost : Bool) (s : State) : State :=
  let s := startMarks s
  let s := modYaw (fun y => { y with clearance := startClearance s }) s
  let s := clearMeasured (startRows twistLost imageLost s)
  let s := { s with aux := { s.aux with claims := { s.aux.claims with
    yaw := .withdrawn 44 (11 * availableDrives s) } } }
  let s := judgeCharger s
  let s := if s.aux.walkDue then runWalk s else s
  let s := setYawMode (yawModeNow s) s
  { s with mode := { s.mode with base := statusItems s } }

/-! ## The two starts -/

/-- The stored image loaded, or the defaults (R183). -/
def loadImage (st : Store) : Store :=
  { working := if st.imageCheck then st.image else .defaults
    image := st.image
    imageCheck := st.imageCheck
    imageValid := st.imageCheck
    storing := none
    lock := false }

/-- The retained domain after its checks (R125, R186). -/
def checkRetained (r : Retained) : Retained :=
  let good := r.twist.checkGood && r.twist.valid
  { twist := { r.twist with valid := good, checkGood := true }
    energy := if r.energyCheck then r.energy else 0
    energyCheck := true }

/-- Cold start (R150): a part whose power was on has lost it first (log 31). -/
def coldStart (reading : Nat) (s : State) : State :=
  let s := powerFails s
  let twist := s.retained.twist
  let kept := { s with
    lines := { s.lines with gridVolts := reading }
    store := loadImage s.store
    retained := checkRetained s.retained }
  startSettles (!(twist.checkGood && twist.valid)) (!s.store.imageCheck) (markStart (startBlocks reading kept))

/-- Warm restart (R149). -/
def warmRestart (reading : Nat) (s : State) : State :=
  startSettles false false
    (startBlocks reading { s with lines := { s.lines with gridVolts := reading } })

end Sys2Proof.Machine
end

