-- ==== Sys2Proof/Machine/Operands.lean ====
section
/-! DEFINITION. The operands of the host line: status codes (R171), message kinds with their body lengths (R172), the single-value settings (R181), and reading a request body's fields (R168). -/

namespace Sys2Proof.Machine

/-- The status codes (R171). -/
inductive Status where
  | ok | okClamped | busy | refusedState | notOwner | locked | conflict | badKind | badLength | badArg
  deriving DecidableEq, Repr

def Status.code : Status → Nat
  | .ok => 0 | .okClamped => 1 | .busy => 2 | .refusedState => 3 | .notOwner => 4
  | .locked => 5 | .conflict => 6 | .badKind => 7 | .badLength => 8 | .badArg => 9

/-- OK or OK_CLAMPED: the request is taken. -/
def Status.taken : Status → Bool
  | .ok | .okClamped => true
  | _ => false

/-- The status of an accepted request of which a value was, or was not, clamped. -/
def clampedIf (clamped : Bool) : Status := if clamped then .okClamped else .ok

/-! ## Kinds (R172) -/

/-- The kinds of request, in the order of the kind table. -/
inductive Kind where
  | ping | identify | getStatus | setTime | restart | enableSupervision
  | setMode | claimControl
  | setPower | setStringEnable | getConverter | setRideThrough | armGridMonitor | getGrid
  | setCooling | getCooling
  | setAuxReserves | getBudget | setHoist
  | setYawPolicy | yawCommand | setDriveSlots | setNoDwellWindow | getYaw | setTwistReference
  | getFaults | ackFault | setFaultClass | getSnapshot | clearSnapshot | clearCounts
  | getSetting | setSetting | storeSettings | lockSettings | setBatteryEnergy
  deriving DecidableEq, Repr

def Kind.all : List Kind :=
  [.ping, .identify, .getStatus, .setTime, .restart, .enableSupervision,
   .setMode, .claimControl,
   .setPower, .setStringEnable, .getConverter, .setRideThrough, .armGridMonitor, .getGrid,
   .setCooling, .getCooling] ++
  [.setAuxReserves, .getBudget, .setHoist,
   .setYawPolicy, .yawCommand, .setDriveSlots, .setNoDwellWindow, .getYaw, .setTwistReference,
   .getFaults, .ackFault, .setFaultClass, .getSnapshot, .clearSnapshot, .clearCounts,
   .getSetting, .setSetting, .storeSettings, .lockSettings, .setBatteryEnergy]

/-- The KIND byte. -/
def Kind.code : Kind → Byte
  | .ping => 0x01 | .identify => 0x02 | .getStatus => 0x03 | .setTime => 0x04 | .restart => 0x05
  | .enableSupervision => 0x06 | .setMode => 0x10 | .claimControl => 0x11
  | .setPower => 0x20 | .setStringEnable => 0x21 | .getConverter => 0x22 | .setRideThrough => 0x23
  | .armGridMonitor => 0x24 | .getGrid => 0x25 | .setCooling => 0x30 | .getCooling => 0x31
  | .setAuxReserves => 0x40 | .getBudget => 0x41 | .setHoist => 0x42
  | .setYawPolicy => 0x50 | .yawCommand => 0x51 | .setDriveSlots => 0x52 | .setNoDwellWindow => 0x53
  | .getYaw => 0x54 | .setTwistReference => 0x55
  | .getFaults => 0x60 | .ackFault => 0x61 | .setFaultClass => 0x62 | .getSnapshot => 0x63
  | .clearSnapshot => 0x64 | .clearCounts => 0x65
  | .getSetting => 0x70 | .setSetting => 0x71 | .storeSettings => 0x72 | .lockSettings => 0x73
  | .setBatteryEnergy => 0x74

def Kind.ofByte (b : Byte) : Option Kind := Kind.all.find? fun k => k.code = b

/-- A body whose length fits the kind (R172). -/
def Kind.fits (k : Kind) (body : List Byte) : Bool :=
  match k with
  | .ping => body.length ≤ 32
  | .identify | .getStatus | .restart | .claimControl | .getConverter | .getGrid | .getCooling | .getBudget
  | .getYaw | .storeSettings | .lockSettings => body.length = 0
  | .enableSupervision | .setMode | .setHoist | .ackFault | .getSnapshot | .clearSnapshot | .clearCounts =>
    body.length = 1
  | .setStringEnable | .setAuxReserves | .setTwistReference | .getFaults | .setFaultClass | .getSetting =>
    body.length = 2
  | .yawCommand => body.length = 3
  | .setTime | .setBatteryEnergy => body.length = 4
  | .setCooling | .setNoDwellWindow => body.length = 5
  | .armGridMonitor | .setYawPolicy | .setSetting => body.length = 6
  | .setPower | .setDriveSlots => body.length = 8
  | .setRideThrough => body.length ≠ 0 && body.length = 1 + 4 * natAt body 0

/-- The YawCommand codes, numbered in the order of R118 and R133 (log 13). -/
inductive YawCode where
  | jogCw | jogCcw | goTo | stop | auto | untwist
  deriving DecidableEq, Repr

def YawCode.byte : YawCode → Byte
  | .jogCw => 0 | .jogCcw => 1 | .goTo => 2 | .stop => 3 | .auto => 4 | .untwist => 5

def YawCode.ofByte (b : Byte) : Option YawCode :=
  [YawCode.jogCw, .jogCcw, .goTo, .stop, .auto, .untwist].find? fun c => c.byte = b

/-! ## The single-value settings (R181) -/

inductive SettingId where
  | kq | recoveryRamp | returnDwell | alpha | td | tx | baseLoad1 | baseLoad2
  | controlReserve | brakeReserve | bridgeInterval
  | startLong | startShort | stop | primaryVane | softLimit | hardLimit
  deriving DecidableEq, Repr

def SettingId.all : List SettingId :=
  [.kq, .recoveryRamp, .returnDwell, .alpha, .td, .tx, .baseLoad1, .baseLoad2,
   .controlReserve, .brakeReserve, .bridgeInterval,
   .startLong, .startShort, .stop, .primaryVane, .softLimit, .hardLimit]

/-- The identifier on the line. -/
def SettingId.code : SettingId → Nat
  | .kq => 0x0101 | .recoveryRamp => 0x0102 | .returnDwell => 0x0201
  | .alpha => 0x0301 | .td => 0x0302 | .tx => 0x0303 | .baseLoad1 => 0x0304 | .baseLoad2 => 0x0305
  | .controlReserve => 0x0501 | .brakeReserve => 0x0502 | .bridgeInterval => 0x0503
  | .startLong => 0x0601 | .startShort => 0x0602 | .stop => 0x0603 | .primaryVane => 0x0604
  | .softLimit => 0x0701 | .hardLimit => 0x0702

def SettingId.ofCode (n : Nat) : Option SettingId := SettingId.all.find? fun i => i.code = n

/-- The envelope: lowest and highest. -/
def SettingId.envelope : SettingId → Int × Int
  | .kq => (0, 40) | .recoveryRamp => (1, 1500) | .returnDwell => (10, 600)
  | .alpha => (1, 256) | .td => (600, 1800) | .tx => (800, 2000)
  | .baseLoad1 | .baseLoad2 => (0, 100000)
  | .controlReserve | .brakeReserve => (0, 50) | .bridgeInterval => (500, 5000)
  | .startLong => (30, 600) | .startShort => (50, 900) | .stop => (5, 200) | .primaryVane => (0, 1)
  | .softLimit => (3600, 8000) | .hardLimit => (4500, 10000)

/-- Covered by the settings lock. -/
def SettingId.lockable : SettingId → Bool
  | .td | .tx | .controlReserve | .brakeReserve | .softLimit | .hardLimit => true
  | _ => false

def VaneId.num : VaneId → Nat
  | .a => 0 | .b => 1

def Pump.num : Pump → Nat
  | .a => 0 | .b => 1

/-- The value of a setting in a set of settings. -/
def Settings.read (w : Settings) : SettingId → Int
  | .kq => w.kq | .recoveryRamp => w.recoveryRamp | .returnDwell => w.returnDwell
  | .alpha => w.alpha | .td => w.td | .tx => w.tx
  | .baseLoad1 => w.baseLoad1 | .baseLoad2 => w.baseLoad2
  | .controlReserve => w.controlReserve | .brakeReserve => w.brakeReserve | .bridgeInterval => w.bridgeInterval
  | .startLong => w.startLong | .startShort => w.startShort | .stop => w.stop
  | .primaryVane => w.primaryVane.num
  | .softLimit => w.softLimit | .hardLimit => w.hardLimit

/-- A set of settings with one value written. -/
def Settings.write (w : Settings) (i : SettingId) (x : Int) : Settings :=
  match i with
  | .kq => { w with kq := x.toNat }
  | .recoveryRamp => { w with recoveryRamp := x.toNat }
  | .returnDwell => { w with returnDwell := x.toNat }
  | .alpha => { w with alpha := x.toNat }
  | .td => { w with td := x }
  | .tx => { w with tx := x }
  | .baseLoad1 => { w with baseLoad1 := x.toNat }
  | .baseLoad2 => { w with baseLoad2 := x.toNat }
  | .controlReserve => { w with controlReserve := x.toNat }
  | .brakeReserve => { w with brakeReserve := x.toNat }
  | .bridgeInterval => { w with bridgeInterval := x.toNat }
  | .startLong => { w with startLong := x.toNat }
  | .startShort => { w with startShort := x.toNat }
  | .stop => { w with stop := x.toNat }
  | .primaryVane => { w with primaryVane := if x = 0 then .a else .b }
  | .softLimit => { w with softLimit := x.toNat }
  | .hardLimit => { w with hardLimit := x.toNat }

/-- Window limits against a hard limit (R115, R181). -/
def windowsClear (windows : List Window) (hard : Nat) : Bool :=
  windows.all fun w => !w.enabled || (w.limit ≤ (hard : Int) - 100 && w.base ≥ -((hard : Int) - 100))

/-- The conflicts of R181. -/
def Settings.conflicts (w : Settings) : Bool :=
  w.td ≥ w.tx || w.stop ≥ w.startShort || w.stop ≥ w.startLong ||
  w.hardLimit < w.softLimit + 900 || !windowsClear w.windows w.hardLimit ||
  w.controlReserve + w.brakeReserve > Config.batteryLimit

end Sys2Proof.Machine
end

