-- ==== Sys2Proof/Machine/Requests.lean ====
section
/-! DEFINITION. The requests, chapter by chapter: what the owning block answers to a request that has passed the port's checks, and what it does. Each is a status and the state it leaves; a refusal leaves the state as it was. -/

namespace Sys2Proof.Machine

/-- An answer of a block: its status and the state after it. -/
abbrev Answer := Status × State

def refuse (status : Status) (s : State) : Answer := (status, s)

/-- A request taken, with everything that follows from it in the event. -/
def accept (s : State) : Answer := (.ok, settle s)

def acceptClamped (clamped : Bool) (s : State) : Answer := (clampedIf clamped, settle s)

/-- The owner is not Remote (R144). -/
def notRemote (s : State) : Bool := s.mode.owner ≠ .remote

/-- A StoreSettings is in flight (R182). -/
def storing (s : State) : Bool := s.store.storing.isSome

def modWorking (f : Settings → Settings) (s : State) : State :=
  { s with store := { s.store with working := f s.store.working } }

/-! ## Link, time and identification (R149, R177, R180, R185) -/

/-- Reads and Ping change nothing (R24, R43, R79, R98, R121, R148, R161, R164, R177, R180, R181). -/
def serveRead (s : State) : Answer := (.ok, s)

/-- SetTime (R185). -/
def serveSetTime (body : List Byte) (s : State) : Answer :=
  let value := longAt body 0
  if value = 0xFFFFFFFF#32 then refuse .badArg s
  else (.ok, { s with clock := value.toNat })

/-- Restart (R149); the port then serves no further request. -/
def serveRestart (s : State) : Answer :=
  if notRemote s then refuse .notOwner s
  else if storing s then refuse .busy s
  else (.ok, s)

/-! ## Mode controller (R137, R143, R146) -/

/-- EnableSupervision (R146). -/
def serveEnableSupervision (body : List Byte) (s : State) : Answer :=
  let asked := natAt body 0
  let interval := clampNat asked 1 60
  (clampedIf (interval ≠ asked),
    { s with mode := { s.mode with
        supEnabled := true, supInterval := interval, supTimer := silenceTimer s interval } })

/-- SetMode (R137, R138). -/
def serveSetMode (body : List Byte) (s : State) : Answer :=
  if notRemote s then refuse .notOwner s
  else match Mode.ofNum (natAt body 0) with
    | none => refuse .badArg s
    | some asked =>
      if asked = .lockout ∨ asked = .isolated then refuse .refusedState s
      else if s.mode.target.isSome ∧ asked ≠ .parked ∧ asked ≠ .storm then refuse .busy s
      else if s.mode.current = .lockout ∨ s.mode.current = .isolated then refuse .refusedState s
      else if asked = s.mode.current ∨ s.mode.target = some asked then (.ok, s)
      else if s.mode.target.isSome then accept (changeMode s.mode.current (some asked) .requested s)
      else match requestedPair s asked with
        | none => refuse .refusedState s
        | some (current, target) => accept (changeMode current target .requested s)

/-- ClaimControl (R143). -/
def serveClaimControl (s : State) : Answer :=
  if s.mode.owner = .pendingRemote then accept (setOwner .remote s) else refuse .refusedState s

/-! ## Converter supervisor (R14, R15) -/

/-- The power request of a SetPower body, clamped (R15). -/
def requestOf (body : List Byte) : PowerRequest where
  p := clampInt (wordAt body 0) 0 Config.pMax
  q := clampInt (intAt body 2) (-(Config.qMax : Int)) Config.qMax
  rampP := clampNat (wordAt body 4) 1 1500
  rampQ := clampNat (wordAt body 6) 1 7000

/-- SetPower (R15). -/
def serveSetPower (body : List Byte) (s : State) : Answer :=
  if notRemote s then refuse .notOwner s
  else
    let r := requestOf body
    let clamped := r.p ≠ wordAt body 0 || r.q ≠ intAt body 2 || r.rampP ≠ wordAt body 4 || r.rampQ ≠ wordAt body 6
    (clampedIf clamped, { s with conv := { s.conv with request := r } })

/-- SetStringEnable (R14). -/
def serveSetStringEnable (body : List Byte) (s : State) : Answer :=
  if notRemote s then refuse .notOwner s
  else match StringId.ofNum (natAt body 0) with
    | none => refuse .badArg s
    | some k => accept (if flagOf (byteAt body 1) then enableString k s else disableString k s)

/-! ## Grid monitor (R30, R36) -/

/-- The points of a SetRideThrough body, clamped (R36). -/
def pointsOf (body : List Byte) : Nat → List CurvePoint
  | 0 => []
  | n + 1 => pointsOf body n ++ [⟨min (wordAt body (1 + 4 * n)) 1500, min (wordAt body (3 + 4 * n)) 60000⟩]

/-- Some value of a SetRideThrough body was clamped. -/
def pointsClamped (body : List Byte) : Nat → Bool
  | 0 => false
  | n + 1 => pointsClamped body n || wordAt body (1 + 4 * n) > 1500 || wordAt body (3 + 4 * n) > 60000

/-- u strictly rising and t not falling (R35, R36). -/
def curveRises : List CurvePoint → Bool
  | p :: q :: rest => p.u < q.u && p.t ≤ q.t && curveRises (q :: rest)
  | _ => true

/-- SetRideThrough (R36). -/
def serveSetRideThrough (body : List Byte) (s : State) : Answer :=
  let n := natAt body 0
  if notRemote s then refuse .notOwner s
  else if s.store.lock then refuse .locked s
  else if n < 2 ∨ n > 6 then refuse .badArg s
  else if s.grid.state = .dip ∨ storing s then refuse .busy s
  else if !curveRises (pointsOf body n) then refuse .conflict s
  else (clampedIf (pointsClamped body n), modWorking (fun w => { w with curve := pointsOf body n }) s)

/-- ArmGridMonitor (R30). -/
def serveArmGridMonitor (body : List Byte) (s : State) : Answer :=
  let arm := flagOf (byteAt body 1)
  let level := wordAt body 2
  let direction := natAt body 4
  let n := natAt body 5
  if notRemote s then refuse .notOwner s
  else match MonitorId.ofNum (natAt body 0) with
    | none => refuse .badArg s
    | some m =>
      if direction > 1 ∨ n = 1 ∨ n > 8 then refuse .badArg s
      else if s.grid.state = .dip ∨ s.grid.state = .recovering then refuse .busy s
      else if (direction = 0) ≠ m.falling ∨ (m = .m1 ∧ arm = false) then refuse .conflict s
      else (clampedIf (level > 1500), armMonitor m arm (min level 1500) n s)

/-! ## Cooling controller (R78) -/

/-- The duty pump and setpoint of a loop written to the working settings (R78). -/
def writeLoopSettings (l : Liquid) (duty : Pump) (setpoint : Nat) (w : Settings) : Settings :=
  match l with
  | .l1 => { w with duty1 := duty, setpoint1 := setpoint }
  | .l2 => { w with duty2 := duty, setpoint2 := setpoint }

/-- SetCooling for L1 or L2, once the loop is known (R78). -/
def serveLiquidCooling (l : Liquid) (loop : LoopId) (body : List Byte) (s : State) : Answer :=
  let asked := wordAt body 2
  let setpoint := clampNat asked 300 550
  if natAt body 1 > 1 then refuse .badArg s
  else if storing s then refuse .busy s
  else
    let duty : Pump := if natAt body 1 = 0 then .a else .b
    let t := modWorking (writeLoopSettings l duty setpoint) s
    if flagOf (byteAt body 4) then acceptClamped (setpoint ≠ asked) (returnFans loop t)
    else (clampedIf (setpoint ≠ asked), t)

/-- SetCooling (R78). For L3 the setpoint must be 0, which no range clamps: the answer is OK (log 40). -/
def serveSetCooling (body : List Byte) (s : State) : Answer :=
  if notRemote s then refuse .notOwner s
  else match natAt body 0 with
    | 1 => serveLiquidCooling .l1 .l1 body s
    | 2 => serveLiquidCooling .l2 .l2 body s
    | 3 =>
      if natAt body 1 ≠ 0 ∨ wordAt body 2 ≠ 0 then refuse .badArg s
      else if storing s then refuse .busy s
      else if flagOf (byteAt body 4) then accept (returnFans .l3 s)
      else (.ok, s)
    | _ => refuse .badArg s

/-! ## Auxiliary budget (R95, R96, R97) -/

/-- SetAuxReserves (R95). -/
def serveSetAuxReserves (body : List Byte) (s : State) : Answer :=
  let control := min (natAt body 0) 50
  let brake := min (natAt body 1) 50
  if notRemote s then refuse .notOwner s
  else if s.store.lock then refuse .locked s
  else if storing s then refuse .busy s
  else if control + brake > Config.batteryLimit then refuse .conflict s
  else acceptClamped (control ≠ natAt body 0 || brake ≠ natAt body 1)
    (oweWalk (modWorking (fun w => { w with controlReserve := control, brakeReserve := brake }) s))

/-- SetHoist (R96). -/
def serveSetHoist (body : List Byte) (s : State) : Answer :=
  if notRemote s then refuse .notOwner s
  else match natAt body 0 with
    | 0 => accept (withdrawClaim .hoist s)
    | 1 => accept (if submitted s .hoist then s else submitClaim .hoist 30 s)
    | _ => refuse .badArg s

/-- SetBatteryEnergy (R97). -/
def serveSetBatteryEnergy (body : List Byte) (s : State) : Answer :=
  let asked := (longAt body 0).toNat
  let energy := min asked Config.batteryCapacity
  if notRemote s then refuse .notOwner s
  else if s.aux.source ≠ .grid ∧ energy > s.retained.energy then refuse .refusedState s
  else acceptClamped (energy ≠ asked) (judgeCharger (judgeMarks (writeEnergy energy s)))

/-! ## Yaw controller (R113, R115, R118, R120, R126, R133) -/

/-- SetYawPolicy (R120). -/
def serveSetYawPolicy (body : List Byte) (s : State) : Answer :=
  let long := clampNat (wordAt body 0) 30 600
  let short := clampNat (wordAt body 2) 50 900
  let stop := clampNat (natAt body 4) 5 200
  if notRemote s then refuse .notOwner s
  else if natAt body 5 > 1 then refuse .badArg s
  else if storing s then refuse .busy s
  else if stop ≥ short ∨ stop ≥ long then refuse .conflict s
  else (clampedIf (long ≠ wordAt body 0 || short ≠ wordAt body 2 || stop ≠ natAt body 4),
    modWorking (fun w => { w with
      startLong := long, startShort := short, stop := stop
      primaryVane := if natAt body 5 = 0 then .a else .b }) s)

/-- The owner may command manual motion in this yaw mode (R118). -/
def manualAllowed (s : State) : Bool := s.yaw.mode ≠ .disabled && s.yaw.mode ≠ .storm

/-- YawCommand JogCW and JogCCW (R118). -/
def serveJog (d : Dir) (s : State) : Answer :=
  if notRemote s then refuse .notOwner s
  else if !manualAllowed s ∨ !s.lines.chainClosed ∨ theta s = none ∨ barred s d then refuse .refusedState s
  else if !yawIdle s ∧ !movingManually s d then refuse .busy s
  else accept (jog d s)

/-- The direction of a GoTo, none at the target itself. -/
def goToDir (x target : Int) : Option Dir := if target = x then none else some (toward x target)

/-- A GoTo target inside an enabled window, as the records stand (R118, log 39). -/
def targetInWindow (s : State) (target : Int) : Bool := [1, 2, 3, 4].any fun n => (windowRecord s n).holds target

/-- YawCommand GoTo (R118). A target equal to θ has no direction, so a Manual move in Moving has none the same and the GoTo is
answered BUSY (log 46). -/
def serveGoTo (target : Int) (s : State) : Answer :=
  if notRemote s then refuse .notOwner s
  else if target.natAbs > 10800 then refuse .badArg s
  else match theta s with
    | none => refuse .refusedState s
    | some x =>
      let d := goToDir x target
      if !manualAllowed s ∨ !s.lines.chainClosed ∨ d.any (barred s) then refuse .refusedState s
      else if !yawIdle s ∧ !d.any (movingManually s) then refuse .busy s
      else if targetInWindow s target ∨ target.natAbs > s.store.working.hardLimit then refuse .conflict s
      else accept (goTo x target s)

/-- YawCommand Stop (R118). -/
def serveYawStop (s : State) : Answer :=
  if notRemote s then refuse .notOwner s
  else if !manualAllowed s then refuse .refusedState s
  else accept (manualStop s)

/-- YawCommand Auto (R118). -/
def serveYawAuto (s : State) : Answer :=
  if notRemote s then refuse .notOwner s
  else accept (manualAuto s)

/-- YawCommand Untwist (R133). -/
def serveUntwist (s : State) : Answer :=
  if notRemote s then refuse .notOwner s
  else match theta s with
    | none => refuse .refusedState s
    | some x =>
      if !manualAllowed s ∨ !s.lines.chainClosed then refuse .refusedState s
      else if s.yaw.untwist.inFlight then (.ok, s)
      else if !yawIdle s then refuse .busy s
      else accept (commandUntwist x s)

/-- YawCommand (R118, R133); the target stands in every command and is read for GoTo. -/
def serveYawCommand (body : List Byte) (s : State) : Answer :=
  match YawCode.ofByte (byteAt body 0) with
  | some .jogCw => serveJog .cw s
  | some .jogCcw => serveJog .ccw s
  | some .goTo => serveGoTo (intAt body 1) s
  | some .stop => serveYawStop s
  | some .auto => serveYawAuto s
  | some .untwist => serveUntwist s
  | none => if notRemote s then refuse .notOwner s else refuse .badArg s

/-- A slot entry of the line: a channel 1 to 10, or 0 for empty (R113). -/
def slotOf (n : Nat) : Option (Fin 10) := if h : 0 < n ∧ n ≤ 10 then some ⟨n - 1, by omega⟩ else none

/-- The slot table of a SetDriveSlots body. -/
def slotsOf (body : List Byte) : List (Option (Fin 10)) :=
  [0, 1, 2, 3, 4, 5, 6, 7].map fun i => slotOf (natAt body i)

/-- No channel stands in two entries (R113). -/
def distinctChannels : List (Fin 10) → Bool
  | [] => true
  | c :: rest => !rest.contains c && distinctChannels rest

/-- SetDriveSlots (R113). -/
def serveSetDriveSlots (body : List Byte) (s : State) : Answer :=
  let slots := slotsOf body
  if notRemote s then refuse .notOwner s
  else if s.store.lock then refuse .locked s
  else if [0, 1, 2, 3, 4, 5, 6, 7].any fun i => natAt body i > 10 then refuse .badArg s
  else if s.yaw.motion ≠ .hold ∨ storing s then refuse .busy s
  else if !distinctChannels (slots.filterMap id) then refuse .conflict s
  else accept (returnDrives (slots.filterMap id) (modWorking (fun w => { w with slots := slots }) s))

/-- Two windows share a position. -/
def windowsMeet (a b : Window) : Bool := a.enabled && b.enabled && a.base ≤ b.limit && b.base ≤ a.limit

/-- The conflicts of a window record (R115). -/
def windowConflicts (s : State) (n : Nat) (w : Window) : Bool :=
  w.enabled &&
  ([1, 2, 3, 4].any (fun k => k ≠ n && windowsMeet w (windowRecord s k)) ||
    !windowsClear [w] s.store.working.hardLimit ||
    (theta s).any w.holds)

/-- SetNoDwellWindow (R115). -/
def serveSetNoDwellWindow (body : List Byte) (s : State) : Answer :=
  let n := natAt body 0
  let w : Window := ⟨intAt body 1, intAt body 3⟩
  if notRemote s then refuse .notOwner s
  else if s.store.lock then refuse .locked s
  else if n < 1 ∨ n > 4 ∨ w.base.natAbs > 10800 ∨ w.limit.natAbs > 10800 then refuse .badArg s
  else if storing s then refuse .busy s
  else if windowConflicts s n w then refuse .conflict s
  else (.ok, modWorking (fun x => { x with windows := x.windows.set (n - 1) w }) s)

/-- SetTwistReference (R126). -/
def serveSetTwistReference (body : List Byte) (s : State) : Answer :=
  let ref := intAt body 0
  if notRemote s then refuse .notOwner s
  else if ref.natAbs > 10800 then refuse .badArg s
  else if !yawIdle s then refuse .busy s
  else match s.yaw.encoder with
    | some (.angle a) =>
      if ref.natAbs > s.store.working.hardLimit then refuse .conflict s
      else accept (setReference ref a s)
    | some .invalid | none => refuse .refusedState s

/-! ## Fault table (R155, R161, R163, R164, R165) -/

/-- GetFaults (R164). -/
def serveGetFaults (body : List Byte) (s : State) : Answer :=
  if natAt body 0 > 78 ∨ natAt body 1 > 1 then refuse .badArg s else serveRead s

/-- A row index of 0 to 78, or 255 for all (R172). -/
def rowNamed (n i : Nat) : Bool := n = 255 || n = i

/-- AckFault (R155). -/
def serveAckFault (body : List Byte) (s : State) : Answer :=
  let n := natAt body 0
  if notRemote s then refuse .notOwner s
  else if n > 78 ∧ n ≠ 255 then refuse .badArg s
  else accept (ackWhere (fun i _ => rowNamed n i) s)

/-- The pending flag of a row whose code changes class (R163). -/
def classRow (before after : FaultClass) (r : FaultRow) : FaultRow :=
  if after = .record then { r with pending := false }
  else if before = .record ∧ r.state ≠ .clear then { r with pending := true }
  else r

/-- A change of a code's class (R163). -/
def changeClass (c : FaultCode) (cls : FaultClass) (s : State) : State :=
  let before := classOf s c
  let t := modWorking (fun w => { w with classes := w.classes.set (c.num - 1) cls }) s
  { t with faults := { t.faults with
      rows := t.faults.rows.mapIdx fun i r => if codeOfRow i = c then classRow before cls r else r } }

/-- SetFaultClass (R163). -/
def serveSetFaultClass (body : List Byte) (s : State) : Answer :=
  if notRemote s then refuse .notOwner s
  else if s.store.lock then refuse .locked s
  else match FaultCode.ofNum (natAt body 0), FaultClass.ofCode (natAt body 1) with
    | some c, some cls =>
      if storing s then refuse .busy s
      else if !c.permitted.contains cls then refuse .conflict s
      else if cls = classOf s c then (.ok, s)
      else (.ok, changeClass c cls s)
    | _, _ => refuse .badArg s

/-- GetSnapshot (R161). -/
def serveGetSnapshot (body : List Byte) (s : State) : Answer :=
  if natAt body 0 > 8 then refuse .badArg s else serveRead s

/-- The slots a ClearSnapshot names (R161). -/
def slotsNamed (n : Nat) : List Nat := if n = 0 then [1, 2, 3, 4, 5, 6, 7, 8] else [n]

/-- ClearSnapshot (R161). -/
def serveClearSnapshot (body : List Byte) (s : State) : Answer :=
  let n := natAt body 0
  if notRemote s then refuse .notOwner s
  else if n > 8 then refuse .badArg s
  else (.ok, { s with faults := (slotsNamed n).foldl (fun t k => freeSlot k t) s.faults })

/-- A named row that is Clear loses its count (R165). -/
def resetCount (r : FaultRow) : FaultRow :=
  if r.state = .clear then { r with count := 0, firstTime := none, lost := false } else r

/-- ClearCounts (R165). -/
def serveClearCounts (body : List Byte) (s : State) : Answer :=
  let n := natAt body 0
  if notRemote s then refuse .notOwner s
  else if n > 78 ∧ n ≠ 255 then refuse .badArg s
  else (.ok, { s with faults := { s.faults with
    rows := s.faults.rows.mapIdx fun i r => if rowNamed n i then resetCount r else r } })

/-! ## Settings store (R181, R182, R184) -/

/-- GetSetting (R181). -/
def serveGetSetting (body : List Byte) (s : State) : Answer :=
  if (SettingId.ofCode (wordAt body 0)).isNone then refuse .badArg s else serveRead s

/-- What the owning block does in the event with a setting changed from the `old` settings (R59, R95, R127, R181). -/
def applySetting (i : SettingId) (old : Settings) (s : State) : State :=
  match i with
  | .td | .tx => applyThermalSettings s
  | .controlReserve | .brakeReserve => oweWalk s
  | .softLimit | .hardLimit => applyTwistLimits old s
  | .kq | .recoveryRamp | .returnDwell | .alpha | .baseLoad1 | .baseLoad2 | .bridgeInterval
  | .startLong | .startShort | .stop | .primaryVane => s

/-- SetSetting, once the identifier is known (R181). -/
def serveSetting (i : SettingId) (asked : Int) (s : State) : Answer :=
  let value := clampInt asked i.envelope.1 i.envelope.2
  let new := s.store.working.write i value
  if i = .primaryVane ∧ value ≠ asked then refuse .badArg s
  else if i.lockable ∧ s.store.lock then refuse .locked s
  else if storing s then refuse .busy s
  else if new.conflicts then refuse .conflict s
  else if value = s.store.working.read i then (clampedIf (value ≠ asked), s)
  else acceptClamped (value ≠ asked) (applySetting i s.store.working (modWorking (fun _ => new) s))

/-- SetSetting (R181). -/
def serveSetSetting (body : List Byte) (s : State) : Answer :=
  if notRemote s then refuse .notOwner s
  else match SettingId.ofCode (wordAt body 0) with
    | none => refuse .badArg s
    | some i => serveSetting i (longAt body 2).toInt s

/-- StoreSettings (R182). -/
def serveStoreSettings (s : State) : Answer :=
  if notRemote s then refuse .notOwner s
  else if storing s then refuse .busy s
  else (.ok, { s with store := { s.store with
    storing := some { copy := s.store.working, timer := ⟨s.clock, 200⟩ } } })

/-- LockSettings (R184). -/
def serveLockSettings (s : State) : Answer :=
  if notRemote s then refuse .notOwner s
  else (.ok, { s with store := { s.store with lock := true } })

/-- The store completes: the copy taken at the acceptance becomes the image, which GetSetting shows unchanged until then (R182,
log 47). -/
def storeCompletes (s : State) : State :=
  match s.store.storing with
  | none => s
  | some f =>
    clearFault .settingsDefault 1
      { s with store := { s.store with image := f.copy, imageCheck := true, imageValid := true, storing := none } }

/-! ## Handing a request to its block (R171, R172) -/

/-- The owning block's answer to a request that has passed the port's checks. -/
def serve (k : Kind) (body : List Byte) (s : State) : Answer :=
  match k with
  | .ping | .identify | .getStatus | .getConverter | .getGrid | .getCooling | .getBudget | .getYaw => serveRead s
  | .setTime => serveSetTime body s
  | .restart => serveRestart s
  | .enableSupervision => serveEnableSupervision body s
  | .setMode => serveSetMode body s
  | .claimControl => serveClaimControl s
  | .setPower => serveSetPower body s
  | .setStringEnable => serveSetStringEnable body s
  | .setRideThrough => serveSetRideThrough body s
  | .armGridMonitor => serveArmGridMonitor body s
  | .setCooling => serveSetCooling body s
  | .setAuxReserves => serveSetAuxReserves body s
  | .setHoist => serveSetHoist body s
  | .setYawPolicy => serveSetYawPolicy body s
  | .yawCommand => serveYawCommand body s
  | .setDriveSlots => serveSetDriveSlots body s
  | .setNoDwellWindow => serveSetNoDwellWindow body s
  | .setTwistReference => serveSetTwistReference body s
  | .getFaults => serveGetFaults body s
  | .ackFault => serveAckFault body s
  | .setFaultClass => serveSetFaultClass body s
  | .getSnapshot => serveGetSnapshot body s
  | .clearSnapshot => serveClearSnapshot body s
  | .clearCounts => serveClearCounts body s
  | .getSetting => serveGetSetting body s
  | .setSetting => serveSetSetting body s
  | .storeSettings => serveStoreSettings s
  | .lockSettings => serveLockSettings s
  | .setBatteryEnergy => serveSetBatteryEnergy body s

end Sys2Proof.Machine
end

