-- ==== Sys2Proof/Machine/Replies.lean ====
section
/-! DEFINITION. What replies and notices carry after their head: the bodies of R24, R43, R60, R79, R98, R121, R135, R137, R148, R155, R161, R164, R165, R175, R176, R177, R180, R181, R185, with the widths of R168 and log 12. -/

namespace Sys2Proof.Machine

/-- A yes/no as one byte. -/
def flag (b : Bool) : List Byte := u8 (bit b)

/-- An item of two values, numbered in the order its definition lists them: `first` says that it holds the first (R168, log 45). -/
def listed (first : Bool) : List Byte := u8 (bit !first)

/-- A signed quantity of two bytes that is never absent. -/
def i16s (l : List Int) : List Byte := l.flatMap i16
def u16s (l : List Nat) : List Byte := l.flatMap u16

/-- Elapsed time since a start that nothing bounds, from the milliseconds one count stands for: in four bytes, since two
cannot hold it (log 12). -/
def elapsed (now : Nat) (start : Option Nat) (period : Nat) : List Byte :=
  opt32 (start.map fun n => (now - n) * period)

/-- Time a timer of at most 65 s has run, out of its full length, in the two bytes of R168. -/
def spent (t : Option Countdown) (full : Nat) : List Byte := opt16 (t.map fun c => full - c.left)

/-! ## Converter (R24) -/

def Phase.num : Phase → Nat
  | .loopWait => 0 | .charging => 1

def Priority.num : Priority → Nat
  | .p => 0 | .q => 1

def stringBody (k : StringId) (r : StringRec) : List Byte :=
  u8 k.num ++ u8 r.state.num ++ u16s [r.iMeas, r.iLim, r.cap, r.share] ++ i16s [r.p, r.q] ++
  flag r.enabled ++ flag r.isolateOnEnd ++ opt8 (r.phase.map Phase.num) ++ remaining r.precharge

/-- A list in a fixed number of places, the rest absent. -/
def places (n : Nat) (l : List Nat) : List Byte := (List.range n).flatMap fun i => opt8 l[i]?

def converterBody (s : State) : List Byte :=
  (StringId.all.flatMap fun k => stringBody k (strOf s k)) ++
  places 6 (s.conv.queue.map StringId.num) ++ u8 (grantOf s .precharge) ++
  i16s [s.conv.request.p, s.conv.request.q] ++ u16s [s.conv.request.rampP, s.conv.request.rampQ] ++
  i16s [s.conv.granted.p, s.conv.granted.q] ++ u16 s.conv.granted.s ++ u8 s.conv.granted.priority.num ++
  u8 s.conv.dips.length

/-! ## Grid (R30, R43) -/

def directionNum (m : MonitorId) : Nat := if m.falling then 0 else 1

def monitorBody (m : MonitorId) (r : Monitor) : List Byte :=
  flag r.armed ++ u16 r.level ++ u8 (directionNum m) ++ u8 r.count ++ flag r.beyond ++ u8 r.run

/-- An allowance on the line, in two bytes since the curve's times end at 60,000 ms; unlimited is 65,534 (log 12). -/
def allowanceBody : Option Allowance → List Byte
  | none => opt16 none
  | some (.ms t) => u16 t
  | some .unlimited => u16 65534

def curveBody (c : List CurvePoint) : List Byte := u8 c.length ++ c.flatMap fun p => u16 p.u ++ u16 p.t

/-- GetGrid (R43). The time since a recovery's start ends at 5,000 ms and takes two bytes, the others four (log 12). -/
def gridBody (s : State) : List Byte :=
  let g := s.grid
  u16 g.volts ++ u16 g.u ++ u32 g.sampleTime ++ u8 g.state.num ++ u32 g.entryTime ++
  opt16 (g.dip.map DipTiming.minU) ++ allowanceBody (g.dip.map DipTiming.allowed) ++
  elapsed g.sampleNo (g.dip.map DipTiming.start) 1 ++
  opt8 (g.recovery.map fun r => bit r.qHold) ++ opt16 (g.recovery.map fun r => g.sampleNo - r.start) ++
  elapsed g.sampleNo g.dwellStart 1 ++
  monitorBody .m1 g.m1 ++ monitorBody .m2 g.m2 ++ monitorBody .m3 g.m3 ++ elapsed g.sampleNo g.overSince 1 ++
  curveBody s.store.working.curve ++
  ((List.range 3).flatMap fun i => opt32 (s.conv.dips[i]?.map DipEntry.time))

/-- The record of the monitor an ArmGridMonitor names and the beyond-at-arm flag: after a request that is taken, what it set
beyond to; after a refused one, which sets nothing, no (R30, log 14). Where the number names no monitor there is no record. -/
def armBody (taken : Bool) (body : List Byte) (s : State) : List Byte :=
  match MonitorId.ofNum (natAt body 0) with
  | none => []
  | some m =>
    let r := monitorOf s m
    flag r.armed ++ u16 r.level ++ u8 (directionNum m) ++ u8 r.count ++ u8 20 ++ flag r.beyond ++ u8 r.run ++
    elapsed s.grid.sampleNo (if m = .m3 then s.grid.overSince else none) 1 ++ flag (taken && r.beyond)

/-! ## Cooling and the thermal model (R60, R79) -/

def thermBody (r : ThermRec) : List Byte :=
  u16s [r.iUsed, r.pLoss, r.target, r.tRise] ++ i16 r.tj ++ u16 r.limit

def TempSource.num : TempSource → Nat
  | .reading => 0 | .held => 1 | .substitute => 2

/-- An inlet of R60. The time since hold start and the heat load take four bytes, since two cannot hold them (log 12). -/
def inletBody (s : State) (l : Liquid) : List Byte :=
  let i := inletOf s l
  i16 i.inUse ++ u8 i.source.num ++ optI16 i.lastValid ++ elapsed s.therm.intervalNo i.holdStart 100 ++
  u32 (heatOf s l)

def PumpRole.num : PumpRole → Nat
  | .duty => 0 | .standby => 1

/-- The pump in trial, present in Starting (R62). -/
def trialOf (r : LiquidLoop) : Option PumpRole := if r.state = .starting then r.role else none

/-- Pump running: A, B, or none (R62). -/
def runningNum (p : Option Pump) : Nat := (p.map Pump.num).getD 2

/-- A liquid loop of R79. Flow is proven or not proven (R62). -/
def loopBody (s : State) (l : Liquid) : List Byte :=
  let r := loopOf s l
  u8 r.state.num ++ flag r.required ++ u8 (dutyOf s l).num ++ u8 (runningNum r.pump) ++
  opt8 ((trialOf r).map PumpRole.num) ++ remaining r.proof ++ listed r.flow ++ remaining r.drop ++
  u16 (setpointOf s l) ++ optI16 r.outlet ++
  [r.demand, r.selection, demandedStage r, maxStage r.fans, grantOf s (fanClaim l), grantedStage s l].flatMap u8 ++
  remainingLong r.runOn ++ u8 r.clamp

def airBody (s : State) : List Byte :=
  let r := s.cool.l3
  u8 r.state.num ++ flag r.required ++
  [r.demand, r.selection, demandedStage3 r, maxStage r.fans, grantOf s .fans3, grantedStage3 s].flatMap u8 ++
  remainingLong r.runOn ++ i16 r.air.inUse ++ u8 r.air.source.num ++
  elapsed s.cool.evaluationNo r.air.holdStart 1000

/-- A fan channel of R79: commanded run or stop, proven running or stopped, and the failed mark (R63). -/
def fanBody (c : FanChannel) : List Byte := listed c.commanded ++ listed c.proven ++ flag c.failed

/-- GetCooling: the items of R60, the six strings and then the two inlets, before those of R79 (log 12). The heater claim is
withdrawn or submitted, its output on or off (R77). -/
def coolingBody (s : State) : List Byte :=
  s.therm.recs.toList.flatMap thermBody ++ inletBody s .l1 ++ inletBody s .l2 ++
  loopBody s .l1 ++ loopBody s .l2 ++ airBody s ++
  (s.cool.l1.fans ++ s.cool.l2.fans ++ s.cool.l3.fans).flatMap fanBody ++
  listed (!submitted s .heaters) ++ listed s.cool.heaterOn ++ u8 s.cool.humidity

/-! ## Budget (R96, R98) -/

def ClaimClass.num : ClaimClass → Nat
  | .cooling => 0 | .motion => 1 | .comfort => 2 | .service => 3

/-- The place of a claim in the submission order, 1 the first. -/
def placeOf (s : State) (id : ClaimId) : Option Nat := (s.aux.order.findIdx? (· = id)).map (· + 1)

def claimBody (s : State) (id : ClaimId) : List Byte :=
  let c := claimOf s id
  flag c.submitted ++ opt32 c.time ++ opt8 (placeOf s id) ++ u8 (claimClass id).num ++
  u8 c.floor ++ u8 c.ceiling ++ u8 c.grant

/-- GetBudget (R98). A mark is set or clear (R81). The bridge time and the time since normal end at 5,000 and 10,000 ms and take two bytes (log 12). -/
def budgetBody (s : State) : List Byte :=
  u8 s.aux.source.num ++ u16 (sourceCapacity s) ++
  u8 s.store.working.controlReserve ++ u8 s.store.working.brakeReserve ++ u16 (dispatchable s) ++
  opt16 s.aux.held ++ remaining s.aux.bridge ++ spent s.aux.normal 10000 ++ u16 s.aux.spare ++
  u32 s.retained.energy ++ listed s.aux.lowMark ++ listed s.aux.criticalMark ++
  claimList.flatMap (claimBody s) ++ u16 (grantSum s)

/-! ## Yaw and twist (R121, R135) -/

def MoveKind.num : MoveKind → Nat
  | .auto => 0 | .manual => 1 | .clearance => 2 | .untwist => 3 | .storm => 4

def dirNum : Dir → Nat
  | .cw => 0 | .ccw => 1

def BrakeState.num : BrakeState → Nat
  | .full => 0 | .venting => 1 | .residual => 2 | .pressurizing => 3

def AngleSource.num : AngleSource → Nat
  | .a => 0 | .b => 1 | .blend => 2

/-- The motion record; its claim is withdrawn or submitted (R108). -/
def motionBody (s : State) : List Byte :=
  let y := s.yaw
  u8 y.motion.num ++ opt8 (y.kind.map MoveKind.num) ++ opt8 (y.direction.map dirNum) ++ optI16 y.target ++
  listed (!submitted s .yaw) ++ u8 (grantOf s .yaw) ++ u8 y.driveCount ++ opt8 y.continuing ++ flag y.forced ++
  remaining y.rest ++ remaining y.manualTimer

def brakeBody (s : State) : List Byte :=
  u8 s.yaw.brake.num ++ flag s.lines.residualProof ++ flag s.lines.fullProof ++
  spent s.yaw.settle (if s.yaw.brake = .venting then 1500 else 2000)

/-- A mean with its validity. -/
def meanBody (m : Option Int) : List Byte := optI16 m ++ flag m.isSome

/-- The means, the misalignment cap and the time since the long mean became invalid; a cap of none is sent as an absent item
(log 12). -/
def meansBody (s : State) : List Byte :=
  let y := s.yaw
  meanBody y.shortMean ++ meanBody y.longMean ++
  meanBody (y.shortSpeed.map Int.ofNat) ++ meanBody (y.longSpeed.map Int.ofNat) ++
  opt16 y.cap ++ elapsed y.sampleNo y.invalidSince 1000

def vaneBody (v : Vane) : List Byte := optI16 v.previous ++ flag v.valid ++ u8 v.stuck

def ringBody (e : RingEntry) : List Byte :=
  u32 e.time ++ i16 e.angle ++ u16 e.wind ++ flag e.valid ++ opt8 (e.source.map AngleSource.num) ++ optI16 e.theta

/-- Commanded (run or stop), proven (running or stopped) and failed of a drive channel in bits 0, 1 and 2 (R114, log 12). -/
def driveBody (c : DriveChannel) : List Byte := u8 (bit (!c.commanded) + 2 * bit (!c.proven) + 4 * bit c.failed)

def slotBody (c : Option (Fin 10)) : List Byte := u8 ((c.map fun k => k.val + 1).getD 0)

def policyBody (w : Settings) : List Byte :=
  u16 w.startLong ++ u16 w.startShort ++ u8 w.stop ++ u8 w.primaryVane.num

/-- The limits, the twist record and the untwist record; the valid mark is set or clear (R123, R135). -/
def twistBody (s : State) : List Byte :=
  let r := s.retained.twist
  let u := s.yaw.untwist
  u16 s.store.working.softLimit ++ u16 s.store.working.hardLimit ++
  u8 (BitVec.ofInt 8 r.turns).toNat ++ u16 r.ref ++ u16 r.last ++ listed r.valid ++
  flag u.due ++ flag u.ready ++ flag u.inFlight ++ remainingLong u.wait

def yawBody (s : State) : List Byte :=
  let y := s.yaw
  u8 y.mode.num ++ flag y.manualMark ++ optI16 (theta s) ++ motionBody s ++ brakeBody s ++ meansBody s ++
  vaneBody y.vaneA ++ vaneBody y.vaneB ++ u8 y.disagree ++
  (y.ring.reverse.take 10).flatMap ringBody ++
  s.store.working.slots.flatMap slotBody ++ y.channels.flatMap driveBody ++ u8 (availableDrives s) ++
  (s.store.working.windows.flatMap fun w => i16 w.base ++ i16 w.limit) ++
  flag y.clearance.isSome ++ optI16 (y.clearance.map Clearance.target) ++
  policyBody s.store.working ++ twistBody s

/-! ## Mode (R137, R148) -/

/-- The mode record (R136, R137). The Idle limit and the calm timer are sent as the milliseconds remaining (log 12). -/
def modeBody (s : State) : List Byte :=
  u8 s.mode.current.num ++ opt8 (s.mode.target.map Mode.num) ++ u8 s.mode.previous.num ++
  u32 s.mode.entryTime ++ u8 s.mode.cause.num ++ remainingLong s.mode.idleLimit ++ remainingLong s.mode.calm

/-- Each item with its change mark, 1 where the mark is set (R148, log 45). -/
def statusBody (s : State) : List Byte :=
  (statusItems s).zip s.mode.marks |>.flatMap fun x => u8 x.1 ++ flag x.2

/-! ## Fault table (R155, R161, R164, R165, R175, R176) -/

def RowState.num : RowState → Nat
  | .clear => 0 | .active => 1 | .latched => 2

/-- A row of GetFaults (R164). The last stamp, the number of an event since the cold start, takes four
bytes (log 12). -/
def rowBody (s : State) (i : Nat) : List Byte :=
  let r := rowAt s i
  u8 i ++ u8 (codeOfRow i).num ++ u8 (unitOfRow i) ++ u8 (classOf s (codeOfRow i)).code ++ u8 r.state.num ++
  flag r.ack ++ u8 r.count ++ opt32 r.firstTime ++ opt32 r.lastTime ++ opt32 r.lastStamp ++
  flag r.firstMark ++ flag r.pending ++ opt8 r.slot ++ flag r.lost

/-- The rows from `start` on that pass the filter: 0 all, 1 non-Clear (R164, log 13). -/
def rowsFrom (s : State) (start filter : Nat) : List Nat :=
  (List.range 79).filter fun i => i ≥ start && (filter = 0 || (rowAt s i).state ≠ .clear)

/-- GetFaults (R164): the rows given stand one after another, as many as there are, with no places for the rest; the index to
continue from is that of the next row that passes the filter (log 12). -/
def faultsBody (body : List Byte) (s : State) : List Byte :=
  let rows := rowsFrom s (natAt body 0) (natAt body 1)
  (rows.take 8).flatMap (rowBody s) ++ opt8 (rows.drop 8).head? ++
  u8 (activeRows s) ++ u8 (latchedRows s) ++ u8 (pendingRows s) ++
  opt8 (s.faults.rows.findIdx? (·.firstMark))

/-- The rows that an acknowledgement changes (R155). -/
def ackCount (body : List Byte) (before : State) : Nat :=
  ((List.range 79).filter fun i => rowNamed (natAt body 0) i && ackChanges (rowAt before i)).length

/-- The rows that ClearCounts changes (R165). -/
def resetRows (body : List Byte) (before : State) : Nat :=
  ((List.range 79).filter fun i =>
    let r := rowAt before i
    rowNamed (natAt body 0) i && r.state = .clear && (r.count > 0 || r.firstTime.isSome)).length

/-- The slots that ClearSnapshot frees (R161). -/
def freedSlots (body : List Byte) (before : State) : Nat :=
  ((slotsNamed (natAt body 0)).filter fun k => (before.faults.slots.getD (k - 1) none).isSome).length

/-- The place of a slot in the capture order, 1 the oldest. -/
def capturePlace (t : FaultTable) (k : Nat) : Nat := (t.capture.findIdx? (· = k)).getD 0 + 1

def snapshotRecord (t : FaultTable) (k : Nat) (x : Snapshot) : List Byte :=
  u8 x.row ++ u8 (capturePlace t k) ++ u8 (codeOfRow x.row).num ++ u8 (unitOfRow x.row) ++ u32 x.time ++
  u8 x.mode.num ++ u8 x.grid.num ++ u16 x.u ++ u8 x.source.num ++ u8 x.motion.num ++
  u16s x.iMeas.toList ++ i16s x.tj.toList ++ i16 (x.theta.getD (-32768)) ++ i16 x.inlet1 ++ i16 x.inlet2

def directoryEntry (t : FaultTable) (k : Nat) : List Byte :=
  match t.slots.getD (k - 1) none with
  | none => u8 0 ++ opt8 none ++ opt8 none
  | some x => u8 1 ++ u8 x.row ++ u8 (capturePlace t k)

/-- GetSnapshot (R161, R176). -/
def snapshotBody (body : List Byte) (s : State) : List Byte :=
  let n := natAt body 0
  if n = 0 then [1, 2, 3, 4, 5, 6, 7, 8].flatMap (directoryEntry s.faults)
  else match s.faults.slots.getD (n - 1) none with
    | none => u8 n ++ u8 0
    | some x => u8 n ++ u8 1 ++ snapshotRecord s.faults n x

/-- The marks byte of a FaultNotice (R175). -/
def marksByte (r : FaultRow) : Nat :=
  bit r.ack + 2 * bit r.firstMark + 4 * bit r.lost + 8 * bit r.firstTime.isSome + 16 * bit r.lastTime.isSome

/-- A FaultNotice (R175). -/
def faultNotice (s : State) (i : Nat) : Frame :=
  let r := rowAt s i
  { kind := 0xE0
    tag := 0
    body := u8 i ++ u8 (codeOfRow i).num ++ u8 (unitOfRow i) ++ u8 (classOf s (codeOfRow i)).code ++
      u8 r.state.num ++ u8 (marksByte r) ++ u8 r.count ++ u8 (r.slot.getD 0) ++
      opt32 r.firstTime ++ opt32 r.lastTime }

/-- A ModeNotice (R175). -/
def modeNotice (s : State) : Frame :=
  { kind := 0xE1
    tag := 0
    body := u8 s.mode.current.num ++ opt8 (s.mode.target.map Mode.num) ++ u8 s.mode.previous.num ++
      u8 s.mode.cause.num ++ u8 s.mode.changeCount ++ u32 s.mode.entryTime }

/-! ## Settings and identification (R180, R181) -/

def settingBody (body : List Byte) (s : State) : List Byte :=
  match SettingId.ofCode (wordAt body 0) with
  | none => []
  | some i =>
    i32 (s.store.working.read i) ++ i32 i.envelope.1 ++ i32 i.envelope.2 ++ i32 (Settings.defaults.read i) ++
    flag i.lockable ++
    (if s.store.imageValid then i32 (s.store.image.read i) else opt32 none) ++
    u8 (if s.store.imageValid then 0 else 1) ++ flag (storing s)

/-- The identifier and the value in force after a SetSetting (R181). Where the identifier is not in the table there is no value in
force, and neither is sent (log 14). -/
def settingValue (body : List Byte) (s : State) : List Byte :=
  match SettingId.ofCode (wordAt body 0) with
  | none => []
  | some i => u16 i.code ++ i32 (s.store.working.read i)

/-- Identify (R180). Every rating figure but the battery capacity takes two bytes (logs 9 and 12). -/
def identifyBody (s : State) : List Byte :=
  quad Config.partIdentifier ++ pair Config.hardwareRevision ++ pair Config.firmwareRevision ++
  quad Config.serialNumber ++ quad Config.tableIdentifier ++
  u16s [Config.iRated, Config.c1, Config.c2, Config.rth, Config.uNom, Config.uDcNom, Config.pMax, Config.qMax,
    Config.auxTransformer, Config.batteryLimit] ++
  u32 Config.batteryCapacity ++ u32 s.clock

def pingBody (body : List Byte) (s : State) : List Byte :=
  u16 s.link.badFrames ++ u16 s.link.overruns ++ body

/-! ## The content of a reply -/

/-- What the reply to a taken request carries after its head; `before` is the state as the block found it. -/
def takenBody (k : Kind) (body : List Byte) (before s : State) : List Byte :=
  match k with
  | .ping => pingBody body s
  | .identify => identifyBody s
  | .getStatus => statusBody s
  | .setTime => u32 before.clock ++ u32 s.clock
  | .setMode => modeBody s
  | .getConverter => converterBody s
  | .armGridMonitor => armBody true body s
  | .getGrid => gridBody s
  | .getCooling => coolingBody s
  | .getBudget => budgetBody s
  | .setHoist => u8 (grantOf s .hoist) ++ u16 s.aux.spare
  | .getYaw => yawBody s
  | .getFaults => faultsBody body s
  | .ackFault => u8 (ackCount body before)
  | .getSnapshot => snapshotBody body s
  | .clearSnapshot => u8 (freedSlots body before)
  | .clearCounts => u8 (resetRows body before)
  | .getSetting => settingBody body s
  | .setSetting => settingValue body s
  | .restart | .enableSupervision | .claimControl | .setPower | .setStringEnable | .setRideThrough | .setCooling
  | .setAuxReserves | .setYawPolicy | .yawCommand | .setDriveSlots | .setNoDwellWindow | .setTwistReference
  | .setFaultClass | .storeSettings | .lockSettings | .setBatteryEnergy => []

/-- What a refusal carries after its head: the head alone, but for the replies whose rule gives a content with no exception,
those of SetMode, ArmGridMonitor and SetSetting (R137, R30, R181, log 14). -/
def refusedBody (k : Kind) (body : List Byte) (s : State) : List Byte :=
  match k with
  | .setMode => modeBody s
  | .armGridMonitor => armBody false body s
  | .setSetting => settingValue body s
  | _ => []

/-- The content of a block's reply. -/
def replyBody (k : Kind) (body : List Byte) (status : Status) (before s : State) : List Byte :=
  if status.taken then takenBody k body before s else refusedBody k body s

end Sys2Proof.Machine
end

