-- ==== Sys2Proof/Machine/LinkOps.lean ====
section
/-! DEFINITION. The link port: the parser, acceptance, serving, the reply head, the outbound queue and notices, breaks, and the shape every event shares (R167 to R179). -/

namespace Sys2Proof.Machine

def modLink (f : Link → Link) (s : State) : State := { s with link := f s.link }

/-! ## Replies (R171, R173) -/

/-- The link flags byte: the two seen flags and the rows with notice pending, 63 at most (R173). -/
def linkFlags (s : State) : Nat := 128 * bit s.link.overrunSeen + 64 * bit s.link.badSeen + min 63 (pendingRows s)

/-- A frame joins the tail of the outbound queue. -/
def enqueue (f : OutFrame) (s : State) : State := modLink (fun l => { l with outbound := l.outbound ++ [f] }) s

/-- A reply enters the outbound queue with its head; the seen flags clear, and LINK_OVERRUN with a reported overrun (R173, which
the model follows where R169 lets only breaks and starts clear the bad-frame flag: log 50). -/
def queueReply (kind tag : Byte) (status : Status) (content : List Byte) (restart : Bool) (s : State) : State :=
  let body := u8 status.code ++ u8 (linkFlags s) ++ content
  let t := enqueue { frame := ⟨kind, tag, body⟩, notice := false, restart := restart } s
  let t := modLink (fun l => { l with overrunSeen := false, badSeen := false, restartQueued := l.restartQueued || restart }) t
  if s.link.overrunSeen then clearFault .linkOverrun 1 t else t

/-- KIND + 0x80, or 0xFF for a KIND of 0x80 or above (R171). -/
def replyKind (kind : Byte) : Byte := if kind.toNat ≥ 0x80 then 0xFF else kind + 0x80

/-- The port's own checks of a request, in order (R171). -/
def portCheck (f : Frame) : Option Status :=
  match Kind.ofByte f.kind with
  | none => some .badKind
  | some k => if !k.fits f.body then some .badLength else if f.tag = 0 then some .badArg else none

/-- All change marks clear when the GetStatus reply is queued (R148). -/
def clearMarks (k : Kind) (s : State) : State :=
  if k = .getStatus then { s with mode := { s.mode with marks := s.mode.marks.map fun _ => false } } else s

/-- One request, out of the inbound queue: refused by the port, or served by its block (R171). The marks of a GetStatus clear before
its head clears LINK_OVERRUN (R148, R173, log 48). -/
def serveFrame (f : Frame) (s : State) : State :=
  match portCheck f, Kind.ofByte f.kind with
  | none, some k =>
    let a := serve k f.body s
    let t := updateMarks a.2
    queueReply (replyKind f.kind) f.tag a.1 (replyBody k f.body a.1 s t) (k = .restart && a.1 = .ok) (clearMarks k t)
  | some status, _ => queueReply (replyKind f.kind) f.tag status [] false s
  | none, none => s

/-- The port may serve a request (R171). -/
def mayServe (s : State) : Bool := s.link.outbound.length < 16 && !s.link.breakOn && !s.link.restartQueued

/-- The waiting requests are served while there is room, oldest first (R171). -/
def pump : Nat → State → State
  | 0, s => s
  | n + 1, s =>
    if mayServe s then
      match s.link.inbound with
      | [] => s
      | f :: rest => pump n (serveFrame f (modLink (fun l => { l with inbound := rest }) s))
    else s

/-- The inbound queue holds at most eight frames. -/
def pumpAll (s : State) : State := pump 9 s

/-! ## Acceptance (R170) -/

/-- A well-formed frame is accepted: supervision is told, and the frame is queued or lost to an overrun (R170). -/
def acceptFrame (f : Frame) (s : State) : State :=
  let s := supervisionReload s
  if s.link.inbound.length < 8 then modLink (fun l => { l with inbound := l.inbound ++ [f] }) s
  else raise .linkOverrun 1
    (modLink (fun l => { l with overruns := min 65535 (l.overruns + 1), overrunSeen := true }) s)

/-- A frame accepted, and served in the same event when there is room. -/
def takeFrame (f : Frame) (s : State) : State := pumpAll (acceptFrame f s)

/-! ## Notices (R147, R162, R174) -/

def noticesQueued (s : State) : Nat := (s.link.outbound.filter (·.notice)).length

/-- The conditions under which the port takes a notice (R174). -/
def mayTakeNotice (s : State) : Bool :=
  noticesQueued s < 8 && s.link.outbound.length < 15 && !s.link.breakOn && !s.link.restartQueued

def queueNotice (f : Frame) (s : State) : State := enqueue { frame := f, notice := true, restart := false } s

/-- The ModeNotice is taken, if offered (R147). -/
def takeModeNotice (s : State) : State :=
  if s.mode.noticeDue && mayTakeNotice s then
    let t := queueNotice (modeNotice s) s
    { t with mode := { t.mode with noticeDue := false, changeCount := 0 } }
  else s

/-- The pending flag of a row clears as its notice is taken (R162). -/
def clearPending (i : Nat) (s : State) : State :=
  { s with faults := { s.faults with rows := updateAt s.faults.rows i fun r => { r with pending := false } } }

/-- The head of the pending order is taken as a FaultNotice; an offered ModeNotice is taken before it (R162, R174, R179). -/
def takeFaultNotice (s : State) : State :=
  if mayTakeNotice s && !s.mode.noticeDue then
    match pendingHead s with
    | some i => clearPending i (queueNotice (faultNotice s i) s)
    | none => s
  else s

/-- FaultNotices one at a time, the head found afresh after each. -/
def takeFaultNotices : Nat → State → State
  | 0, s => s
  | n + 1, s => takeFaultNotices n (takeFaultNotice s)

/-- The notices the port takes at the end of an event, the ModeNotice first (R174). -/
def takeNotices (s : State) : State := takeFaultNotices 8 (takeModeNotice s)

/-! ## The shape of an event -/

/-- The end of every event: the change marks, then the notices (R148, R174). -/
def finish (s : State) : State := takeNotices (updateMarks s)

/-- An event of the part: without power nothing happens (log 5). -/
def event (f : State → State) (s : State) : State :=
  if s.powered then finish (f (beginEvent s)) else s

/-- An event with all that follows from it in the blocks. -/
def react (f : State → State) (s : State) : State := event (fun t => settle (f t)) s

/-- A well-formed request frame arrives (R170, log 3). -/
def request (f : Frame) (s : State) : State := event (takeFrame f) s

/-! ## The parser (R169) -/

/-- More than 40 µs of idle line between two bytes, the second of which takes 10 µs itself (R169, log 25). -/
def gapBetween (a b : HeldByte) : Bool := b.time > a.time + 50

/-- LEN of a frame in progress. -/
def heldLength (held : List HeldByte) : Nat := ((held[1]?.map HeldByte.byte).getD 0).toNat

/-- What the parser makes of the bytes it holds with the newest one. -/
inductive Verdict where
  | goesOn | discard | accept (f : Frame)
  deriving DecidableEq, Repr

/-- The frame that held bytes spell, without SYNC, LEN and CRC. -/
def frameOf (held : List HeldByte) : Frame :=
  let b := held.map HeldByte.byte
  { kind := b.getD 2 0, tag := b.getD 3 0, body := (b.drop 4).take (heldLength held) }

/-- The last two held bytes are the CRC of those from LEN on (R168). -/
def checkHolds (held : List HeldByte) : Bool :=
  let b := held.map HeldByte.byte
  let n := heldLength held
  b.drop (4 + n) = pair (crc16 ((b.drop 1).take (3 + n)))

/-- The held bytes judged after a byte has joined them (R169). -/
def judgeHeld (held : List HeldByte) : Verdict :=
  if held.length < 2 then .goesOn
  else if heldLength held > 240 then .discard
  else if held.length < 6 + heldLength held then .goesOn
  else if checkHolds held then .accept (frameOf held) else .discard

/-- What the parser hands on: a discard, or an accepted frame. -/
inductive ParserEvent where
  | discarded | accepted (f : Frame)
  deriving DecidableEq, Repr

/-- The parser over its held bytes and the bytes still to take, with what it hands on in order. A discard goes back to the
byte after the discarded SYNC (R169). The fuel is enough for every rescan. -/
def parseFrom : Nat → List HeldByte → List HeldByte → List ParserEvent × List HeldByte
  | 0, held, _ => ([], held)
  | _, held, [] => ([], held)
  | n + 1, held, b :: rest =>
    match held.getLast? with
    | none => if b.byte = 0xA5#8 then parseFrom n [b] rest else parseFrom n [] rest
    | some last =>
      if gapBetween last b then
        let r := parseFrom n [] (held.tail ++ b :: rest)
        (.discarded :: r.1, r.2)
      else
        let now := held ++ [b]
        match judgeHeld now with
        | .goesOn => parseFrom n now rest
        | .accept f =>
          let r := parseFrom n [] rest
          (.accepted f :: r.1, r.2)
        | .discard =>
          let r := parseFrom n [] (now.tail ++ rest)
          (.discarded :: r.1, r.2)

/-- Steps enough for `n` bytes: each is taken at most once for every discard before it. -/
def parserFuel (n : Nat) : Nat := (n + 1) * (n + 1)

/-- One byte from the line (R169). -/
def parseByte (held : List HeldByte) (b : HeldByte) : List ParserEvent × List HeldByte :=
  parseFrom (parserFuel (held.length + 1)) held [b]

/-- The line has been idle for more than 40 µs: every frame in progress is discarded in its turn (R169). -/
def parseGap : Nat → List HeldByte → List ParserEvent
  | 0, _ => []
  | n + 1, held =>
    match held with
    | [] => []
    | _ :: rest =>
      let r := parseFrom (parserFuel rest.length) [] rest
      .discarded :: r.1 ++ parseGap n r.2

/-- What a discard or an acceptance does to the port (R169, R170). -/
def parserEffect (e : ParserEvent) (s : State) : State :=
  match e with
  | .discarded => modLink (fun l => { l with badFrames := min 65535 (l.badFrames + 1), badSeen := true }) s
  | .accepted f => takeFrame f s

def parserEffects (l : List ParserEvent) (s : State) : State := forEach l parserEffect s

/-- A byte is taken by the parser (R169). -/
def takeByte (b : Byte) (time : Nat) (s : State) : State :=
  let r := parseByte s.link.held ⟨b, time⟩
  parserEffects r.1 (modLink (fun l => { l with held := r.2 }) s)

/-- An idle line of more than 40 µs (R169). -/
def takeGap (s : State) : State :=
  parserEffects (parseGap (s.link.held.length + 1) s.link.held) (modLink (fun l => { l with held := [] }) s)

/-! ## The line (R174, R178) -/

/-- The last byte of the head frame has left the line: its slot is free, or the warm restart begins (R149, R174). -/
def frameLeaves (s : State) : State :=
  match s.link.outbound with
  | [] => s
  | f :: rest =>
    let t := modLink (fun l => { l with outbound := rest }) s
    if f.restart then warmRestart s.lines.gridVolts t else finish (pumpAll t)

/-- A link break: queues, parser, counters and flags, LINK_OVERRUN, and the ModeNotice mark (R178). -/
def breakLine (s : State) : State :=
  let t := clearFault .linkOverrun 1 (modLink (fun _ => { Link.atStart with breakOn := true }) s)
  let t := { t with mode := { t.mode with noticeDue := true } }
  if s.link.restartQueued then warmRestart s.lines.gridVolts t else finish t

/-- The line leaves break (R178). -/
def endBreak (s : State) : State := pumpAll (modLink (fun l => { l with breakOn := false }) s)

end Sys2Proof.Machine
end

