-- ==== Sys2Proof/Machine/Tick.lean ====
section
/-! DEFINITION. One millisecond without a command: the clock and every running timer (R185, log 1). -/

namespace Sys2Proof.Machine

def FanChannel.tick (c : FanChannel) : FanChannel := { c with mismatch := tickTimer c.mismatch }
def DriveChannel.tick (c : DriveChannel) : DriveChannel := { c with mismatch := tickTimer c.mismatch }
def StringRec.tick (r : StringRec) : StringRec := { r with precharge := tickTimer r.precharge }

def LiquidLoop.tick (r : LiquidLoop) : LiquidLoop :=
  { r with
    proof := tickTimer r.proof, drop := tickTimer r.drop, runOn := tickTimer r.runOn
    fans := r.fans.map FanChannel.tick }

def AirLoop.tick (r : AirLoop) : AirLoop :=
  { r with runOn := tickTimer r.runOn, fans := r.fans.map FanChannel.tick }

def Yaw.tick (y : Yaw) : Yaw :=
  { y with
    settle := tickTimer y.settle, fullAbsent := tickTimer y.fullAbsent, residAbsent := tickTimer y.residAbsent
    rest := tickTimer y.rest, manualTimer := tickTimer y.manualTimer, ramp := tickTimer y.ramp
    channels := y.channels.map DriveChannel.tick
    untwist := { y.untwist with wait := tickTimer y.untwist.wait } }

def ModeCtl.tick (m : ModeCtl) : ModeCtl :=
  { m with idleLimit := tickTimer m.idleLimit, calm := tickTimer m.calm, supTimer := tickTimer m.supTimer }

/-- Time passes by one millisecond: the clock advances and every running timer has one millisecond less; an expiry is a
command of its own (logs 1 and 2). -/
def tick (s : State) : State :=
  { s with
    clock := nextClock s.clock
    conv := { s.conv with strings := s.conv.strings.map fun _ r => r.tick }
    cool := { s.cool with l1 := s.cool.l1.tick, l2 := s.cool.l2.tick, l3 := s.cool.l3.tick }
    aux := { s.aux with bridge := tickTimer s.aux.bridge, normal := tickTimer s.aux.normal }
    yaw := s.yaw.tick
    mode := s.mode.tick
    store := { s.store with
      storing := s.store.storing.map fun f => { f with timer := f.timer.tick } } }

/-- An idle part: time passes while the power is on (log 1). -/
def idle (s : State) : State := if s.powered then tick s else s

end Sys2Proof.Machine
end

