-- ==== Sys2Proof/Machine/StartCommands.lean ====
section
/-! DEFINITION. The commands that start the part or take its power: COLD_START, WARM_RESTART, POWER_FAILURE. -/

namespace Sys2Proof.Machine

/-- What a command answers. -/
abbrev Result := Host.Outcome State Fault Refusal

/-- COLD_START (R150). -/
def execColdStart (u : Nat) (s : State) : Result := .next (coldStart u s)

/-- WARM_RESTART (R149). -/
def execWarmRestart (u : Nat) (s : State) : Result :=
  .next (if s.powered then warmRestart u (beginEvent s) else s)

/-- POWER_FAILURE (R182). -/
def execPowerFailure (s : State) : Result := .next (powerFails s)

end Sys2Proof.Machine
end

