-- ==== Sys2Proof/Machine/RequestCommands.lean ====
section
/-! DEFINITION. The request commands: a well-formed frame of each kind arrives, is accepted and is served in the order of acceptance (R170, R171). What a kind does when served is its definition in Requests.lean. -/

namespace Sys2Proof.Machine

/-- PING (R177). -/
def execPing (tag : Byte) (body : List Byte) (s : State) : Result :=
  .next (request ⟨Kind.ping.code, tag, body⟩ s)

/-- IDENTIFY (R180). -/
def execIdentify (tag : Byte) (body : List Byte) (s : State) : Result :=
  .next (request ⟨Kind.identify.code, tag, body⟩ s)

/-- GET_STATUS (R148). -/
def execGetStatus (tag : Byte) (body : List Byte) (s : State) : Result :=
  .next (request ⟨Kind.getStatus.code, tag, body⟩ s)

/-- SET_TIME (R185). -/
def execSetTime (tag : Byte) (body : List Byte) (s : State) : Result :=
  .next (request ⟨Kind.setTime.code, tag, body⟩ s)

/-- RESTART (R149). -/
def execRestart (tag : Byte) (body : List Byte) (s : State) : Result :=
  .next (request ⟨Kind.restart.code, tag, body⟩ s)

/-- ENABLE_SUPERVISION (R146). -/
def execEnableSupervision (tag : Byte) (body : List Byte) (s : State) : Result :=
  .next (request ⟨Kind.enableSupervision.code, tag, body⟩ s)

/-- SET_MODE (R137). -/
def execSetMode (tag : Byte) (body : List Byte) (s : State) : Result :=
  .next (request ⟨Kind.setMode.code, tag, body⟩ s)

/-- CLAIM_CONTROL (R143). -/
def execClaimControl (tag : Byte) (body : List Byte) (s : State) : Result :=
  .next (request ⟨Kind.claimControl.code, tag, body⟩ s)

/-- SET_POWER (R15). -/
def execSetPower (tag : Byte) (body : List Byte) (s : State) : Result :=
  .next (request ⟨Kind.setPower.code, tag, body⟩ s)

/-- SET_STRING_ENABLE (R14). -/
def execSetStringEnable (tag : Byte) (body : List Byte) (s : State) : Result :=
  .next (request ⟨Kind.setStringEnable.code, tag, body⟩ s)

/-- GET_CONVERTER (R24). -/
def execGetConverter (tag : Byte) (body : List Byte) (s : State) : Result :=
  .next (request ⟨Kind.getConverter.code, tag, body⟩ s)

/-- SET_RIDE_THROUGH (R36). -/
def execSetRideThrough (tag : Byte) (body : List Byte) (s : State) : Result :=
  .next (request ⟨Kind.setRideThrough.code, tag, body⟩ s)

/-- ARM_GRID_MONITOR (R30). -/
def execArmGridMonitor (tag : Byte) (body : List Byte) (s : State) : Result :=
  .next (request ⟨Kind.armGridMonitor.code, tag, body⟩ s)

/-- GET_GRID (R43). -/
def execGetGrid (tag : Byte) (body : List Byte) (s : State) : Result :=
  .next (request ⟨Kind.getGrid.code, tag, body⟩ s)

/-- SET_COOLING (R78). -/
def execSetCooling (tag : Byte) (body : List Byte) (s : State) : Result :=
  .next (request ⟨Kind.setCooling.code, tag, body⟩ s)

/-- GET_COOLING (R79). -/
def execGetCooling (tag : Byte) (body : List Byte) (s : State) : Result :=
  .next (request ⟨Kind.getCooling.code, tag, body⟩ s)

/-- SET_AUX_RESERVES (R95). -/
def execSetAuxReserves (tag : Byte) (body : List Byte) (s : State) : Result :=
  .next (request ⟨Kind.setAuxReserves.code, tag, body⟩ s)

/-- GET_BUDGET (R98). -/
def execGetBudget (tag : Byte) (body : List Byte) (s : State) : Result :=
  .next (request ⟨Kind.getBudget.code, tag, body⟩ s)

/-- SET_HOIST (R96). -/
def execSetHoist (tag : Byte) (body : List Byte) (s : State) : Result :=
  .next (request ⟨Kind.setHoist.code, tag, body⟩ s)

/-- SET_YAW_POLICY (R120). -/
def execSetYawPolicy (tag : Byte) (body : List Byte) (s : State) : Result :=
  .next (request ⟨Kind.setYawPolicy.code, tag, body⟩ s)

/-- YAW_COMMAND_JOG_CW (R118). -/
def execYawCommandJogCw (tag : Byte) (rest : List Byte) (s : State) : Result :=
  .next (request ⟨Kind.yawCommand.code, tag, YawCode.jogCw.byte :: rest⟩ s)

/-- YAW_COMMAND_JOG_CCW (R118). -/
def execYawCommandJogCcw (tag : Byte) (rest : List Byte) (s : State) : Result :=
  .next (request ⟨Kind.yawCommand.code, tag, YawCode.jogCcw.byte :: rest⟩ s)

/-- YAW_COMMAND_GOTO (R118). -/
def execYawCommandGoto (tag : Byte) (rest : List Byte) (s : State) : Result :=
  .next (request ⟨Kind.yawCommand.code, tag, YawCode.goTo.byte :: rest⟩ s)

/-- YAW_COMMAND_STOP (R118). -/
def execYawCommandStop (tag : Byte) (rest : List Byte) (s : State) : Result :=
  .next (request ⟨Kind.yawCommand.code, tag, YawCode.stop.byte :: rest⟩ s)

/-- YAW_COMMAND_AUTO (R118). -/
def execYawCommandAuto (tag : Byte) (rest : List Byte) (s : State) : Result :=
  .next (request ⟨Kind.yawCommand.code, tag, YawCode.auto.byte :: rest⟩ s)

/-- YAW_COMMAND_UNTWIST (R133). -/
def execYawCommandUntwist (tag : Byte) (rest : List Byte) (s : State) : Result :=
  .next (request ⟨Kind.yawCommand.code, tag, YawCode.untwist.byte :: rest⟩ s)

/-- SET_DRIVE_SLOTS (R113). -/
def execSetDriveSlots (tag : Byte) (body : List Byte) (s : State) : Result :=
  .next (request ⟨Kind.setDriveSlots.code, tag, body⟩ s)

/-- SET_NO_DWELL_WINDOW (R115). -/
def execSetNoDwellWindow (tag : Byte) (body : List Byte) (s : State) : Result :=
  .next (request ⟨Kind.setNoDwellWindow.code, tag, body⟩ s)

/-- GET_YAW (R121). -/
def execGetYaw (tag : Byte) (body : List Byte) (s : State) : Result :=
  .next (request ⟨Kind.getYaw.code, tag, body⟩ s)

/-- SET_TWIST_REFERENCE (R126). -/
def execSetTwistReference (tag : Byte) (body : List Byte) (s : State) : Result :=
  .next (request ⟨Kind.setTwistReference.code, tag, body⟩ s)

/-- GET_FAULTS (R164). -/
def execGetFaults (tag : Byte) (body : List Byte) (s : State) : Result :=
  .next (request ⟨Kind.getFaults.code, tag, body⟩ s)

/-- ACK_FAULT (R155). -/
def execAckFault (tag : Byte) (body : List Byte) (s : State) : Result :=
  .next (request ⟨Kind.ackFault.code, tag, body⟩ s)

/-- SET_FAULT_CLASS (R163). -/
def execSetFaultClass (tag : Byte) (body : List Byte) (s : State) : Result :=
  .next (request ⟨Kind.setFaultClass.code, tag, body⟩ s)

/-- GET_SNAPSHOT (R161). -/
def execGetSnapshot (tag : Byte) (body : List Byte) (s : State) : Result :=
  .next (request ⟨Kind.getSnapshot.code, tag, body⟩ s)

/-- CLEAR_SNAPSHOT (R161). -/
def execClearSnapshot (tag : Byte) (body : List Byte) (s : State) : Result :=
  .next (request ⟨Kind.clearSnapshot.code, tag, body⟩ s)

/-- CLEAR_COUNTS (R165). -/
def execClearCounts (tag : Byte) (body : List Byte) (s : State) : Result :=
  .next (request ⟨Kind.clearCounts.code, tag, body⟩ s)

/-- GET_SETTING (R181). -/
def execGetSetting (tag : Byte) (body : List Byte) (s : State) : Result :=
  .next (request ⟨Kind.getSetting.code, tag, body⟩ s)

/-- SET_SETTING (R181). -/
def execSetSetting (tag : Byte) (body : List Byte) (s : State) : Result :=
  .next (request ⟨Kind.setSetting.code, tag, body⟩ s)

/-- STORE_SETTINGS (R182). -/
def execStoreSettings (tag : Byte) (body : List Byte) (s : State) : Result :=
  .next (request ⟨Kind.storeSettings.code, tag, body⟩ s)

/-- LOCK_SETTINGS (R184). -/
def execLockSettings (tag : Byte) (body : List Byte) (s : State) : Result :=
  .next (request ⟨Kind.lockSettings.code, tag, body⟩ s)

/-- SET_BATTERY_ENERGY (R97). -/
def execSetBatteryEnergy (tag : Byte) (body : List Byte) (s : State) : Result :=
  .next (request ⟨Kind.setBatteryEnergy.code, tag, body⟩ s)

/-- UNKNOWN_KIND (R171). -/
def execUnknownKind (kind tag : Byte) (body : List Byte) (s : State) : Result :=
  .next (request ⟨kind, tag, body⟩ s)

end Sys2Proof.Machine
end

