-- ==== Sys2Proof/Machine/LinkCommands.lean ====
section
/-! DEFINITION. The commands of the host line: bytes, gaps, frames sent, notices taken, breaks. -/

namespace Sys2Proof.Machine

/-- What the line itself shows, powered or not. -/
def setLines (f : Lines → Lines) (s : State) : State := { s with lines := f s.lines }

/-- BYTE_ARRIVAL (R169). -/
def execByteArrival (b : Byte) (time : Nat) (s : State) : Result := .next (event (takeByte b time) s)

/-- FRAME_GAP_TIMEOUT (R169). -/
def execFrameGapTimeout (s : State) : Result := .next (event takeGap s)

/-- FRAME_SENT (R174). -/
def execFrameSent (s : State) : Result := .next (if s.powered then frameLeaves (beginEvent s) else s)

/-- TAKE_MODE_NOTICE (R147). -/
def execTakeModeNotice (s : State) : Result := .next (event takeModeNotice s)

/-- TAKE_FAULT_NOTICE (R162). -/
def execTakeFaultNotice (s : State) : Result := .next (event takeFaultNotice s)

/-- LINK_BREAK (R178). -/
def execLinkBreak (s : State) : Result :=
  let t := setLines (fun l => { l with lineAtBreak := true }) s
  .next (if s.powered then breakLine (beginEvent t) else t)

/-- LINK_BREAK_END (R178). -/
def execLinkBreakEnd (s : State) : Result :=
  .next (event endBreak (setLines (fun l => { l with lineAtBreak := false }) s))

end Sys2Proof.Machine
end

