-- ==== Sys2Proof/Machine/PlantCommands.lean ====
section
/-! DEFINITION. The commands of the converter supervisor, grid monitor, thermal model, cooling controller and auxiliary budget. -/

namespace Sys2Proof.Machine

/-! ## Converter supervisor -/

/-- STRING_REPORT (R2). -/
def execStringReport (k : StringId) (current uDc : Nat) (moduleFault : Bool) (s : State) : Result :=
  .next (react (takeReport k current uDc moduleFault) s)

/-- PRECHARGE_TIMEOUT (R9): the timer that runs is that of the one string in Charging. -/
def execPrechargeTimeout (s : State) : Result := .next (react (forEach StringId.all timeoutPrecharge) s)

/-- SHARE_INTERVAL (R17). -/
def execShareInterval (s : State) : Result := .next (react shareInterval s)

/-! ## Grid monitor -/

/-- GRID_SAMPLE (R26). -/
def execGridSample (u : Nat) (s : State) : Result :=
  .next (react (gridSample u) (setLines (fun l => { l with gridVolts := u }) s))

/-- DIP_LIST_AGING (R33): what has reached its age leaves; an entry that the grid sample has aged out is gone already. -/
def execDipListAging (s : State) : Result := .next (event ageDips s)

/-- RIDE_THROUGH_EXCEEDED (R34). -/
def execRideThroughExceeded (s : State) : Result := .next (react rideThroughEnds s)

/-- Q_HOLD_END (R37). -/
def execQHoldEnd (s : State) : Result := .next (event qHoldEnds s)

/-- RECOVERY_TIMEOUT (R38). -/
def execRecoveryTimeout (s : State) : Result := .next (react recoveryTimesOut s)

/-- OVERVOLTAGE_TIMEOUT (R39). -/
def execOvervoltageTimeout (s : State) : Result := .next (react overTimesOut s)

/-- RETURN_DWELL_COMPLETE (R41). -/
def execReturnDwellComplete (s : State) : Result := .next (react dwellCompletes s)

/-! ## Thermal model -/

/-- THERMAL_INTERVAL (R47). -/
def execThermalInterval (inlet1 inlet2 : Int) (s : State) : Result :=
  .next (react (thermalInterval inlet1 inlet2) s)

/-- INLET_SUBSTITUTE (R57). -/
def execInletSubstitute (l : Liquid) (s : State) : Result := .next (event (substituteInlet l) s)

/-! ## Cooling controller -/

/-- FLOW_SWITCH_CHANGE (R66). -/
def execFlowSwitchChange (l : Liquid) (flow : Bool) (s : State) : Result :=
  .next (if s.powered then react (flowChange l flow) s else modLoop l (fun r => { r with flow := flow }) s)

/-- FLOW_PROOF_TIMEOUT (R67). -/
def execFlowProofTimeout (l : Liquid) (s : State) : Result := .next (react (proofTimeout l) s)

/-- FLOW_DROP_TIMEOUT (R67). -/
def execFlowDropTimeout (l : Liquid) (s : State) : Result := .next (react (dropTimeout l) s)

/-- COOLING_EVALUATION (R71). -/
def execCoolingEvaluation (outlet1 outlet2 air humidity : Int) (s : State) : Result :=
  .next (react (coolingEvaluation outlet1 outlet2 air humidity) s)

/-- AIR_SENSOR_SUBSTITUTE (R76). -/
def execAirSensorSubstitute (s : State) : Result := .next (react airSubstitution s)

/-- The run-on timer of any loop expires. -/
def runOnOf : LoopId → State → State
  | .l1 => runOnExpires .l1
  | .l2 => runOnExpires .l2
  | .l3 => runOnExpires3

/-- RUN_ON_EXPIRY (R72). -/
def execRunOnExpiry (l : LoopId) (s : State) : Result := .next (react (runOnOf l) s)

/-- FAN_FEEDBACK_CHANGE (R75). -/
def execFanFeedbackChange (f : FanId) (running : Bool) (s : State) : Result :=
  .next (react id (modFan f (fun c => { c with proven := running }) s))

/-- FAN_MISMATCH_EXPIRY (R75). -/
def execFanMismatchExpiry (f : FanId) (s : State) : Result := .next (react (fanFails f) s)

/-! ## Auxiliary budget -/

/-- BRIDGE_TIMER_EXPIRY (R89). -/
def execBridgeTimerExpiry (s : State) : Result := .next (react bridgeExpires s)

/-- NORMAL_COUNT_EXPIRY (R91). -/
def execNormalCountExpiry (s : State) : Result := .next (react normalCountExpires s)

/-- BATTERY_ACCOUNTING (R92). -/
def execBatteryAccounting (s : State) : Result := .next (react accountBattery s)

end Sys2Proof.Machine
end

