-- ==== Sys2Proof/Machine/YawCommands.lean ====
section
/-! DEFINITION. The commands of the yaw controller: its sample, brakes, drives, panel buttons, encoder and timers. -/

namespace Sys2Proof.Machine

/-- YAW_SAMPLE (R100). -/
def execYawSample (vaneA vaneB : Reading) (wind : Int) (s : State) : Result :=
  .next (react (yawSample vaneA vaneB wind) s)

/-! ## Brakes (R107) -/

/-- BRAKE_VENT_EXPIRY (R107). -/
def execBrakeVentExpiry (s : State) : Result := .next (react ventSettles s)

/-- BRAKE_PRESSURIZE_EXPIRY (R107). -/
def execBrakePressurizeExpiry (s : State) : Result := .next (react pressurizeSettles s)

/-- What a proof input shows. -/
def showProof (p : BrakeProof) (present : Bool) (s : State) : State :=
  match p with
  | .residual => setLines (fun l => { l with residualProof := present }) s
  | .full => setLines (fun l => { l with fullProof := present }) s

/-- A proof-absence count after its proof changes: dropped when present, running from the absence on (R107). -/
def absenceAfter (clock : Nat) (present : Bool) (t : Option Countdown) : Option Countdown :=
  if present then none else t.orElse fun _ => startTimer clock 1000

/-- A holding proof is watched in the brake state it holds in (R107). -/
def watchProof (p : BrakeProof) (present : Bool) (s : State) : State :=
  match p, s.yaw.brake with
  | .full, .full => modYaw (fun y => { y with fullAbsent := absenceAfter s.clock present y.fullAbsent }) s
  | .residual, .residual => modYaw (fun y => { y with residAbsent := absenceAfter s.clock present y.residAbsent }) s
  | _, _ => s

/-- BRAKE_PROOF_CHANGE (R107). -/
def execBrakeProofChange (p : BrakeProof) (present : Bool) (s : State) : Result :=
  .next (event (watchProof p present) (showProof p present s))

/-- A holding proof has been absent for 1,000 ms (R107). -/
def proofLost (p : BrakeProof) (s : State) : State :=
  match p with
  | .full =>
    if s.yaw.brake = .full ∧ s.yaw.fullAbsent.isSome then
      brakeFailed (modYaw (fun y => { y with fullAbsent := none }) s)
    else s
  | .residual =>
    if s.yaw.brake = .residual ∧ s.yaw.residAbsent.isSome then
      brakeFailed (modYaw (fun y => { y with residAbsent := none }) s)
    else s

/-- BRAKE_PROOF_ABSENCE_EXPIRY (R107). -/
def execBrakeProofAbsenceExpiry (p : BrakeProof) (s : State) : Result := .next (react (proofLost p) s)

/-! ## Timers of the motion record (R110) -/

/-- RAMPING_EXPIRY (R110). -/
def execRampingExpiry (s : State) : Result := .next (react rampSettles s)

/-- MANUAL_TIMER_EXPIRY (R110). -/
def execManualTimerExpiry (s : State) : Result := .next (react manualTimeout s)

/-- REST_TIMER_EXPIRY (R110). -/
def execRestTimerExpiry (s : State) : Result :=
  .next (event (modYaw fun y => { y with rest := none }) s)

/-! ## Drives (R114) -/

/-- DRIVE_FEEDBACK_CHANGE (R114). -/
def execDriveFeedbackChange (c : Fin 10) (running : Bool) (s : State) : Result :=
  .next (react id (modYaw (fun y => { y with
    channels := updateAt y.channels c fun d => { d with proven := running } }) s))

/-- DRIVE_MISMATCH_EXPIRY (R114). -/
def execDriveMismatchExpiry (c : Fin 10) (s : State) : Result := .next (react (driveFails c) s)

/-! ## Panel buttons (R119) -/

/-- A button is held, or not. -/
def holdButton (d : Dir) (held : Bool) (s : State) : State :=
  match d with
  | .cw => setLines (fun l => { l with heldCw := held }) s
  | .ccw => setLines (fun l => { l with heldCcw := held }) s

def buttonHeld (s : State) : Dir → Bool
  | .cw => s.lines.heldCw
  | .ccw => s.lines.heldCcw

def Dir.other : Dir → Dir
  | .cw => .ccw
  | .ccw => .cw

/-- JOG_BUTTON_PRESS (R119): a press beside a held button is a release of the one held. -/
def execJogButtonPress (d : Dir) (s : State) : Result :=
  .next (react (if buttonHeld s (Dir.other d) then releaseJog (Dir.other d) else pressJog d) (holdButton d true s))

/-- JOG_BUTTON_RELEASE (R119). -/
def execJogButtonRelease (d : Dir) (s : State) : Result :=
  .next (react (releaseJog d) (holdButton d false s))

/-! ## Encoder and untwist (R124, R130) -/

/-- ENCODER_UPDATE (R124). -/
def execEncoderUpdate (r : EncoderReading) (s : State) : Result := .next (react (encoderUpdate r) s)

/-- UNTWIST_WAIT_EXPIRY (R130). -/
def execUntwistWaitExpiry (s : State) : Result := .next (react untwistWaitExpires s)

end Sys2Proof.Machine
end

