-- ==== Sys2Proof/Machine/ModeCommands.lean ====
section
/-! DEFINITION. The commands of the mode controller and the settings store: timers, the emergency-stop chain, the key, the reset button, the store's completion. -/

namespace Sys2Proof.Machine

/-- SUPERVISION_TIMER_EXPIRY (R146). -/
def execSupervisionTimerExpiry (s : State) : Result := .next (react supervisionExpires s)

/-- CALM_TIMER_EXPIRY (R141). -/
def execCalmTimerExpiry (s : State) : Result := .next (react calmExpires s)

/-- IDLE_LIMIT_EXPIRY (R139). -/
def execIdleLimitExpiry (s : State) : Result := .next (react idleLimitExpires s)

/-- ESTOP_CHAIN_OPEN (R142). -/
def execEstopChainOpen (s : State) : Result :=
  .next (react estopOpens (setLines (fun l => { l with chainClosed := false }) s))

/-- ESTOP_CHAIN_CLOSE (R142). -/
def execEstopChainClose (s : State) : Result :=
  .next (event (clearFault .estop 1) (setLines (fun l => { l with chainClosed := true }) s))

/-- KEY_SWITCH (R143). -/
def execKeySwitch (p : KeyPos) (s : State) : Result :=
  .next (react (keyReaches s.lines.key p) (setLines (fun l => { l with key := p }) s))

/-- RESET_BUTTON (R145). -/
def execResetButton (s : State) : Result := .next (react resetPressed s)

/-- STORE_COMPLETION (R182). -/
def execStoreCompletion (s : State) : Result := .next (event storeCompletes s)

end Sys2Proof.Machine
end

