-- ==== Sys2Proof/Machine/Dispatch.lean ====
section
/-! DEFINITION. One arm per command, each a direct call of its meaning. -/

namespace Sys2Proof.Machine

def exec (i : Instr) (s : State) : Host.Outcome State Fault Refusal :=
  match i with
  | .coldStart u => Sys2Proof.Machine.execColdStart u s
  | .warmRestart u => Sys2Proof.Machine.execWarmRestart u s
  | .ping tag body => Sys2Proof.Machine.execPing tag body s
  | .identify tag body => Sys2Proof.Machine.execIdentify tag body s
  | .getStatus tag body => Sys2Proof.Machine.execGetStatus tag body s
  | .setTime tag body => Sys2Proof.Machine.execSetTime tag body s
  | .restart tag body => Sys2Proof.Machine.execRestart tag body s
  | .enableSupervision tag body => Sys2Proof.Machine.execEnableSupervision tag body s
  | .setMode tag body => Sys2Proof.Machine.execSetMode tag body s
  | .claimControl tag body => Sys2Proof.Machine.execClaimControl tag body s
  | .setPower tag body => Sys2Proof.Machine.execSetPower tag body s
  | .setStringEnable tag body => Sys2Proof.Machine.execSetStringEnable tag body s
  | .getConverter tag body => Sys2Proof.Machine.execGetConverter tag body s
  | .setRideThrough tag body => Sys2Proof.Machine.execSetRideThrough tag body s
  | .armGridMonitor tag body => Sys2Proof.Machine.execArmGridMonitor tag body s
  | .getGrid tag body => Sys2Proof.Machine.execGetGrid tag body s
  | .setCooling tag body => Sys2Proof.Machine.execSetCooling tag body s
  | .getCooling tag body => Sys2Proof.Machine.execGetCooling tag body s
  | .setAuxReserves tag body => Sys2Proof.Machine.execSetAuxReserves tag body s
  | .getBudget tag body => Sys2Proof.Machine.execGetBudget tag body s
  | .setHoist tag body => Sys2Proof.Machine.execSetHoist tag body s
  | .setYawPolicy tag body => Sys2Proof.Machine.execSetYawPolicy tag body s
  | .yawCommandJogCw tag rest => Sys2Proof.Machine.execYawCommandJogCw tag rest s
  | .yawCommandJogCcw tag rest => Sys2Proof.Machine.execYawCommandJogCcw tag rest s
  | .yawCommandGoto tag rest => Sys2Proof.Machine.execYawCommandGoto tag rest s
  | .yawCommandStop tag rest => Sys2Proof.Machine.execYawCommandStop tag rest s
  | .yawCommandAuto tag rest => Sys2Proof.Machine.execYawCommandAuto tag rest s
  | .yawCommandUntwist tag rest => Sys2Proof.Machine.execYawCommandUntwist tag rest s
  | .setDriveSlots tag body => Sys2Proof.Machine.execSetDriveSlots tag body s
  | .setNoDwellWindow tag body => Sys2Proof.Machine.execSetNoDwellWindow tag body s
  | .getYaw tag body => Sys2Proof.Machine.execGetYaw tag body s
  | .setTwistReference tag body => Sys2Proof.Machine.execSetTwistReference tag body s
  | .getFaults tag body => Sys2Proof.Machine.execGetFaults tag body s
  | .ackFault tag body => Sys2Proof.Machine.execAckFault tag body s
  | .setFaultClass tag body => Sys2Proof.Machine.execSetFaultClass tag body s
  | .getSnapshot tag body => Sys2Proof.Machine.execGetSnapshot tag body s
  | .clearSnapshot tag body => Sys2Proof.Machine.execClearSnapshot tag body s
  | .clearCounts tag body => Sys2Proof.Machine.execClearCounts tag body s
  | .getSetting tag body => Sys2Proof.Machine.execGetSetting tag body s
  | .setSetting tag body => Sys2Proof.Machine.execSetSetting tag body s
  | .storeSettings tag body => Sys2Proof.Machine.execStoreSettings tag body s
  | .lockSettings tag body => Sys2Proof.Machine.execLockSettings tag body s
  | .setBatteryEnergy tag body => Sys2Proof.Machine.execSetBatteryEnergy tag body s
  | .unknownKind kind tag body => Sys2Proof.Machine.execUnknownKind kind tag body s
  | .byteArrival b time => Sys2Proof.Machine.execByteArrival b time s
  | .frameGapTimeout => Sys2Proof.Machine.execFrameGapTimeout s
  | .frameSent => Sys2Proof.Machine.execFrameSent s
  | .takeModeNotice => Sys2Proof.Machine.execTakeModeNotice s
  | .takeFaultNotice => Sys2Proof.Machine.execTakeFaultNotice s
  | .linkBreak => Sys2Proof.Machine.execLinkBreak s
  | .linkBreakEnd => Sys2Proof.Machine.execLinkBreakEnd s
  | .supervisionTimerExpiry => Sys2Proof.Machine.execSupervisionTimerExpiry s
  | .stringReport k current uDc moduleFault => Sys2Proof.Machine.execStringReport k current uDc moduleFault s
  | .prechargeTimeout => Sys2Proof.Machine.execPrechargeTimeout s
  | .shareInterval => Sys2Proof.Machine.execShareInterval s
  | .gridSample u => Sys2Proof.Machine.execGridSample u s
  | .dipListAging => Sys2Proof.Machine.execDipListAging s
  | .rideThroughExceeded => Sys2Proof.Machine.execRideThroughExceeded s
  | .qHoldEnd => Sys2Proof.Machine.execQHoldEnd s
  | .recoveryTimeout => Sys2Proof.Machine.execRecoveryTimeout s
  | .overvoltageTimeout => Sys2Proof.Machine.execOvervoltageTimeout s
  | .returnDwellComplete => Sys2Proof.Machine.execReturnDwellComplete s
  | .thermalInterval inlet1 inlet2 => Sys2Proof.Machine.execThermalInterval inlet1 inlet2 s
  | .inletSubstitute l => Sys2Proof.Machine.execInletSubstitute l s
  | .flowSwitchChange l flow => Sys2Proof.Machine.execFlowSwitchChange l flow s
  | .flowProofTimeout l => Sys2Proof.Machine.execFlowProofTimeout l s
  | .flowDropTimeout l => Sys2Proof.Machine.execFlowDropTimeout l s
  | .coolingEvaluation outlet1 outlet2 air humidity => Sys2Proof.Machine.execCoolingEvaluation outlet1 outlet2 air humidity s
  | .airSensorSubstitute => Sys2Proof.Machine.execAirSensorSubstitute s
  | .runOnExpiry l => Sys2Proof.Machine.execRunOnExpiry l s
  | .fanFeedbackChange f running => Sys2Proof.Machine.execFanFeedbackChange f running s
  | .fanMismatchExpiry f => Sys2Proof.Machine.execFanMismatchExpiry f s
  | .bridgeTimerExpiry => Sys2Proof.Machine.execBridgeTimerExpiry s
  | .normalCountExpiry => Sys2Proof.Machine.execNormalCountExpiry s
  | .batteryAccounting => Sys2Proof.Machine.execBatteryAccounting s
  | .yawSample vaneA vaneB wind => Sys2Proof.Machine.execYawSample vaneA vaneB wind s
  | .brakeVentExpiry => Sys2Proof.Machine.execBrakeVentExpiry s
  | .brakePressurizeExpiry => Sys2Proof.Machine.execBrakePressurizeExpiry s
  | .brakeProofChange p present => Sys2Proof.Machine.execBrakeProofChange p present s
  | .brakeProofAbsenceExpiry p => Sys2Proof.Machine.execBrakeProofAbsenceExpiry p s
  | .rampingExpiry => Sys2Proof.Machine.execRampingExpiry s
  | .manualTimerExpiry => Sys2Proof.Machine.execManualTimerExpiry s
  | .restTimerExpiry => Sys2Proof.Machine.execRestTimerExpiry s
  | .driveFeedbackChange c running => Sys2Proof.Machine.execDriveFeedbackChange c running s
  | .driveMismatchExpiry c => Sys2Proof.Machine.execDriveMismatchExpiry c s
  | .jogButtonPress d => Sys2Proof.Machine.execJogButtonPress d s
  | .jogButtonRelease d => Sys2Proof.Machine.execJogButtonRelease d s
  | .encoderUpdate r => Sys2Proof.Machine.execEncoderUpdate r s
  | .untwistWaitExpiry => Sys2Proof.Machine.execUntwistWaitExpiry s
  | .calmTimerExpiry => Sys2Proof.Machine.execCalmTimerExpiry s
  | .idleLimitExpiry => Sys2Proof.Machine.execIdleLimitExpiry s
  | .estopChainOpen => Sys2Proof.Machine.execEstopChainOpen s
  | .estopChainClose => Sys2Proof.Machine.execEstopChainClose s
  | .keySwitch p => Sys2Proof.Machine.execKeySwitch p s
  | .resetButton => Sys2Proof.Machine.execResetButton s
  | .storeCompletion => Sys2Proof.Machine.execStoreCompletion s
  | .powerFailure => Sys2Proof.Machine.execPowerFailure s

end Sys2Proof.Machine
end

