-- ==== Sys2Proof/Safety.lean ====
section
/-! DEFINITION. The terms claims are stated in: what the reactions of an event leave alone, when the port answers a request at once, and what a sound state is. -/

namespace Sys2Proof.Machine

/-! ## What the reactions of an event never write

`beside s` is `s` with every field blanked that the reactions inside an event (`settle`) may write, or a FaultNotice taken
(a pending flag); `outside s` blanks the outbound queue too, which the end of an event (`finish`) may write. Two states with
the same `outside` agree on everything else. -/

def StringRec.outside (r : StringRec) : StringRec :=
  { StringRec.atStart with
    iMeas := r.iMeas, overrange := r.overrange, uDc := r.uDc, silence := r.silence, reported := r.reported
    iLim := r.iLim, cap := r.cap, enabled := r.enabled, isolateOnEnd := r.isolateOnEnd }

def FanChannel.outside (c : FanChannel) : FanChannel :=
  { FanChannel.atStart with proven := c.proven, failed := c.failed }

def DriveChannel.outside (c : DriveChannel) : DriveChannel :=
  { DriveChannel.atStart with proven := c.proven, failed := c.failed }

def LiquidLoop.outside (r : LiquidLoop) : LiquidLoop :=
  { LiquidLoop.atStart with
    flow := r.flow, outlet := r.outlet, clamp := r.clamp, fans := r.fans.map FanChannel.outside }

/-- The reactions leave the air loop alone but for its channels. -/
def AirLoop.outside (r : AirLoop) : AirLoop := { r with fans := r.fans.map FanChannel.outside }

def Claim.outside (c : Claim) : Claim := { c with grant := 0 }

def Budget.outside (b : Budget) : Budget :=
  { Budget.atStart with
    source := b.source, held := b.held, bridge := b.bridge, normal := b.normal
    lowMark := b.lowMark, criticalMark := b.criticalMark
    claims := { Claims.atStart with charger := b.claims.charger.outside, hoist := b.claims.hoist.outside } }

def Yaw.outside (y : Yaw) : Yaw :=
  { Yaw.atStart with
    vaneA := y.vaneA, vaneB := y.vaneB, disagree := y.disagree, ring := y.ring
    shortMean := y.shortMean, longMean := y.longMean, shortSpeed := y.shortSpeed, longSpeed := y.longSpeed
    cap := y.cap, invalidSince := y.invalidSince, sampleNo := y.sampleNo, encoder := y.encoder
    windows := y.windows
    channels := y.channels.map DriveChannel.outside }

def ModeCtl.outside (m : ModeCtl) : ModeCtl :=
  { ModeCtl.atStart with
    owner := m.owner, supEnabled := m.supEnabled, supInterval := m.supInterval
    supTimer := m.supTimer, supCount := m.supCount }

/-- The rows that a reaction may raise or clear: LOOP_FLOW, AUX_REVOKED, UNTWIST_DUE, STORM_ENTERED. -/
def reactiveRow (i : Nat) : Bool := i = 40 || i = 41 || i = 50 || i = 76 || i = 77

def rowOutside (i : Nat) (r : FaultRow) : FaultRow :=
  if reactiveRow i then FaultRow.blank else { r with pending := false }

def FaultTable.outside (t : FaultTable) : FaultTable := { t with rows := t.rows.mapIdx rowOutside }

/-- `s` without what the reactions inside an event may write. -/
def beside (s : State) : State :=
  { s with
    evt := EventMark.atStart
    conv := { s.conv with strings := s.conv.strings.map fun _ r => r.outside, queue := [] }
    cool := { s.cool with l1 := s.cool.l1.outside, l2 := s.cool.l2.outside, l3 := s.cool.l3.outside, heaterOn := false }
    aux := s.aux.outside
    yaw := s.yaw.outside
    mode := s.mode.outside
    faults := s.faults.outside }

/-- `s` without what the reactions inside an event and its end may write. -/
def outside (s : State) : State := { beside s with link := { s.link with outbound := [] } }

/-! ## The port -/

/-- A request that arrives is served in the same event: power is on, nothing waits, a reply has room, no break is on and no
Restart reply is queued (R170, R171). -/
def PortReady (s : State) : Prop := s.powered = true ∧ s.link.inbound = [] ∧ mayServe s = true

/-- The state as a request accepted in `s` finds it when it is served (R146, R170). -/
def served (s : State) : State := supervisionReload (beginEvent s)

/-- The first frame that `t` has behind the frames of `s` is the reply with this KIND, TAG, status and content (R171, R173). -/
def Answered (s t : State) (kind tag : Byte) (status : Status) (content : List Byte) : Prop :=
  ∃ flags restart, t.link.outbound[s.link.outbound.length]? =
    some ⟨⟨kind, tag, u8 status.code ++ u8 flags ++ content⟩, false, restart⟩

/-- `s` after a reply has reported and cleared the seen flags, and LINK_OVERRUN with a reported overrun (R173, log 50). -/
def replied (s : State) : State :=
  let t := modLink (fun l => { l with overrunSeen := false, badSeen := false }) s
  if s.link.overrunSeen then clearFault .linkOverrun 1 t else t

/-! ## Nothing reacted -/

/-- The mode record without the ModeNotice and the change marks. -/
def ModeCtl.kept (m : ModeCtl) : ModeCtl := { m with noticeDue := false, changeCount := 0, marks := [], base := [] }

/-- `t` is `s` but for the event order, notices taken or owed (the outbound queue, pending flags, the ModeNotice and its
count) and change marks: every register, record, queue and row is as in `s`. -/
def Quiet (s t : State) : Prop :=
  outside t = outside s ∧ t.conv = s.conv ∧ t.cool = s.cool ∧ t.aux = s.aux ∧ t.yaw = s.yaw ∧
  t.mode.kept = s.mode.kept ∧
  ∀ i, { rowAt t i with pending := false } = { rowAt s i with pending := false }

/-- `t` agrees with `s` on everything that neither the reactions of an event nor its end write. -/
def Beyond (s t : State) : Prop := outside t = outside s

/-- The owner is the host, and a request is served at once. -/
def HostReady (s : State) : Prop := PortReady s ∧ s.mode.owner = .remote

/-! ## Sound states -/

/-- A value lies in its setting's envelope (R181). -/
def inEnvelope (w : Settings) (i : SettingId) : Bool := i.envelope.1 ≤ w.read i && w.read i ≤ i.envelope.2

/-- The enabled windows of a list share no position (R115). -/
def windowsApart : List Window → Bool
  | [] => true
  | w :: rest => !(rest.any (windowsMeet w)) && windowsApart rest

/-- Settings that every acceptance rule lets stand: envelopes and conflicts (R181), the curve (R35, R36), the slots (R113),
the windows (R115), the setpoints (R78), the classes (R152, R163). -/
def Settings.sound (w : Settings) : Prop :=
  (∀ i, inEnvelope w i = true) ∧ w.conflicts = false ∧
  (2 ≤ w.curve.length ∧ w.curve.length ≤ 6 ∧ curveRises w.curve = true) ∧
  (w.slots.length = 8 ∧ distinctChannels (w.slots.filterMap id) = true) ∧
  (w.windows.length = 4 ∧ windowsApart w.windows = true) ∧
  (300 ≤ w.setpoint1 ∧ w.setpoint1 ≤ 550 ∧ 300 ≤ w.setpoint2 ∧ w.setpoint2 ≤ 550) ∧
  (w.classes.length = 33 ∧ ∀ c : FaultCode, w.classes.getD (c.num - 1) .notice ∈ c.permitted)

/-- Every copy of the settings that can come into force is sound. -/
def StoreSound (s : State) : Prop :=
  s.store.working.sound ∧ (s.store.imageCheck = true → s.store.image.sound) ∧
  ∀ f, s.store.storing = some f → f.copy.sound

/-- The twist record keeps its ranges: angles below 3,600, and a known θ within ±10,800 with T within ±4 (R123, R124). -/
def TwistSound (s : State) : Prop :=
  s.retained.twist.ref < 3600 ∧ s.retained.twist.last < 3600 ∧
  (s.retained.twist.valid = true →
    s.retained.twist.position.natAbs ≤ 10800 ∧ s.retained.twist.turns.natAbs ≤ 4)

/-- The frame queues keep within their room: eight requests, sixteen frames out, eight notices among them (R170, R174). -/
def QueuesSound (s : State) : Prop :=
  s.link.inbound.length ≤ 8 ∧ s.link.outbound.length ≤ 16 ∧ noticesQueued s ≤ 8

/-- Every table, ring and set of channels at its size: 79 rows (R151), eight slots (R159), 60 ring entries (R103), ten drive
channels (R113), four, four and three fan channels (R63), 20 change marks (R148). -/
def Sized (s : State) : Prop :=
  s.faults.rows.length = 79 ∧ s.faults.slots.length = 8 ∧ s.yaw.ring.length = 60 ∧ s.yaw.channels.length = 10 ∧
  s.cool.l1.fans.length = 4 ∧ s.cool.l2.fans.length = 4 ∧ s.cool.l3.fans.length = 3 ∧
  s.mode.marks.length = 20 ∧ s.mode.base.length = 20

/-- No yaw drive is commanded to run unless the brake state is Residual (R108). -/
def DrivesSafe (s : State) : Prop :=
  s.yaw.brake ≠ .residual → ∀ c ∈ s.yaw.channels, c.commanded = false

/-- The number of channels commanded to run. -/
def fansRunning (fans : List FanChannel) : Nat := (fans.filter (·.commanded)).length

/-- No loop runs more fan channels than its grant powers, and none that is marked failed (R63, R75). -/
def FansSafe (s : State) : Prop :=
  (fansRunning s.cool.l1.fans ≤ grantedStage s .l1 ∧ ∀ c ∈ s.cool.l1.fans, c.commanded = true → c.failed = false) ∧
  (fansRunning s.cool.l2.fans ≤ grantedStage s .l2 ∧ ∀ c ∈ s.cool.l2.fans, c.commanded = true → c.failed = false) ∧
  (fansRunning s.cool.l3.fans ≤ grantedStage3 s ∧ ∀ c ∈ s.cool.l3.fans, c.commanded = true → c.failed = false)

/-- The battery energy stays within the capacity (R92). -/
def EnergySound (s : State) : Prop := s.retained.energy ≤ Config.batteryCapacity

/-- The power request and the granted powers lie in their ranges (R15, R16, R20, R21). -/
def PowerSound (s : State) : Prop :=
  (0 ≤ s.conv.request.p ∧ s.conv.request.p ≤ 15000) ∧ (-7000 ≤ s.conv.request.q ∧ s.conv.request.q ≤ 7000) ∧
  (1 ≤ s.conv.request.rampP ∧ s.conv.request.rampP ≤ 1500) ∧ (1 ≤ s.conv.request.rampQ ∧ s.conv.request.rampQ ≤ 7000) ∧
  (0 ≤ s.conv.granted.p ∧ s.conv.granted.p ≤ 15000) ∧ (-7000 ≤ s.conv.granted.q ∧ s.conv.granted.q ≤ 7000)

/-- The table has its 79 rows, at most one carries the first-fault mark, and that is a Trip row that is not Clear (R157). -/
def FirstFaultSound (s : State) : Prop :=
  s.faults.rows.length = 79 ∧
  (∀ i, (rowAt s i).firstMark = true → (codeOfRow i).isTrip = true ∧ (rowAt s i).state ≠ .clear) ∧
  ∀ i j, (rowAt s i).firstMark = true → (rowAt s j).firstMark = true → i = j

/-- A raise of row `i` in `s` has captured its snapshot into slot `k` of `t`: the slot holds it and is the newest in capture
order, the row names it, any other row that named it names none, and the other slots are as they were (R160). -/
def CapturedIn (s t : State) (i k : Nat) : Prop :=
  t.faults.slots.getD (k - 1) none = some (snapshotNow s i) ∧
  t.faults.capture = s.faults.capture.filter (· ≠ k) ++ [k] ∧
  (rowAt t i).slot = some k ∧ (rowAt t i).lost = false ∧
  (∀ j, j ≠ i → (rowAt t j).slot = (if (rowAt s j).slot = some k then none else (rowAt s j).slot) ∧
    (rowAt t j).lost = (rowAt s j).lost) ∧
  ∀ n, 1 ≤ n → n ≠ k → t.faults.slots.getD (n - 1) none = s.faults.slots.getD (n - 1) none

/-- A string whose third share interval without a report this one is (R3). -/
def fallsSilent (s : State) (k : StringId) : Bool := !(strOf s k).reported && (strOf s k).silence ≥ 2

/-- The inlet temperature of R64 and R71: 550 in Isolated and Storm, else 450. -/
def hotInlet (s : State) (l : Liquid) : Prop :=
  (inletOf s l).inUse > if s.mode.current = .isolated ∨ s.mode.current = .storm then 550 else 450

/-- The string states in which a string holds its loop (R64, R71). -/
def HoldsLoop (s : State) (k : StringId) : Prop :=
  (strOf s k).state ∈ [.precharging, .ready, .running, .derated, .stopping]

/-- A liquid loop is required (R64). -/
def Required (s : State) (l : Liquid) : Prop :=
  (∃ k ∈ l.strings, k ∈ s.conv.queue ∨ HoldsLoop s k) ∨ hotInlet s l ∨
  ((loopOf s l).runOn.isSome = true ∧ s.mode.current ≠ .isolated ∧ s.mode.current ≠ .storm)

/-- The feed-forward stage of a loop's heat load (R71). -/
def forwardStage (s : State) (l : Liquid) : Nat :=
  if heatOf s l < 40000 then 1 else if heatOf s l < 80000 then 2 else if heatOf s l < 120000 then 3 else 4

/-- A run-on timer loaded now, which Isolated and Storm keep stopped (R66, R72). -/
def freshRunOn (s : State) : Option Countdown :=
  if s.mode.current = .isolated ∨ s.mode.current = .storm then none else some ⟨s.clock, 120000⟩

/-- `n` is the selection of a liquid loop, by the first line of R71 that applies. -/
def Selects (s : State) (l : Liquid) (n : Nat) : Prop :=
  let cold := (∀ k ∈ l.strings, ¬HoldsLoop s k) ∧ ¬hotInlet s l
  let t := (inletOf s l).inUse
  (cold → n = 0) ∧
  (¬cold → t > setpointOf s l + 20 → n = min 4 (max ((loopOf s l).demand + 1) (forwardStage s l))) ∧
  (¬cold → t < setpointOf s l - 30 → n = forwardStage s l) ∧
  (¬cold → t ≤ setpointOf s l + 20 → t ≥ setpointOf s l - 30 → n = max (loopOf s l).demand (forwardStage s l))

/-- The fan claim of a liquid loop in `j` at a stage demand of `d`: withdrawn for want of a channel, else submitted at a ceiling of 8 ×
the demanded stage, and of 8 at a demand of 0 (R73). -/
def FansClaimed (j : State) (l : Liquid) (d : Nat) : Prop :=
  let most := maxStage (loopOf j l).fans
  (1 ≤ d → most = 0 → submitted j (fanClaim l) = false) ∧
  (d = 0 ∨ 1 ≤ most → submitted j (fanClaim l) = true ∧ (claimOf j (fanClaim l)).ceiling = 8 * max 1 (min d most))

/-- `j` is what an evaluation leaves of a liquid loop of `s` before the budget answers (R69, R71, R72, R73). -/
def LoopJudged (s j : State) (l : Liquid) : Prop :=
  let r := loopOf s l
  let q := loopOf j l
  let row := rowAt s (rowOf .loopFailed l.num)
  (r.state ≠ .failed → submitted s (fanClaim l) = true →
    Selects s l q.selection ∧ q.demand = max r.demand q.selection ∧ q.state = r.state ∧
    q.runOn = (if r.demand ≤ q.selection then freshRunOn s else r.runOn) ∧ FansClaimed j l q.demand) ∧
  (r.state ≠ .failed → submitted s (fanClaim l) = false →
    q = { r with outlet := q.outlet } ∧ submitted j (fanClaim l) = false) ∧
  (r.state = .failed → isActive j .loopFailed l.num = false ∧
    (row.state = .clear ∨ (row.state = .active ∧ row.ack = true) → q.state = .off ∧ isActive j .loopFlow l.num = false) ∧
    (row.state = .latched ∨ (row.state = .active ∧ row.ack = false) → q.state = .failed))

/-- `j` is what the judgement of L3 by a selection `n` leaves of `s`, before the budget answers (R76, with D and the run-on of R72). -/
def AirJudged (s j : State) (n : Nat) : Prop :=
  let a := s.cool.l3
  let b := j.cool.l3
  b.selection = n ∧
  (a.state = .off → n = 0 → b = { a with selection := 0, air := b.air } ∧ submitted j .fans3 = submitted s .fans3) ∧
  (a.state = .off → 1 ≤ n →
    b.state = (if ∀ c ∈ a.fans, c.failed = false then .running else .degraded) ∧ b.required = true ∧ b.demand = n ∧
    b.runOn = some ⟨s.clock, 120000⟩ ∧ submitted j .fans3 = true ∧
    (claimOf j .fans3).ceiling = 6 * min n (maxStage a.fans)) ∧
  (a.state ≠ .off → b.state = a.state ∧ b.demand = max a.demand n ∧
    b.runOn = (if a.demand ≤ n then some ⟨s.clock, 120000⟩ else a.runOn) ∧ submitted j .fans3 = submitted s .fans3 ∧
    (submitted s .fans3 = true → (claimOf j .fans3).ceiling = 6 * min b.demand (maxStage a.fans)))

/-- The clamp of a liquid loop, by the first line of R74 that applies to the loop, its grant and its strings in `m`. -/
def ClampAt (m : State) (l : Liquid) (c : Nat) : Prop :=
  let runs := (loopOf m l).state = .running ∨ (loopOf m l).state = .degraded
  let deficit := (loopOf m l).demand - grantOf m (fanClaim l) / 8
  let carries := ∃ k ∈ l.strings, (strOf m k).state = .running ∨ (strOf m k).state = .derated
  (runs → grantOf m (fanClaim l) = 0 → c = 55) ∧
  (runs → grantOf m (fanClaim l) ≠ 0 →
    c = if deficit = 0 then 100 else if deficit = 1 then 85 else if deficit = 2 then 70 else 55) ∧
  (¬runs → carries → c = 55) ∧ (¬runs → ¬carries → c = 100)

/-- No string is Running or Derated. -/
def NoStringRuns (s : State) : Prop := ∀ k, (strOf s k).state ≠ .running ∧ (strOf s k).state ≠ .derated

/-- `t` is what an entry to Lost leaves of `s`: Lost since now, GRID_LOST Active, no string running, the source Battery, the
mode Isolated unless Lockout (R40). -/
def InLost (s t : State) : Prop :=
  t.grid.state = .lost ∧ t.grid.entryTime = s.clock ∧ t.grid.dip = none ∧ t.grid.recovery = none ∧
  t.grid.dwellStart = none ∧ isActive t .gridLost 1 = true ∧ NoStringRuns t ∧
  t.aux.source = .battery ∧ t.aux.normal = none ∧
  (s.aux.source ≠ .battery → t.aux.held = none ∧ t.aux.bridge = none) ∧
  (s.mode.current ≠ .lockout → t.mode.current = .isolated ∧ t.mode.target = none) ∧
  t.therm = s.therm ∧ t.store = s.store ∧ t.retained = s.retained ∧ t.conv.granted = s.conv.granted

end Sys2Proof.Machine
end

