-- ==== Sys2Proof/Certificates/Slice0/Obligations.lean ====
section
/-! DEFINITION. The statements for the provers. `replied`, `served`, `Answered`, `Quiet`, `Beyond` and the sound states are defined in Sys2Proof/Safety.lean. -/

open Sys2Proof Sys2Proof.Machine

/-! ## The framework -/

/-- A step with a command at the front of the queue is that command on the state with the queue's rest. This is the framework
the model gives the block's command table (logs 1 and 6), no rule of the spec. -/
def Obligations.StepTakesTheFrontCommand : Prop :=
  ∀ (c : Instr) (s : State), step { s with pending := c :: s.pending } = exec c s

/-- Every command answers a next state, with the queue of commands as it found it. This is the framework the model gives the
block's command table (logs 1 and 6), no rule of the spec, and names no command's effect. -/
def Obligations.EveryCommandAnswersAndLeavesTheQueue : Prop :=
  ∀ (c : Instr) (s : State), ∃ t, exec c s = .next t ∧ t.pending = s.pending

/-- On an empty queue one millisecond passes: the clock advances and wraps below all ones, every running timer has one
millisecond less, and nothing else changes (the model's choice of log 1; the clock by R185). Without power, nothing passes. -/
def Obligations.IdleStepIsOneMillisecond : Prop :=
  ∀ s : State, s.pending = [] →
    (s.powered = false → step s = .next s) ∧
    (s.powered = true →
      let loop (r : LiquidLoop) : LiquidLoop := { r with
        proof := tickTimer r.proof, drop := tickTimer r.drop, runOn := tickTimer r.runOn
        fans := r.fans.map fun c => { c with mismatch := tickTimer c.mismatch } }
      step s = .next { s with
        clock := if s.clock ≥ 4294967294 then 0 else s.clock + 1
        conv := { s.conv with strings := s.conv.strings.map fun _ r => { r with precharge := tickTimer r.precharge } }
        cool := { s.cool with
          l1 := loop s.cool.l1, l2 := loop s.cool.l2
          l3 := { s.cool.l3 with
            runOn := tickTimer s.cool.l3.runOn
            fans := s.cool.l3.fans.map fun c => { c with mismatch := tickTimer c.mismatch } } }
        aux := { s.aux with bridge := tickTimer s.aux.bridge, normal := tickTimer s.aux.normal }
        mode := { s.mode with
          idleLimit := tickTimer s.mode.idleLimit, calm := tickTimer s.mode.calm, supTimer := tickTimer s.mode.supTimer }
        yaw := { s.yaw with
          settle := tickTimer s.yaw.settle, ramp := tickTimer s.yaw.ramp, rest := tickTimer s.yaw.rest
          fullAbsent := tickTimer s.yaw.fullAbsent, residAbsent := tickTimer s.yaw.residAbsent
          manualTimer := tickTimer s.yaw.manualTimer
          channels := s.yaw.channels.map fun c => { c with mismatch := tickTimer c.mismatch }
          untwist := { s.yaw.untwist with wait := tickTimer s.yaw.untwist.wait } }
        store := { s.store with storing := s.store.storing.map fun x =>
          { x with timer := { x.timer with left := x.timer.left - 1 } } } })

/-! ## Starts and power -/

/-- COLD_START from any state: every block takes its start values, the working settings and the retained domain come from
what their checks let stand, and the first grid sample, the key and the chain set state, mode, source and owner. The model's own
choices in it: the port stands at its start with no notice taken yet (log 4), checks pass or fail as kept (log 8), a part that was
on loses its power first (log 31), and the image it then finds is the old one where a store was cut off (log 47). -/
def Obligations.ColdStartTakesStartValues : Prop :=
  ∀ (u : Nat) (s : State), ∃ t, exec (.coldStart u) s = .next t ∧
    t.pending = s.pending ∧ t.powered = true ∧ t.clock = 0 ∧ t.lines = { s.lines with gridVolts := u } ∧
    t.conv.queue = [] ∧ t.conv.request = ⟨0, 0, 100, 7000⟩ ∧ t.conv.granted = ⟨0, 0, 0, .p⟩ ∧ t.conv.dips = [] ∧
    (∀ k, (strOf t k).state = if s.lines.chainClosed then .offline else .faulted) ∧
    t.grid.u = min 1500 (min u 5000 * 1000 / 3300) ∧
    t.grid.state = (if t.grid.u < 900 then .lost else .normal) ∧
    t.aux.source = (if t.grid.u < 900 then .battery else .grid) ∧
    t.mode.current = (if s.lines.key = .lockoutPos then .lockout else if t.grid.u < 900 then .isolated else .parked) ∧
    t.mode.target = none ∧ t.mode.owner = (if s.lines.key = .remotePos then .remote else .localOwner) ∧
    t.mode.supEnabled = false ∧ t.yaw.motion = .hold ∧ t.yaw.brake = .full ∧ t.yaw.manualMark = false ∧
    t.cool.l1.state = .off ∧ t.cool.l2.state = .off ∧ t.cool.l3.state = .off ∧
    t.link = { Link.atStart with breakOn := s.lines.lineAtBreak } ∧
    t.store.lock = false ∧ t.store.storing = none ∧ t.store.image = s.store.image ∧
    t.store.working = (if s.store.imageCheck && s.store.storing.isNone then s.store.image else Settings.defaults) ∧
    t.retained.energy = (if s.retained.energyCheck then s.retained.energy else 0) ∧
    t.retained.twist.valid = (s.retained.twist.checkGood && s.retained.twist.valid) ∧
    t.retained.twist.turns = s.retained.twist.turns ∧
    (isActive t .twistSensor 1 = !(s.retained.twist.checkGood && s.retained.twist.valid)) ∧
    (isActive t .estop 1 = !s.lines.chainClosed)

/-- WARM_RESTART with the power on: the settings, the retained domain, the clock, the enabled marks, the rises and the set
fields of the monitors are kept; requests, motion, supervision and the port start afresh. That the port stands at its start with
the ModeNotice still due rests on log 4, that the image and its check stay as they were with a store in flight on log 47. -/
def Obligations.WarmRestartKeepsSettings : Prop :=
  ∀ (u : Nat) (s : State), s.powered = true → ∃ t, exec (.warmRestart u) s = .next t ∧
    t.pending = s.pending ∧ t.powered = true ∧ t.clock = s.clock ∧
    t.store = { s.store with storing := none } ∧ t.retained = s.retained ∧
    t.conv.queue = [] ∧ t.conv.request = ⟨0, 0, 100, 7000⟩ ∧ t.conv.granted = ⟨0, 0, 0, .p⟩ ∧ t.conv.dips = [] ∧
    (∀ k, (strOf t k).enabled = (strOf s k).enabled) ∧
    (∀ k, (strOf t k).state =
      if stringGated s k then .faulted else if !(strOf s k).enabled then .isolated
      else if s.lines.chainClosed then .offline else .faulted) ∧
    (∀ k, (t.therm.recs.get k).tRise = (s.therm.recs.get k).tRise) ∧
    (∀ m, (monitorOf t m).armed = (monitorOf s m).armed ∧ (monitorOf t m).level = (monitorOf s m).level ∧
      (monitorOf t m).count = (monitorOf s m).count) ∧
    t.mode.target = none ∧ t.mode.supEnabled = false ∧ t.mode.noticeDue = true ∧
    t.mode.owner = (if s.lines.key = .remotePos then .remote else .localOwner) ∧
    t.yaw.motion = .hold ∧ t.yaw.brake = .full ∧ t.link = { Link.atStart with breakOn := s.lines.lineAtBreak }

/-- POWER_FAILURE: the retained domain stays (R186), the lock is lost (R184), and after a store in flight the next cold start finds
the image failing its check and loads the defaults (R182, R183). The model's own choices in it: the state without power (log 5), the
check kept as a pass or a fail (log 8), and the content of the image, which is the old one until a store completes and so stays
whole, also where R182 speaks of new content under a check not yet written (log 47). -/
def Obligations.PowerFailureCutsOffTheStore : Prop :=
  ∀ s : State, ∃ t, exec .powerFailure s = .next t ∧
    t.pending = s.pending ∧ t.powered = false ∧ t.lines = s.lines ∧ t.retained = s.retained ∧
    t.store.image = s.store.image ∧ t.store.lock = false ∧ t.store.storing = none ∧
    t.store.imageCheck = (s.store.imageCheck && s.store.storing.isNone) ∧
    ∀ u, ∃ r, exec (.coldStart u) t = .next r ∧
      (s.store.storing.isSome = true →
        r.store.working = Settings.defaults ∧ r.store.imageValid = false ∧ isActive r .settingsDefault 1 = true)

/-! ## Requests -/

/-- The reads and Ping are answered OK in the event of their arrival, whoever owns the part, with the content their chapter
gives as held when the reply is built (its places, widths, numbers and continuation index by logs 9, 12, 13 and 45), and change
nothing but the port's flags (the seen flags by R173, log 50); a GetStatus shows the change marks as log 48 sets them, and one that
reports no overrun leaves every mark clear (R148). -/
def Obligations.ReadsAnswerAndChangeNothing : Prop :=
  ∀ (s : State) (tag : Byte), PortReady s → tag ≠ 0 →
    (∀ body : List Byte, body.length ≤ 32 → ∃ t, exec (.ping tag body) s = .next t ∧ Quiet (replied (served s)) t ∧
      Answered s t 0x81 tag .ok (u16 s.link.badFrames ++ u16 s.link.overruns ++ body)) ∧
    (∀ body : List Byte, body.length > 32 → ∃ t, exec (.ping tag body) s = .next t ∧ Quiet (replied (served s)) t ∧
      Answered s t 0x81 tag .badLength []) ∧
    (∃ t, exec (.identify tag []) s = .next t ∧ Quiet (replied (served s)) t ∧
      Answered s t 0x82 tag .ok (identifyBody s)) ∧
    (∃ t, exec (.getStatus tag []) s = .next t ∧ Quiet (replied (served s)) t ∧
      Answered s t 0x83 tag .ok (statusBody (updateMarks (served s))) ∧
      (s.link.overrunSeen = false → ∀ m ∈ t.mode.marks, m = false)) ∧
    (∃ t, exec (.getConverter tag []) s = .next t ∧ Quiet (replied (served s)) t ∧
      Answered s t 0xA2 tag .ok (converterBody s)) ∧
    (∃ t, exec (.getGrid tag []) s = .next t ∧ Quiet (replied (served s)) t ∧ Answered s t 0xA5 tag .ok (gridBody s)) ∧
    (∃ t, exec (.getCooling tag []) s = .next t ∧ Quiet (replied (served s)) t ∧
      Answered s t 0xB1 tag .ok (coolingBody s)) ∧
    (∃ t, exec (.getBudget tag []) s = .next t ∧ Quiet (replied (served s)) t ∧
      Answered s t 0xC1 tag .ok (budgetBody s)) ∧
    (∃ t, exec (.getYaw tag []) s = .next t ∧ Quiet (replied (served s)) t ∧ Answered s t 0xD4 tag .ok (yawBody s)) ∧
    (∀ start filter : Byte, start.toNat ≤ 78 → filter.toNat ≤ 1 →
      ∃ t, exec (.getFaults tag [start, filter]) s = .next t ∧ Quiet (replied (served s)) t ∧
        Answered s t 0xE0 tag .ok (faultsBody [start, filter] (served s))) ∧
    (∀ slot : Byte, slot.toNat ≤ 8 → ∃ t, exec (.getSnapshot tag [slot]) s = .next t ∧ Quiet (replied (served s)) t ∧
      Answered s t 0xE3 tag .ok (snapshotBody [slot] s)) ∧
    (∀ i : SettingId, ∃ t, exec (.getSetting tag (u16 i.code)) s = .next t ∧ Quiet (replied (served s)) t ∧
      Answered s t 0xF0 tag .ok (settingBody (u16 i.code) s))

/-- The port's own checks: a KIND outside the table is answered BAD_KIND, then a length that does not fit BAD_LENGTH, then a
TAG of 0 BAD_ARG; such a request reaches no block (R171). -/
def Obligations.PortRefusesBeforeTheBlocks : Prop :=
  ∀ (s : State) (tag : Byte) (body : List Byte), PortReady s →
    (∀ kind : Byte, Kind.ofByte kind = none → ∃ t, exec (.unknownKind kind tag body) s = .next t ∧
      Answered s t (if kind.toNat ≥ 0x80 then 0xFF else kind + 0x80) tag .badKind [] ∧ Quiet (replied (served s)) t) ∧
    (∀ k : Kind, k.fits body = false →
      Answered s (request ⟨k.code, tag, body⟩ s) (k.code + 0x80) tag .badLength [] ∧
      Quiet (replied (served s)) (request ⟨k.code, tag, body⟩ s)) ∧
    (∀ k : Kind, k.fits body = true →
      Answered s (request ⟨k.code, 0, body⟩ s) (k.code + 0x80) 0 .badArg [] ∧
      Quiet (replied (served s)) (request ⟨k.code, 0, body⟩ s))

/-- The requests that only the host may make, and all others (R144). -/
def Obligations.OtherOwnersAreRefused : Prop :=
  ∀ (k : Kind) (body : List Byte) (s : State), s.mode.owner ≠ .remote →
    (k ∈ [.restart, .setMode, .setPower, .setStringEnable, .setRideThrough, .armGridMonitor, .setCooling,
        .setAuxReserves, .setHoist, .setYawPolicy, .yawCommand, .setDriveSlots, .setNoDwellWindow, .setTwistReference,
        .ackFault, .setFaultClass, .clearSnapshot, .clearCounts, .setSetting, .storeSettings, .lockSettings,
        .setBatteryEnergy] →
      serve k body s = (.notOwner, s) ∧
      ∀ tag : Byte, PortReady s → tag ≠ 0 → k.fits body = true →
        (∃ content, Answered s (request ⟨k.code, tag, body⟩ s) (k.code + 0x80) tag .notOwner content) ∧
        Quiet (replied (served s)) (request ⟨k.code, tag, body⟩ s)) ∧
    (k ∈ [.ping, .identify, .getStatus, .setTime, .enableSupervision, .claimControl, .getConverter, .getGrid,
        .getCooling, .getBudget, .getYaw, .getFaults, .getSnapshot, .getSetting] →
      (serve k body s).1 ≠ .notOwner)

/-- SetTime sets the clock unless the value is all ones, and replies with the clock before and after, and no timer moves
with it (R185); EnableSupervision clamps the interval into 1 to 60 s, sets the enabled mark and loads the silence timer (R146);
ClaimControl makes a Pending-Remote owner Remote, and is refused in any other (R143). Their refusals carry the head alone (log 14). -/
def Obligations.TimeSupervisionAndOwnership : Prop :=
  ∀ (s : State) (tag : Byte), PortReady s → tag ≠ 0 →
    (∀ v : BitVec 32,
      (v ≠ 0xFFFFFFFF#32 → ∃ t, exec (.setTime tag (quad v)) s = .next t ∧ t.clock = v.toNat ∧
        Answered s t 0x84 tag .ok (u32 s.clock ++ quad v) ∧ Quiet (replied { served s with clock := v.toNat }) t) ∧
      (v = 0xFFFFFFFF#32 → ∃ t, exec (.setTime tag (quad v)) s = .next t ∧ t.clock = s.clock ∧
        Answered s t 0x84 tag .badArg [] ∧ Quiet (replied (served s)) t)) ∧
    (∀ n : Byte, ∃ t, exec (.enableSupervision tag [n]) s = .next t ∧
      t.mode.supEnabled = true ∧ t.mode.supInterval = max 1 (min n.toNat 60) ∧
      t.mode.supTimer = some ⟨s.clock, max 1 (min n.toNat 60) * 1000⟩ ∧
      t.mode.supCount = (if s.mode.supEnabled then 0 else s.mode.supCount) ∧
      t.mode.current = s.mode.current ∧ t.mode.target = s.mode.target ∧ t.mode.owner = s.mode.owner ∧
      t.conv = s.conv ∧ t.grid = s.grid ∧ t.cool = s.cool ∧ t.aux = s.aux ∧ t.yaw = s.yaw ∧ t.store = s.store ∧
      Answered s t 0x86 tag (if 1 ≤ n.toNat ∧ n.toNat ≤ 60 then .ok else .okClamped) []) ∧
    (s.mode.owner = .pendingRemote → ∃ t, exec (.claimControl tag []) s = .next t ∧ t.mode.owner = .remote ∧
      Answered s t 0x91 tag .ok [] ∧
      Beyond (replied { served s with mode := { (served s).mode with owner := .remote } }) t) ∧
    (s.mode.owner ≠ .pendingRemote → ∃ t, exec (.claimControl tag []) s = .next t ∧ t.mode.owner = s.mode.owner ∧
      Answered s t 0x91 tag .refusedState [] ∧ Quiet (replied (served s)) t)

/-- SetPower replaces the power request with its four values, each clamped into its range (R15); SetStringEnable writes the
enabled field, and the Isolated-on-end mark of a string that is stopping, stopped by a trip or about to stop, and other strings
keep theirs; turned off, a string that is Ready, Precharging or Offline becomes Isolated and one that runs becomes Stopping, turned
on, an Isolated one becomes Offline, and one that is Offline joins the precharge queue where R7 lets it, all before the reactions of
the event (R14, R7). On as byte 1 is the reading of log 13, active power and ramps read unsigned that of log 32. -/
def Obligations.ConverterRequestsAct : Prop :=
  ∀ (s : State) (tag : Byte), HostReady s → tag ≠ 0 →
    (∀ p q a b : BitVec 16, ∃ t, exec (.setPower tag (pair p ++ pair q ++ pair a ++ pair b)) s = .next t ∧
      t.conv.request = ⟨max 0 (min (p.toNat : Int) 15000), max (-7000) (min q.toInt 7000),
        max 1 (min a.toNat 1500), max 1 (min b.toNat 7000)⟩ ∧
      Answered s t 0xA0 tag
        (if p.toNat ≤ 15000 ∧ -7000 ≤ q.toInt ∧ q.toInt ≤ 7000 ∧ 1 ≤ a.toNat ∧ a.toNat ≤ 1500 ∧
            1 ≤ b.toNat ∧ b.toNat ≤ 7000 then .ok else .okClamped) [] ∧
      Quiet (replied { served s with conv := { s.conv with request := t.conv.request } }) t) ∧
    (∀ (k : StringId) (on : Bool), ∃ t, exec (.setStringEnable tag (u8 k.num ++ u8 (bit on))) s = .next t ∧
      Answered s t 0xA1 tag .ok [] ∧ (strOf t k).enabled = on ∧
      Beyond (replied (modStr k (fun r => { r with
        enabled := on
        isolateOnEnd :=
          match r.state with
          | .stopping | .faulted => !on
          | .running | .derated => r.isolateOnEnd || !on
          | .offline | .precharging | .ready | .isolated => r.isolateOnEnd }) (served s))) t ∧
      ∃ r, serve .setStringEnable (u8 k.num ++ u8 (bit on)) (served s) = (.ok, settle r) ∧
        (strOf r k).state = (match on, (strOf s k).state with
          | false, .ready | false, .precharging | false, .offline => .isolated
          | false, .running | false, .derated => .stopping
          | true, .isolated => .offline
          | _, st => st) ∧
        (on = false → (strOf s k).state = .ready ∨ (strOf s k).state = .precharging →
          (strOf r k).out.contactorClosed = false ∧ (strOf r k).precharge = none) ∧
        (on = false → (strOf s k).state = .running ∨ (strOf s k).state = .derated →
          (strOf r k).blockedStop = some false) ∧
        (∀ j, j ≠ k → strOf r j = strOf s j) ∧
        r.conv.queue = (match on, (strOf s k).state with
          | false, .offline => s.conv.queue.filter (· ≠ k)
          | true, .offline | true, .isolated =>
            if k ∉ s.conv.queue ∧ (s.mode.current = .idle ∨ s.mode.current = .generating) ∧
                s.mode.target ≠ some .parked ∧ s.mode.target ≠ some .storm ∧ (loopOf s k.loop).state ≠ .failed
              then s.conv.queue ++ [k] else s.conv.queue
          | _, _ => s.conv.queue))

/-- SetRideThrough, SetYawPolicy, SetNoDwellWindow and SetFaultClass, where nothing forbids them, write the working settings
and nothing else but, for a changed class, pending flags (R36, R120, R115, R163). Numbers that cannot be negative are read unsigned
(log 32), and a vane of 0 is A and of 1 is B (log 13). -/
def Obligations.SettingsRequestsWriteTheWorkingSettings : Prop :=
  ∀ (s : State) (tag : Byte), HostReady s → tag ≠ 0 → s.store.storing = none →
    (∀ body, Kind.setRideThrough.fits body = true → 2 ≤ natAt body 0 → natAt body 0 ≤ 6 → s.store.lock = false →
      s.grid.state ≠ .dip → curveRises (pointsOf body (natAt body 0)) = true →
      ∃ t, exec (.setRideThrough tag body) s = .next t ∧
        Answered s t 0xA3 tag (clampedIf (pointsClamped body (natAt body 0))) [] ∧
        Quiet (replied (modWorking (fun w => { w with curve := pointsOf body (natAt body 0) }) (served s))) t) ∧
    (∀ (long short : BitVec 16) (stop vane : Byte), vane.toNat ≤ 1 →
      max 5 (min stop.toNat 200) < max 50 (min short.toNat 900) → max 5 (min stop.toNat 200) < max 30 (min long.toNat 600) →
      ∃ t, exec (.setYawPolicy tag (pair long ++ pair short ++ [stop, vane])) s = .next t ∧
        Answered s t 0xD0 tag (if 30 ≤ long.toNat ∧ long.toNat ≤ 600 ∧ 50 ≤ short.toNat ∧ short.toNat ≤ 900 ∧
          5 ≤ stop.toNat ∧ stop.toNat ≤ 200 then .ok else .okClamped) [] ∧
        Quiet (replied (modWorking (fun w => { w with
          startLong := max 30 (min long.toNat 600), startShort := max 50 (min short.toNat 900)
          stop := max 5 (min stop.toNat 200)
          primaryVane := if vane.toNat = 0 then .a else .b }) (served s))) t) ∧
    (∀ (n : Byte) (base limit : BitVec 16), 1 ≤ n.toNat → n.toNat ≤ 4 → base.toInt.natAbs ≤ 10800 →
      limit.toInt.natAbs ≤ 10800 → s.store.lock = false → windowConflicts s n.toNat ⟨base.toInt, limit.toInt⟩ = false →
      ∃ t, exec (.setNoDwellWindow tag (n :: pair base ++ pair limit)) s = .next t ∧
        Answered s t 0xD3 tag .ok [] ∧
        Quiet (replied (modWorking (fun w => { w with
          windows := w.windows.set (n.toNat - 1) ⟨base.toInt, limit.toInt⟩ }) (served s))) t) ∧
    (∀ (c : FaultCode) (cls : FaultClass), cls ∈ c.permitted → s.store.lock = false → cls ≠ classOf s c →
      ∃ t, exec (.setFaultClass tag (u8 c.num ++ u8 cls.code)) s = .next t ∧ Answered s t 0xE2 tag .ok [] ∧
        Quiet (replied (modWorking (fun w => { w with classes := w.classes.set (c.num - 1) cls }) (served s))) t ∧
        (cls = .record → ∀ i, codeOfRow i = c → i < 79 → (rowAt t i).pending = false))

/-- ArmGridMonitor writes the fields of one monitor, clears its run and judges the latest u for beyond, in a grid state of
Normal or Lost, with M3's over-since sample and GRID_OV following its mark; it is BUSY in Dip and Recovering, and CONFLICT where the
direction is not the monitor's or M1 would be disarmed. Every reply carries the record as it then stands and the beyond-at-arm flag,
which is no where the request is refused (R30; the directions Falling 0 and Rising 1 by log 13, a level with its top bit set read
unsigned by log 32, the content of a refusal by log 14, the width of its last time by log 12). -/
def Obligations.ArmGridMonitorWritesOneMonitor : Prop :=
  ∀ (s : State) (tag : Byte) (m : MonitorId) (arm : Bool) (level : BitVec 16) (n : Byte), HostReady s → tag ≠ 0 →
    n.toNat ≠ 1 → n.toNat ≤ 8 →
    let record (t : State) (flagged : Bool) : List Byte :=
      flag (monitorOf t m).armed ++ u16 (monitorOf t m).level ++ u8 (if m = .m3 then 1 else 0) ++ u8 (monitorOf t m).count ++
      u8 20 ++ flag (monitorOf t m).beyond ++ u8 (monitorOf t m).run ++
      opt32 (if m = .m3 then t.grid.overSince.map fun x => (t.grid.sampleNo - x) * 1 else none) ++ flag flagged
    ((s.grid.state = .normal ∨ s.grid.state = .lost) → (m = .m1 → arm = true) →
      ∃ t, exec (.armGridMonitor tag (u8 m.num ++ u8 (bit arm) ++ pair level ++ u8 (if m = .m3 then 1 else 0) ++ [n])) s =
          .next t ∧
        monitorOf t m = { armed := arm, level := min level.toNat 1500, count := n.toNat, run := 0
                          beyond := arm && (if m = .m3 then decide (s.grid.u > min level.toNat 1500)
                                            else decide (s.grid.u < min level.toNat 1500)) } ∧
        (∀ m', m' ≠ m → monitorOf t m' = monitorOf s m') ∧
        (m = .m3 → t.grid.overSince = (if (monitorOf t m).beyond then
          (if s.grid.m3.beyond then s.grid.overSince else some s.grid.sampleNo) else none)) ∧
        (m ≠ .m3 → t.grid.overSince = s.grid.overSince) ∧
        (m = .m3 → (monitorOf t m).beyond = false → isActive t .gridOv 1 = false) ∧
        t.grid.state = s.grid.state ∧ t.grid.u = s.grid.u ∧ t.conv = s.conv ∧ t.aux = s.aux ∧
        t.mode.current = s.mode.current ∧
        Answered s t 0xA4 tag (clampedIf (level.toNat > 1500)) (record t (monitorOf t m).beyond)) ∧
    (∀ direction : Byte, direction.toNat ≤ 1 → (s.grid.state = .dip ∨ s.grid.state = .recovering) →
      ∃ t, exec (.armGridMonitor tag (u8 m.num ++ u8 (bit arm) ++ pair level ++ [direction, n])) s = .next t ∧
        Answered s t 0xA4 tag .busy (record s false) ∧ Quiet (replied (served s)) t) ∧
    (∀ direction : Byte, direction.toNat ≤ 1 → (s.grid.state = .normal ∨ s.grid.state = .lost) →
      (direction.toNat ≠ (if m = .m3 then 1 else 0) ∨ (m = .m1 ∧ arm = false)) →
      ∃ t, exec (.armGridMonitor tag (u8 m.num ++ u8 (bit arm) ++ pair level ++ [direction, n])) s = .next t ∧
        Answered s t 0xA4 tag .conflict (record s false) ∧ Quiet (replied (served s)) t)

/-- AckFault replies with the number of rows it changes; before the reactions of the event a named Latched row becomes Clear
and loses the first-fault mark, a named Active one is marked acknowledged, and every other row stays; after them the same holds of
the rows of the codes that no reaction raises (R155); ClearSnapshot frees the slots it names and detaches
them from their rows (R161); ClearCounts resets the named rows that are Clear (R165). -/
def Obligations.FaultTableRequestsAct : Prop :=
  ∀ (s : State) (tag n : Byte), HostReady s → tag ≠ 0 →
    ((n.toNat ≤ 78 ∨ n.toNat = 255) →
      ∃ t, exec (.ackFault tag [n]) s = .next t ∧ Answered s t 0xE1 tag .ok (u8 (ackCount [n] (served s))) ∧
        (∀ i, reactiveRow i = false → i ≠ 74 → i ≠ 75 → (n.toNat = 255 ∨ i = n.toNat) →
          (rowAt t i).state = (if (rowAt s i).state = .latched then .clear else (rowAt s i).state) ∧
          ((rowAt s i).state = .active → (rowAt t i).ack = true)) ∧
        (∀ i, reactiveRow i = false → i ≠ 74 → i ≠ 75 → n.toNat ≠ 255 → i ≠ n.toNat →
          { rowAt t i with pending := false } = { rowAt s i with pending := false }) ∧
        t.store = s.store ∧ t.grid = s.grid ∧ t.therm = s.therm ∧ t.retained = s.retained ∧
        ∃ r, serve .ackFault [n] (served s) = (.ok, settle r) ∧
          ∀ i, rowAt r i = (if n.toNat = 255 ∨ i = n.toNat then
            match (rowAt (served s) i).state with
            | .latched => { rowAt (served s) i with
                state := .clear, firstMark := false
                pending := (rowAt (served s) i).pending || decide (classOf s (codeOfRow i) ≠ .record) }
            | .active => { rowAt (served s) i with ack := true }
            | .clear => rowAt (served s) i
            else rowAt (served s) i)) ∧
    (n.toNat ≤ 8 → Sized s → ∃ t, exec (.clearSnapshot tag [n]) s = .next t ∧
      (∃ content, Answered s t 0xE4 tag .ok content) ∧
      (∀ k, 1 ≤ k → k ≤ 8 → (n = 0 ∨ k = n.toNat) →
        t.faults.slots.getD (k - 1) none = none ∧ k ∉ t.faults.capture ∧ ∀ i, (rowAt t i).slot ≠ some k) ∧
      (∀ k, 1 ≤ k → k ≤ 8 → n ≠ 0 → k ≠ n.toNat →
        t.faults.slots.getD (k - 1) none = s.faults.slots.getD (k - 1) none) ∧
      t.conv = s.conv ∧ t.aux = s.aux ∧ t.yaw = s.yaw ∧ t.store = s.store) ∧
    ((n.toNat ≤ 78 ∨ n.toNat = 255) → ∃ t, exec (.clearCounts tag [n]) s = .next t ∧
      (∃ content, Answered s t 0xE5 tag .ok content) ∧
      (∀ i, i ≠ 74 → i ≠ 75 → (n.toNat = 255 ∨ i = n.toNat) → (rowAt s i).state = .clear →
        (rowAt t i).count = 0 ∧ (rowAt t i).firstTime = none ∧ (rowAt t i).lost = false) ∧
      (∀ i, i ≠ 74 → i ≠ 75 → ((rowAt s i).state ≠ .clear ∨ (n.toNat ≠ 255 ∧ i ≠ n.toNat)) →
        { rowAt t i with pending := false } = { rowAt s i with pending := false }) ∧
      t.conv = s.conv ∧ t.aux = s.aux ∧ t.yaw = s.yaw ∧ t.store = s.store)

/-- StoreSettings begins the copy with 200 ms to go (R182), LockSettings sets the lock (R184), and the store's completion makes
its copy the image, Valid, and clears SETTINGS_DEFAULT (R182). The model's own choices in it: from the acceptance to the completion
the image and its state stay as they were and the copy is kept aside, to become the image at the completion, where R182 fixes only
what is copied and that the check comes last (log 47); and the check is kept as a pass or a fail (log 8). -/
def Obligations.StoreAndLockAct : Prop :=
  (∀ (s : State) (tag : Byte), HostReady s → tag ≠ 0 →
    (s.store.storing = none → ∃ t, exec (.storeSettings tag []) s = .next t ∧ Answered s t 0xF2 tag .ok [] ∧
      t.store = { s.store with storing := some ⟨s.store.working, ⟨s.clock, 200⟩⟩ } ∧
      Quiet (replied { served s with store := t.store }) t) ∧
    (∃ t, exec (.lockSettings tag []) s = .next t ∧ Answered s t 0xF3 tag .ok [] ∧
      t.store = { s.store with lock := true } ∧ Quiet (replied { served s with store := t.store }) t)) ∧
  (∀ s : State, s.powered = true → ∀ f, s.store.storing = some f →
    ∃ t, exec .storeCompletion s = .next t ∧
      t.store = { s.store with image := f.copy, imageCheck := true, imageValid := true, storing := none } ∧
      isActive t .settingsDefault 1 = false ∧ Quiet (clearFault .settingsDefault 1 { s with store := t.store }) t)

/-- Restart is refused to any other owner and while a store is in flight; else its OK is queued, no further request is served,
and the warm restart begins when the reply has left the line, or at a link break before that (R149). The voltage that
such a restart's start sample reads rests on log 30, the empty contents of the refusals on log 14. -/
def Obligations.RestartFollowsItsReply : Prop :=
  (∀ (s : State) (tag : Byte), PortReady s → tag ≠ 0 →
    (s.mode.owner ≠ .remote → ∃ t, exec (.restart tag []) s = .next t ∧ Answered s t 0x85 tag .notOwner [] ∧
      Quiet (replied (served s)) t) ∧
    (s.mode.owner = .remote → s.store.storing.isSome = true → ∃ t, exec (.restart tag []) s = .next t ∧
      Answered s t 0x85 tag .busy [] ∧ Quiet (replied (served s)) t) ∧
    (s.mode.owner = .remote → s.store.storing = none → ∃ t, exec (.restart tag []) s = .next t ∧
      t.link.restartQueued = true ∧ t.store = s.store ∧ t.conv = s.conv ∧
      ∃ flags, t.link.outbound = s.link.outbound ++ [⟨⟨0x85, tag, u8 0 ++ u8 flags⟩, false, true⟩])) ∧
  (∀ s : State, s.powered = true → s.link.restartQueued = true →
    (∀ f : Frame, (request f s).link.restartQueued = true ∧ (request f s).link.outbound = s.link.outbound ∧
      (request f s).store = s.store ∧ (request f s).conv = s.conv ∧ (request f s).grid = s.grid ∧
      (request f s).cool = s.cool ∧ (request f s).aux = s.aux ∧ (request f s).yaw = s.yaw ∧
      (request f s).mode.current = s.mode.current ∧ (request f s).mode.target = s.mode.target) ∧
    exec .linkBreak s = exec (.warmRestart s.lines.gridVolts) (clearFault .linkOverrun 1 { s with
      link := { Link.atStart with breakOn := true }, lines := { s.lines with lineAtBreak := true }
      mode := { s.mode with noticeDue := true } })) ∧
  (∀ s : State, s.powered = true → ∀ f rest, s.link.outbound = f :: rest → f.restart = true →
    exec .frameSent s = exec (.warmRestart s.lines.gridVolts) { s with link := { s.link with outbound := rest } })

/-- SetMode with no target in flight takes the transitions of R138: Storm from Parked, Parked from Storm and Generating from
Idle at once; toward Idle or Generating from Parked through Idle while a string can join the precharge queue; toward Parked or
Storm from Idle and Generating with the target set, or reached in the same event. A Parked or Storm replaces another target in
flight; the mode or target that stands is answered OK with no change; Idle and Generating are BUSY while a target is in flight;
Lockout and Isolated, any mode from those two, and a pair that is not listed or whose preconditions fail are refused with
REFUSED_STATE, a number above 5 with BAD_ARG, and every reply carries the mode record (R137, R138; its widths by log 12). -/
def Obligations.SetModeTakesTheRequestedPair : Prop :=
  (∀ (s : State) (tag : Byte), HostReady s → tag ≠ 0 → s.mode.target = none →
    (s.mode.current = .parked → ∃ t, exec (.setMode tag [4]) s = .next t ∧ Answered s t 0x90 tag .ok (modeBody t) ∧
      t.mode.current = .storm ∧ t.mode.target = none ∧ t.mode.previous = .parked ∧ t.mode.entryTime = s.clock ∧
      t.mode.cause = .requested ∧ Beyond (replied (served s)) t) ∧
    (s.mode.current = .storm → ∃ t, exec (.setMode tag [1]) s = .next t ∧ Answered s t 0x90 tag .ok (modeBody t) ∧
      t.mode.current = .parked ∧ t.mode.target = none ∧ t.mode.previous = .storm ∧ t.mode.entryTime = s.clock ∧
      t.mode.cause = .requested ∧ Beyond (replied (served s)) t) ∧
    (s.mode.current = .idle → mayGenerate s = true → ∃ t, exec (.setMode tag [3]) s = .next t ∧
      Answered s t 0x90 tag .ok (modeBody t) ∧ t.mode.current = .generating ∧ t.mode.target = none ∧
      t.mode.previous = .idle ∧ t.mode.entryTime = s.clock ∧ t.mode.cause = .requested ∧
      Beyond (replied (served s)) t) ∧
    (∀ asked ∈ [Mode.idle, .generating], s.mode.current = .parked → nacelleFree s = true →
      (∃ k, (strOf s k).state = .offline ∧ (strOf s k).enabled = true ∧ (loopOf s k.loop).state ≠ .failed) →
      ∃ t, exec (.setMode tag (u8 asked.num)) s = .next t ∧ Answered s t 0x90 tag .ok (modeBody t) ∧
        t.mode.current = .idle ∧ t.mode.target = some asked ∧ t.mode.cause = .requested ∧
        t.mode.idleLimit = some ⟨s.clock, 120000⟩ ∧ Beyond (replied (served s)) t) ∧
    (∀ asked ∈ [Mode.parked, .storm], (s.mode.current = .idle ∨ s.mode.current = .generating) →
      ∃ t, exec (.setMode tag (u8 asked.num)) s = .next t ∧ Answered s t 0x90 tag .ok (modeBody t) ∧
        t.mode.cause = .requested ∧ t.mode.idleLimit = none ∧ t.conv.queue = [] ∧
        ((t.mode.current = s.mode.current ∧ t.mode.target = some asked) ∨
          (t.mode.current = asked ∧ t.mode.target = none)) ∧ Beyond (replied (served s)) t)) ∧
  (∀ (s : State) (tag : Byte), HostReady s → tag ≠ 0 →
    (∀ asked ∈ [Mode.parked, .storm], (s.mode.current = .idle ∨ s.mode.current = .generating) →
      s.mode.target.isSome = true → s.mode.target ≠ some asked →
      ∃ t, exec (.setMode tag (u8 asked.num)) s = .next t ∧ Answered s t 0x90 tag .ok (modeBody t) ∧
        t.mode.cause = .requested ∧ t.mode.idleLimit = none ∧ t.conv.queue = [] ∧ NoStringRuns t ∧
        ((t.mode.current = s.mode.current ∧ t.mode.target = some asked) ∨
          (t.mode.current = asked ∧ t.mode.target = none)) ∧ Beyond (replied (served s)) t) ∧
    (∀ asked ∈ [Mode.parked, .idle, .generating, .storm], s.mode.current ≠ .lockout → s.mode.current ≠ .isolated →
      (asked = .idle ∨ asked = .generating → s.mode.target = none) → (asked = s.mode.current ∨ s.mode.target = some asked) →
      ∃ t, exec (.setMode tag (u8 asked.num)) s = .next t ∧ Answered s t 0x90 tag .ok (modeBody s) ∧
        Quiet (replied (served s)) t) ∧
    (∀ asked ∈ [Mode.idle, .generating], s.mode.target.isSome = true →
      ∃ t, exec (.setMode tag (u8 asked.num)) s = .next t ∧ Answered s t 0x90 tag .busy (modeBody s) ∧
        Quiet (replied (served s)) t) ∧
    (∀ asked : Mode,
      (asked = .lockout ∨ asked = .isolated ∨
        ((s.mode.current = .lockout ∨ s.mode.current = .isolated) ∧
          (asked = .parked ∨ asked = .storm ∨ s.mode.target = none)) ∨
        (s.mode.target = none ∧
          ((s.mode.current = .parked ∧ (asked = .idle ∨ asked = .generating) ∧ nacelleFree s = false) ∨
            (s.mode.current = .idle ∧ asked = .generating ∧ mayGenerate s = false) ∨
            (s.mode.current = .generating ∧ asked = .idle) ∨
            (s.mode.current = .storm ∧ (asked = .idle ∨ asked = .generating))))) →
      ∃ t, exec (.setMode tag (u8 asked.num)) s = .next t ∧ Answered s t 0x90 tag .refusedState (modeBody s) ∧
        Quiet (replied (served s)) t) ∧
    (∀ n : Byte, 5 < n.toNat → ∃ t, exec (.setMode tag [n]) s = .next t ∧ Answered s t 0x90 tag .badArg (modeBody s) ∧
      Quiet (replied (served s)) t))

/-- SetCooling writes the duty pump and the setpoint of a liquid loop, clamped; with the return flag it returns the failed
channels of its loop (R78). Pump A as 0 and B as 1 are the reading of log 13, a setpoint with its top bit set read unsigned that of
log 32, and the OK for L3 that of log 40. -/
def Obligations.SetCoolingWritesTheLoopSettings : Prop :=
  ∀ (s : State) (tag : Byte) (duty : Byte) (setpoint : BitVec 16), HostReady s → tag ≠ 0 → s.store.storing = none →
    (duty.toNat ≤ 1 → ∀ l : Liquid,
      (∃ t, exec (.setCooling tag (u8 l.num ++ [duty] ++ pair setpoint ++ [0])) s = .next t ∧
        Answered s t 0xB0 tag (if 300 ≤ setpoint.toNat ∧ setpoint.toNat ≤ 550 then .ok else .okClamped) [] ∧
        Quiet (replied (modWorking (writeLoopSettings l (if duty.toNat = 0 then .a else .b)
          (max 300 (min setpoint.toNat 550))) (served s))) t) ∧
      (∃ t, exec (.setCooling tag (u8 l.num ++ [duty] ++ pair setpoint ++ [1])) s = .next t ∧
        t.store = (modWorking (writeLoopSettings l (if duty.toNat = 0 then .a else .b)
          (max 300 (min setpoint.toNat 550))) s).store ∧
        (∀ c ∈ (loopOf t l).fans, c.failed = false) ∧ t.grid = s.grid ∧ t.therm = s.therm ∧
        t.retained = s.retained)) ∧
    (∃ t, exec (.setCooling tag [3, 0, 0, 0, 1]) s = .next t ∧ Answered s t 0xB0 tag .ok [] ∧
      (∀ c ∈ t.cool.l3.fans, c.failed = false) ∧ t.store = s.store ∧ t.grid = s.grid ∧ t.therm = s.therm)

/-- SetAuxReserves writes both reserves, each clamped to 50, where their sum is within 90, SetHoist submits or withdraws the hoist claim, SetBatteryEnergy writes the energy
where the source lets it (R95, R96, R97). On as byte 1 and off as 0 are the reading of log 13, an energy with its top bit set
read unsigned that of log 32. -/
def Obligations.BudgetRequestsAct : Prop :=
  ∀ (s : State) (tag : Byte), HostReady s → tag ≠ 0 →
    (∀ control brake : Byte, s.store.lock = false → s.store.storing = none →
      min control.toNat 50 + min brake.toNat 50 ≤ 90 →
      ∃ t, exec (.setAuxReserves tag [control, brake]) s = .next t ∧
        Answered s t 0xC0 tag (if control.toNat ≤ 50 ∧ brake.toNat ≤ 50 then .ok else .okClamped) [] ∧
        Beyond (replied (modWorking (fun w => { w with
          controlReserve := min control.toNat 50, brakeReserve := min brake.toNat 50 }) (served s))) t) ∧
    (∃ t, exec (.setHoist tag [0]) s = .next t ∧ t.aux.claims.hoist.submitted = false ∧
      Answered s t 0xC2 tag .ok (u8 t.aux.claims.hoist.grant ++ u16 t.aux.spare) ∧ t.store = s.store ∧ t.grid = s.grid ∧
      t.therm = s.therm ∧ t.retained = s.retained ∧ t.aux.source = s.aux.source) ∧
    (s.aux.claims.hoist.submitted = false → ∃ t, exec (.setHoist tag [1]) s = .next t ∧
      t.aux.claims.hoist.submitted = true ∧ t.aux.claims.hoist.time = some s.clock ∧
      Answered s t 0xC2 tag .ok (u8 t.aux.claims.hoist.grant ++ u16 t.aux.spare) ∧ t.store = s.store ∧ t.grid = s.grid ∧
      t.therm = s.therm ∧ t.retained = s.retained ∧ t.aux.source = s.aux.source) ∧
    (∀ e : BitVec 32, (s.aux.source = .grid ∨ min e.toNat 648000 ≤ s.retained.energy) →
      ∃ t, exec (.setBatteryEnergy tag (quad e)) s = .next t ∧
        Answered s t 0xF4 tag (clampedIf (e.toNat > 648000)) [] ∧
        t.retained = { s.retained with energy := min e.toNat 648000, energyCheck := true } ∧
        t.aux.lowMark = judgedMark s.aux.lowMark 129600 (min e.toNat 648000) ∧
        t.aux.criticalMark = judgedMark s.aux.criticalMark 64800 (min e.toNat 648000) ∧
        t.store = s.store ∧ t.grid = s.grid ∧ t.therm = s.therm)

/-- SetDriveSlots replaces the table and removes the failed marks of the channels it holds; SetTwistReference makes θ the
reference given, from the latest encoder reading, and clears TWIST_SENSOR (R113, R126). -/
def Obligations.DriveSlotsAndTwistReference : Prop :=
  ∀ (s : State) (tag : Byte), HostReady s → tag ≠ 0 →
    (∀ body, body.length = 8 → (∀ i, i < 8 → natAt body i ≤ 10) →
      distinctChannels ((slotsOf body).filterMap id) = true → s.store.lock = false → s.store.storing = none →
      s.yaw.motion = .hold →
      ∃ t, exec (.setDriveSlots tag body) s = .next t ∧ Answered s t 0xD2 tag .ok [] ∧
        t.store = { s.store with working := { s.store.working with slots := slotsOf body } } ∧
        (∀ c : Fin 10, c ∈ (slotsOf body).filterMap id →
          (channelAt t c).failed = false ∧ isActive t .yawDrive (c + 1) = false) ∧
        t.grid = s.grid ∧ t.therm = s.therm ∧ t.retained = s.retained) ∧
    (∀ a, s.yaw.encoder = some (.angle a) → yawIdle s = true →
      ∀ ref : BitVec 16, ref.toInt.natAbs ≤ 10800 → ref.toInt.natAbs ≤ s.store.working.hardLimit →
      ∃ t, exec (.setTwistReference tag (pair ref)) s = .next t ∧ Answered s t 0xD5 tag .ok [] ∧
        theta t = some ref.toInt ∧ t.retained.twist.last = a ∧ t.retained.twist.ref < 3600 ∧
        isActive t .twistSensor 1 = false ∧ t.retained.energy = s.retained.energy ∧ t.store = s.store ∧
        t.grid = s.grid ∧ t.therm = s.therm)

/-- SetSetting writes one single-value setting, clamped into its envelope, where no lock, store or conflict forbids it, and
no other setting; the reply is OK, or OK_CLAMPED where the value asked lies outside the envelope, with the value then in force
(R181). -/
def Obligations.SetSettingWritesOneSetting : Prop :=
  ∀ (s : State) (tag : Byte) (i : SettingId) (v : BitVec 32), HostReady s → tag ≠ 0 →
    (i = .primaryVane → v = 0 ∨ v = 1) → ¬(i.lockable = true ∧ s.store.lock = true) → s.store.storing = none →
    (s.store.working.write i (max i.envelope.1 (min v.toInt i.envelope.2))).conflicts = false →
    ∃ t, exec (.setSetting tag (u16 i.code ++ quad v)) s = .next t ∧
      t.store.working.read i = max i.envelope.1 (min v.toInt i.envelope.2) ∧
      (∀ j, j ≠ i → t.store.working.read j = s.store.working.read j) ∧
      t.store.image = s.store.image ∧ t.store.lock = s.store.lock ∧ t.store.working.slots = s.store.working.slots ∧
      t.store.working.curve = s.store.working.curve ∧ t.store.working.windows = s.store.working.windows ∧
      t.store.working.classes = s.store.working.classes ∧ t.grid = s.grid ∧ t.retained = s.retained ∧
      (i.envelope.1 ≤ v.toInt → v.toInt ≤ i.envelope.2 → Answered s t 0xF1 tag .ok (u16 i.code ++ quad v)) ∧
      (v.toInt < i.envelope.1 → Answered s t 0xF1 tag .okClamped (u16 i.code ++ i32 i.envelope.1)) ∧
      (i.envelope.2 < v.toInt → Answered s t 0xF1 tag .okClamped (u16 i.code ++ i32 i.envelope.2))

/-- The six YawCommands, taken from Hold with the claim withdrawn: the jogs, GoTo and Stop set the manual mark, Auto and
Untwist clear it, and an Untwist is due unless |θ| is 50 or less; no setting, no twist record and no row outside the reactions
changes (R118, R133). A target Storm in flight has a string still stopping, as R140 leaves it: with none, the event would reach Storm
and clear the mark. -/
def Obligations.YawCommandsSetTheManualMark : Prop :=
  ∀ (s : State) (tag : Byte) (rest : List Byte), HostReady s → tag ≠ 0 → rest.length = 2 →
    yawIdle s = true → s.yaw.mode ≠ .disabled → s.yaw.mode ≠ .storm → s.lines.chainClosed = true →
    (s.mode.target = some .storm → ∃ k, (strOf s k).state = .stopping) →
    ∀ x, theta s = some x →
    (barred s .cw = false → ∃ t, exec (.yawCommandJogCw tag rest) s = .next t ∧ Answered s t 0xD1 tag .ok [] ∧
      t.yaw.manualMark = true ∧ Beyond (replied (served s)) t) ∧
    (barred s .ccw = false → ∃ t, exec (.yawCommandJogCcw tag rest) s = .next t ∧ Answered s t 0xD1 tag .ok [] ∧
      t.yaw.manualMark = true ∧ Beyond (replied (served s)) t) ∧
    ((intAt rest 0).natAbs ≤ 10800 → targetInWindow s (intAt rest 0) = false →
      (intAt rest 0).natAbs ≤ s.store.working.hardLimit →
      (goToDir x (intAt rest 0)).any (barred s) = false →
      ∃ t, exec (.yawCommandGoto tag rest) s = .next t ∧ Answered s t 0xD1 tag .ok [] ∧
        t.yaw.manualMark = true ∧ Beyond (replied (served s)) t) ∧
    (∃ t, exec (.yawCommandStop tag rest) s = .next t ∧ Answered s t 0xD1 tag .ok [] ∧ t.yaw.manualMark = true ∧
      t.yaw.motion = .hold ∧ Beyond (replied (served s)) t) ∧
    (∃ t, exec (.yawCommandAuto tag rest) s = .next t ∧ Answered s t 0xD1 tag .ok [] ∧ t.yaw.manualMark = false ∧
      t.yaw.motion = .hold ∧ Beyond (replied (served s)) t) ∧
    (s.yaw.untwist.inFlight = false → ∃ t, exec (.yawCommandUntwist tag rest) s = .next t ∧
      Answered s t 0xD1 tag .ok [] ∧ t.yaw.manualMark = false ∧
      t.yaw.untwist.due = (if x.natAbs ≤ 50 then false else true) ∧ t.retained = s.retained ∧ t.store = s.store)

/-! ## The host line -/

/-- The last byte of a frame, 10 µs after the byte before it, is the arrival of its request (R168, R169, R170, log 3). Hunting,
a byte other than SYNC is dropped and a SYNC is held; an idle line of more than 40 µs discards a frame in progress of one byte and
counts one bad frame (R169). -/
def Obligations.BytesMakeRequests : Prop :=
  (∀ (s : State) (f : Frame) (start : Nat), s.powered = true → f.body.length ≤ 240 →
    s.link.held = (wireBytes f).dropLast.zipIdx.map (fun x => ⟨x.1, start + 10 * x.2⟩) →
    exec (.byteArrival ((wireBytes f).getLastD 0) (start + 10 * ((wireBytes f).length - 1))) s =
      .next (request f { s with link := { s.link with held := [] } })) ∧
  (∀ s : State, s.powered = true →
    (∀ (b : Byte) (time : Nat), s.link.held = [] → ∃ t, exec (.byteArrival b time) s = .next t ∧
      t.link.held = (if b = 0xA5 then [⟨b, time⟩] else []) ∧ t.link.inbound = s.link.inbound ∧
      t.link.badFrames = s.link.badFrames ∧
      Quiet { s with link := { s.link with held := if b = 0xA5 then [⟨b, time⟩] else [] } } t) ∧
    (∀ h : HeldByte, s.link.held = [h] → ∃ t, exec .frameGapTimeout s = .next t ∧
      t.link.held = [] ∧ t.link.badFrames = min 65535 (s.link.badFrames + 1) ∧ t.link.badSeen = true ∧
      Quiet { s with link := { s.link with
        held := [], badFrames := min 65535 (s.link.badFrames + 1), badSeen := true } } t))

/-- A frame that has left the line frees its slot (R174); the port takes an offered notice when it
has room: the ModeNotice clears its mark and count, a FaultNotice the pending flag of the head of
the pending order, and a ModeNotice that is due goes before it (R147, R162, R179); a link break empties both queues, the parser, the counters and the
flags, clears LINK_OVERRUN and makes the ModeNotice pending, and its end lets the port go on
(R178). -/
def Obligations.PortEventsAct : Prop :=
  ∀ s : State, s.powered = true →
    (∀ (f : OutFrame) (rest : List OutFrame), s.link.outbound = f :: rest → f.restart = false → s.link.inbound = [] →
      ∃ t, exec .frameSent s = .next t ∧
        (∃ notices, t.link.outbound = rest ++ notices ∧ ∀ n ∈ notices, n.notice = true) ∧
        Quiet { s with link := { s.link with outbound := rest } } t) ∧
    (mayTakeNotice s = true → s.mode.noticeDue = true → ∃ t, exec .takeModeNotice s = .next t ∧
      t.link.outbound[s.link.outbound.length]? = some ⟨modeNotice s, true, false⟩ ∧
      t.mode.noticeDue = false ∧ t.mode.changeCount = 0 ∧ Quiet s t) ∧
    (∀ i, pendingHead s = some i → mayTakeNotice s = true → s.mode.noticeDue = false →
      ∃ t, exec .takeFaultNotice s = .next t ∧
        t.link.outbound[s.link.outbound.length]? = some ⟨faultNotice s i, true, false⟩ ∧
        (rowAt t i).pending = false ∧ Quiet s t) ∧
    (mayTakeNotice s = true → s.mode.noticeDue = true → ∃ t, exec .takeFaultNotice s = .next t ∧
      t.link.outbound[s.link.outbound.length]? = some ⟨modeNotice s, true, false⟩ ∧
      t.mode.noticeDue = false ∧ t.mode.changeCount = 0 ∧ Quiet s t) ∧
    (s.link.restartQueued = false → ∃ t, exec .linkBreak s = .next t ∧
      t.link = { Link.atStart with breakOn := true } ∧ t.lines = { s.lines with lineAtBreak := true } ∧
      t.mode.noticeDue = true ∧
      Quiet (clearFault .linkOverrun 1 { s with link := t.link, lines := t.lines }) t) ∧
    (s.link.inbound = [] → ∃ t, exec .linkBreakEnd s = .next t ∧ t.link.breakOn = false ∧
      t.lines = { s.lines with lineAtBreak := false } ∧
      Quiet { s with link := { s.link with breakOn := false }, lines := t.lines } t)

/-! ## Converter supervisor -/

/-- A string report updates the measured fields of its string, counts the run of overcurrents, and sends the string to
Faulted on a module fault, an overvoltage or a third overcurrent, with its row Active (R2, R5); a Charging string whose report
shows 4,860 V or more and no fault closes its contactor and is Ready, before the reactions of the event (R9); the precharge timer
faults the string it runs for and raises its row (R9, R5). In every reaction the head of the queue begins its precharge where none is
under way and the grant is 25 kW, charging for 4 s where its loop flows and waiting for it where it does not, a Charging string whose
loop stops waits again, and the claim stands while the queue or a precharge does (R8, R10). -/
def Obligations.StringEventsTripStrings : Prop :=
  ∀ (s : State) (k : StringId), s.powered = true → Sized s →
    (∀ (i u : Nat) (bad : Bool), (strOf s k).state ≠ .isolated → (strOf s k).state ≠ .faulted →
      ∃ t, exec (.stringReport k i u bad) s = .next t ∧
        (strOf t k).iMeas = min i 600 ∧ (strOf t k).uDc = min u 8000 ∧ (strOf t k).silence = 0 ∧
        (strOf t k).overrange = (if i > 600 then min 3 ((strOf s k).overrange + 1) else 0) ∧
        (∀ j, j ≠ k → (strOf t j).outside = (strOf s j).outside) ∧
        (bad = true → (strOf t k).state = .faulted ∧ isActive t .strGate k.num = true) ∧
        (min u 8000 > 6210 → (strOf t k).state = .faulted ∧ isActive t .strDclinkOv k.num = true) ∧
        (i > 600 → (strOf s k).overrange ≥ 2 → (strOf t k).state = .faulted ∧ isActive t .strOc k.num = true) ∧
        t.grid = s.grid ∧ t.therm = s.therm ∧ t.store = s.store ∧ t.retained = s.retained ∧ t.lines = s.lines ∧
        t.clock = s.clock) ∧
    ((strOf s k).state = .precharging → (strOf s k).phase = some .charging → (strOf s k).precharge.isSome = true →
      (∀ j, j ≠ k → (strOf s j).state ≠ .precharging) →
      ∃ t, exec .prechargeTimeout s = .next t ∧ (strOf t k).state = .faulted ∧ isActive t .strPrecharge k.num = true ∧
        (∀ j, (strOf t j).outside = (strOf s j).outside) ∧ t.grid = s.grid ∧ t.therm = s.therm ∧ t.store = s.store ∧
        t.retained = s.retained) ∧
    (∀ i u : Nat, (strOf s k).state = .precharging → (strOf s k).phase = some .charging →
      (strOf s k).precharge.isSome = true → (i ≤ 600 ∨ (strOf s k).overrange < 2) → 4860 ≤ u → u ≤ 6210 →
      ∃ r, exec (.stringReport k i u false) s = .next (finish (settle r)) ∧ (strOf r k).state = .ready ∧
        (strOf r k).phase = none ∧ (strOf r k).precharge = none ∧ (strOf r k).out.prechargeOn = false ∧
        (strOf r k).out.contactorClosed = true ∧ ∀ j, j ≠ k → strOf r j = strOf s j) ∧
    (∀ rest, s.conv.queue = k :: rest → (∀ j, (strOf s j).state ≠ .precharging) → grantOf s .precharge = 25 →
      let t := followPrecharge s
      (strOf t k).state = .precharging ∧ t.conv.queue = rest ∧ submitted t .precharge = true ∧
      ((loopOf s k.loop).state.flowing = true → (strOf t k).phase = some .charging ∧
        (strOf t k).precharge = some ⟨s.clock, 4000⟩ ∧ (strOf t k).out.prechargeOn = true) ∧
      ((loopOf s k.loop).state.flowing = false → (strOf t k).phase = some .loopWait ∧ (strOf t k).precharge = none) ∧
      ∀ j, j ≠ k → strOf t j = strOf s j) ∧
    (s.conv.queue = [] → (∀ j, (strOf s j).state ≠ .precharging) →
      submitted (followPrecharge s) .precharge = false ∧ (followPrecharge s).conv.queue = [] ∧
      ∀ j, strOf (followPrecharge s) j = strOf s j) ∧
    ((strOf s k).state = .precharging → (strOf s k).phase = some .charging → (loopOf s k.loop).state.flowing = false →
      let t := followPrecharge s
      (strOf t k).state = .precharging ∧ (strOf t k).phase = some .loopWait ∧ (strOf t k).precharge = none ∧
      (strOf t k).out.prechargeOn = false ∧ submitted t .precharge = true) ∧
    ((strOf s k).state = .precharging →
      let t := abortPrecharge k s
      (strOf t k).state = .offline ∧ t.conv.queue = k :: s.conv.queue ∧ (strOf t k).precharge = none ∧
      (strOf t k).out.prechargeOn = false)

/-- At a share interval every string takes its current limit, silent strings count, and the granted record is zero outside
Generating and that of the sharing computation over the state its steps 1 to 5 leave in it (R3, R16 to R19). Before the reactions of
the event: a Faulted string with no Trip row held is released to Isolated or Offline, where it joins the queue if R7 lets it, and one
with a row held that no step clears stays (R6, R7); a blocked stop completes, a ramping one takes one ramp step off its share and
completes at zero, as Isolated, Ready or Offline (R11); in Generating a Ready string runs, and a running string is Derated below the
rated current (R12, R18). -/
def Obligations.ShareIntervalRewritesTheRecord : Prop :=
  ∀ s : State, s.powered = true → ∃ t, exec .shareInterval s = .next t ∧
    (∀ k, (strOf t k).iLim = limitOf s k) ∧
    (∀ k, (strOf s k).state ≠ .isolated → (strOf t k).silence =
      (if (strOf s k).reported then (strOf s k).silence else min 3 ((strOf s k).silence + 1))) ∧
    (∀ k, (strOf t k).reported = false) ∧
    (s.mode.current ≠ .generating → t.conv.granted = ⟨0, 0, 0, .p⟩) ∧
    (s.mode.current = .generating → t.conv.granted = grantedNow (beforeSharing (beginEvent s))) ∧
    t.conv.request = s.conv.request ∧ t.conv.dips = s.conv.dips ∧ t.grid = s.grid ∧ t.therm = s.therm ∧
    t.store = s.store ∧ t.retained = s.retained ∧
    ∃ r, t = finish (settle r) ∧
      (∀ k, (strOf s k).state = .faulted → stringGated s k = false → fallsSilent s k = false →
        (strOf r k).state = (if (strOf s k).isolateOnEnd then .isolated else .offline) ∧
        ((strOf s k).isolateOnEnd = true → (strOf r k).isolateOnEnd = false) ∧
        ((strOf s k).isolateOnEnd = false → (strOf s k).enabled = true →
          (s.mode.current = .idle ∨ s.mode.current = .generating) → s.mode.target ≠ some .parked →
          s.mode.target ≠ some .storm → (loopOf s k.loop).state ≠ .failed → k ∈ r.conv.queue)) ∧
      (∀ k, ∀ c ∈ stringTrips, c ≠ .strPrecharge → (strOf s k).state = .faulted → isHeld s c k.num = true →
        (strOf r k).state = .faulted) ∧
      (∀ k, (strOf s k).state = .stopping → fallsSilent s k = false →
        let left := if s.mode.current = .generating then (strOf s k).share - s.conv.request.rampP else 0
        let ready := (strOf s k).blockedStop = some false ∧ s.mode.current = .generating ∧ s.mode.target = none ∧
          (loopOf s k.loop).state.flowing = true
        let ended : StrState := if (strOf s k).isolateOnEnd then .isolated else if ready then .ready else .offline
        ((strOf s k).blockedStop = some true → (strOf r k).state = ended ∧ (strOf r k).out.contactorClosed = false) ∧
        ((strOf s k).blockedStop ≠ some true → (strOf r k).share = left ∧
          (strOf r k).p = scale (strOf s k).p left (strOf s k).share ∧
          (strOf r k).q = scale (strOf s k).q left (strOf s k).share ∧
          (left = 0 → (strOf r k).state = ended) ∧
          (left ≠ 0 → (strOf r k).state = .stopping ∧ (strOf r k).out.run = true))) ∧
      (∀ k, s.mode.current = .generating → fallsSilent s k = false →
        (strOf s k).state = .ready ∨ (strOf s k).state = .running ∨ (strOf s k).state = .derated →
        (strOf r k).state = (if limitOf s k < 480 then .derated else .running) ∧ (strOf r k).out.run = true) ∧
      (∀ k, s.mode.current ≠ .generating → fallsSilent s k = false → (strOf s k).state = .ready →
        (strOf r k).state = .ready)

/-- isqrt is the largest integer whose square does not exceed its argument; the granted apparent power never exceeds the
effective capacity, and the granted active power is never negative, where the requested and the granted active power are not
(R19, R21, R22); the shares of an apparent power within the total capacity add up to it, none exceeds its string's capacity, and
a string that is not eligible has none (R22). -/
def Obligations.GrantedPowerIsSharedWithinCapacity : Prop :=
  (∀ x : Nat, isqrt x * isqrt x ≤ x ∧ x < (isqrt x + 1) * (isqrt x + 1)) ∧
  (∀ s : State, 0 ≤ s.conv.request.p → 0 ≤ s.conv.granted.p →
    (grantedNow s).s ≤ capEff s ∧ 0 ≤ (grantedNow s).p ∧
    (grantedNow s).s = apparent (grantedNow s).p (grantedNow s).q) ∧
  (∀ (s : State) (total : Nat), total ≤ capTotal s →
    sumOver (sharesFor s total).get = total ∧ (∀ k, (sharesFor s total).get k ≤ capOf s k) ∧
    ∀ k, eligible s k = false → (sharesFor s total).get k = 0)

/-! ## Grid monitor -/

/-- A grid sample takes U and u (R26), and each armed monitor judges it: below beyond, a sample that counts toward beyond adds
one to its run, any other sets the run to 0, and the run that reaches what the filter needs sets beyond, with the crossing event;
beyond, the same toward return. For M3 the crossing sample becomes the over-since sample, and its return clears GRID_OV (R26 to R29). -/
def Obligations.GridSampleJudgesTheMonitors : Prop :=
  ∀ (s : State) (volts : Nat), s.powered = true → ∃ t, exec (.gridSample volts) s = .next t ∧
    t.grid.volts = min volts 5000 ∧ t.grid.u = min 1500 (min volts 5000 * 1000 / 3300) ∧ t.grid.sampleTime = s.clock ∧
    t.grid.sampleNo = s.grid.sampleNo + 1 ∧ t.lines = { s.lines with gridVolts := volts } ∧
    (∀ m, (monitorOf s m).armed = false → monitorOf t m = monitorOf s m) ∧
    (∀ m, (monitorOf s m).armed = true → (monitorOf s m).beyond = false →
      let counts : Prop := if m = .m3 then t.grid.u > (monitorOf s m).level else t.grid.u < (monitorOf s m).level
      let needed := if (monitorOf s m).count = 0 then 1 else (monitorOf s m).count
      (counts → (monitorOf s m).run + 1 ≥ needed →
        monitorOf t m = { monitorOf s m with beyond := true, run := 0 } ∧
        ((monitorOf s m).sample m.falling t.grid.u).2 = .crossing ∧
        (m = .m3 → t.grid.overSince = some (s.grid.sampleNo + 1))) ∧
      (counts → (monitorOf s m).run + 1 < needed →
        monitorOf t m = { monitorOf s m with run := (monitorOf s m).run + 1 } ∧
        ((monitorOf s m).sample m.falling t.grid.u).2 = .none) ∧
      (¬counts → monitorOf t m = { monitorOf s m with run := 0 } ∧
        ((monitorOf s m).sample m.falling t.grid.u).2 = .none)) ∧
    (∀ m, (monitorOf s m).armed = true → (monitorOf s m).beyond = true →
      let counts : Prop := if m = .m3 then t.grid.u + 20 ≤ (monitorOf s m).level else t.grid.u ≥ (monitorOf s m).level + 20
      let needed := if (monitorOf s m).count = 0 then 1 else (monitorOf s m).count
      (counts → (monitorOf s m).run + 1 ≥ needed →
        monitorOf t m = { monitorOf s m with beyond := false, run := 0 } ∧
        (m = .m3 → t.grid.overSince = none ∧ isActive t .gridOv 1 = false)) ∧
      (counts → (monitorOf s m).run + 1 < needed →
        monitorOf t m = { monitorOf s m with run := (monitorOf s m).run + 1 }) ∧
      (¬counts → monitorOf t m = { monitorOf s m with run := 0 })) ∧
    t.conv.request = s.conv.request ∧ t.conv.granted = s.conv.granted ∧ t.therm = s.therm ∧ t.store = s.store ∧
    t.retained = s.retained ∧ t.clock = s.clock

/-- An M1 crossing in Normal or Recovering with M3 neither beyond nor crossing and with fewer than two dips in the list begins a dip that is ridden through: the state, its fields,
the list, GRID_DIP, and the source Bridged with the held dispatchable and the bridge timer; a third one ends in Lost with
GRID_RT_EXCEED (R32, R88, R40, R90). -/
def Obligations.CrossingBeginsADip : Prop :=
  ∀ (s : State) (u : Nat), s.powered = true → Sized s → 10 ≤ s.store.working.returnDwell →
    (s.grid.state = .normal ∨ s.grid.state = .recovering) → s.aux.source = .grid →
    s.grid.m3.beyond = false → (s.grid.m3.sample false (perUnit (min u 5000))).2 ≠ .crossing →
    (s.grid.m1.sample true (perUnit (min u 5000))).2 = .crossing →
    ∃ t, exec (.gridSample u) s = .next t ∧ isActive t .gridDip 1 = true ∧
      (((ageDips (takeVoltage u s)).conv.dips.length < 2) →
        t.grid.state = .dip ∧ t.grid.entryTime = s.clock ∧
        t.grid.dip = some ⟨s.grid.sampleNo + 1, t.grid.u, curveValue s.store.working.curve t.grid.u⟩ ∧
        t.conv.dips = (ageDips (takeVoltage u s)).conv.dips ++ [⟨s.clock, s.grid.sampleNo + 1⟩] ∧
        t.aux.source = .bridged ∧
        t.aux.held = some (400 - s.store.working.controlReserve - s.store.working.brakeReserve) ∧
        t.aux.bridge = some ⟨s.clock, s.store.working.bridgeInterval⟩ ∧
        t.aux.claims.charger.submitted = false ∧ isActive t .auxBridge 1 = true) ∧
      (((ageDips (takeVoltage u s)).conv.dips.length ≥ 2) →
        t.grid.state = .lost ∧ t.grid.dip = none ∧ t.aux.source = .battery ∧ t.aux.held = none ∧
        isActive t .gridRtExceed 1 = true ∧ isActive t .gridLost 1 = true ∧ NoStringRuns t ∧
        (s.mode.current ≠ .lockout → t.mode.current = .isolated ∧ t.mode.target = none))

/-- RIDE_THROUGH_EXCEEDED in a dip with a limited allowance and OVERVOLTAGE_TIMEOUT with M3 beyond enter Lost: every string
stops, the source is Battery, the mode Isolated unless Lockout, and both rows are Active (R34, R39, R40, R89, R90). -/
def Obligations.ExpiriesEnterLost : Prop :=
  ∀ s : State, s.powered = true → Sized s → s.grid.state ≠ .lost →
    (∀ d, s.grid.dip = some d → s.grid.state = .dip → d.allowed ≠ .unlimited →
      ∃ t, exec .rideThroughExceeded s = .next t ∧ isActive t .gridRtExceed 1 = true ∧ InLost s t) ∧
    (s.grid.m3.beyond = true →
      ∃ t, exec .overvoltageTimeout s = .next t ∧ isActive t .gridOv 1 = true ∧ InLost s t)

/-- DIP_LIST_AGING drops the entries that are 10,000 samples old, Q_HOLD_END ends the Q hold, RECOVERY_TIMEOUT makes a Recovering grid Normal and
clears GRID_DIP, and on Battery starts the 10 s count (R33, R37, R38, R91); the complete return dwell makes a Lost grid Normal:
GRID_LOST, GRID_RT_EXCEED and GRID_DIP are cleared, Isolated becomes Parked, and on Battery the 10 s count starts (R41, R141). -/
def Obligations.GridExpiriesAct : Prop :=
  ∀ s : State, s.powered = true →
    (∃ t, exec .dipListAging s = .next t ∧
      t.conv.dips = s.conv.dips.dropWhile (fun e => s.grid.sampleNo - e.sample ≥ 10000) ∧
      Quiet { s with conv := { s.conv with dips := t.conv.dips } } t) ∧
    (∀ r, s.grid.recovery = some r → s.grid.state = .recovering → ∃ t, exec .qHoldEnd s = .next t ∧
      t.grid.recovery = some { r with qHold := false } ∧
      Quiet { s with grid := { s.grid with recovery := some { r with qHold := false } } } t) ∧
    (s.grid.state = .recovering → ∃ t, exec .recoveryTimeout s = .next t ∧ t.grid.state = .normal ∧
      t.grid.entryTime = s.clock ∧ t.grid.recovery = none ∧ isActive t .gridDip 1 = false ∧
      t.aux.source = s.aux.source ∧ (s.aux.source = .battery → t.aux.normal = some ⟨s.clock, 10000⟩) ∧
      t.conv.granted = s.conv.granted ∧ t.therm = s.therm ∧ t.store = s.store ∧ t.retained = s.retained) ∧
    (s.grid.state = .lost → s.grid.dwellStart.isSome = true →
      ∃ t, exec .returnDwellComplete s = .next t ∧ t.grid.state = .normal ∧ t.grid.entryTime = s.clock ∧
        t.grid.dwellStart = none ∧ isActive t .gridLost 1 = false ∧ isActive t .gridRtExceed 1 = false ∧
        isActive t .gridDip 1 = false ∧ (s.aux.source = .battery → t.aux.normal = some ⟨s.clock, 10000⟩) ∧
        (s.mode.current = .isolated → t.mode.current = .parked ∧ t.mode.target = none ∧ t.mode.cause = .gridReturned) ∧
        t.conv.granted = s.conv.granted ∧ t.conv.request = s.conv.request ∧ t.therm = s.therm ∧ t.store = s.store ∧
        t.retained = s.retained)

/-- The ride-through curve: below its first point the first allowance, between two points the line between them, at a point
that point's, from the last point on unlimited, and never falling as the voltage rises (R35). -/
def Obligations.CurveIsReadBetweenItsPoints : Prop :=
  ∀ c : List CurvePoint, 2 ≤ c.length → curveRises c = true →
    (∀ p, c.head? = some p → ∀ v, v < p.u → curveValue c v = .ms p.t) ∧
    (∀ before after p q, c = before ++ p :: q :: after → ∀ v, p.u ≤ v → v < q.u →
      curveValue c v = .ms (p.t + (q.t - p.t) * (v - p.u) / (q.u - p.u))) ∧
    (∀ p, c.getLast? = some p → ∀ v, p.u ≤ v → curveValue c v = .unlimited) ∧
    (∀ p, p ∈ c.dropLast → curveValue c p.u = .ms p.t) ∧
    (∀ v w, v ≤ w → ∀ a, curveValue c v = .ms a → ∀ b, curveValue c w = .ms b → a ≤ b)

/-! ## Thermal model and cooling -/

/-- At each thermal interval every string's current used, loss, settled rise, rise, junction estimate and limit follow R48 to
R53 from the inlet of its loop as read at the interval (R56, R57), an estimate at the trip point trips its string (R54), and the
heat loads follow R58. -/
def Obligations.ThermalIntervalWritesTheRecords : Prop :=
  ∀ (s : State) (x y : Int), s.powered = true → Sized s → ∃ t, exec (.thermalInterval x y) s = .next t ∧
    t.therm.intervalNo = s.therm.intervalNo + 1 ∧
    t.therm.inlet1 = (readTemp s.therm.inlet1 (s.therm.intervalNo + 1) 100 (s.store.working.setpoint1 + 150) x).1 ∧
    t.therm.inlet2 = (readTemp s.therm.inlet2 (s.therm.intervalNo + 1) 100 (s.store.working.setpoint2 + 150) y).1 ∧
    (∀ k, let r := t.therm.recs.get k
      r.iUsed = (match (strOf s k).state with
        | .offline | .faulted | .isolated => 0
        | .precharging | .ready | .running | .derated | .stopping => (strOf s k).iMeas) ∧
      r.pLoss = 250 * r.iUsed / 100 + 120 * r.iUsed * r.iUsed / 1000 ∧
      r.target = r.pLoss * 20 / 1000 ∧
      (let d : Int := (r.target : Int) - (s.therm.recs.get k).tRise
       let move : Int := Int.tdiv (d * s.store.working.alpha) 256
       r.tRise = (max 0 (min ((s.therm.recs.get k).tRise +
         (if d ≠ 0 ∧ move = 0 then (if d > 0 then 1 else -1) else move)) 2000)).toNat) ∧
      r.tj = max (-400) (min ((inletOf t k.loop).inUse + r.tRise) 2500) ∧
      r.limit = (if r.tj ≤ s.store.working.td then 480 else if r.tj ≥ s.store.working.tx then 0
        else 480 - 360 * (r.tj - s.store.working.td).toNat / (s.store.working.tx - s.store.working.td).toNat)) ∧
    t.therm.heat1 = (t.therm.recs.get .s1).pLoss + (t.therm.recs.get .s2).pLoss + (t.therm.recs.get .s3).pLoss +
      s.store.working.baseLoad1 ∧
    t.therm.heat2 = (t.therm.recs.get .s4).pLoss + (t.therm.recs.get .s5).pLoss + (t.therm.recs.get .s6).pLoss +
      s.store.working.baseLoad2 ∧
    (∀ k, (t.therm.recs.get k).tj ≥ s.store.working.tx → (strOf s k).state ≠ .isolated →
      isActive t .strTjTrip k.num = true ∧ ((strOf s k).state ≠ .faulted → (strOf t k).state = .faulted)) ∧
    t.grid = s.grid ∧ t.store = s.store ∧ t.retained = s.retained ∧ t.conv.granted = s.conv.granted ∧
    t.clock = s.clock

/-- The rise filter moves toward its target, never past it, and by at least one while a difference stands (R51); the thermal
limit is the rated current up to T_d, 0 from T_x on, above the floor and no more than the rated current between them, and never rises with
the estimate (R53). -/
def Obligations.RiseAndLimitFollowTheirRules : Prop :=
  (∀ rise target alpha : Nat, rise ≤ 2000 → target ≤ 2000 → 1 ≤ alpha → alpha ≤ 256 →
    (rise < target → rise < riseAfter rise target alpha ∧ riseAfter rise target alpha ≤ target) ∧
    (target < rise → riseAfter rise target alpha < rise ∧ target ≤ riseAfter rise target alpha) ∧
    (rise = target → riseAfter rise target alpha = target)) ∧
  (∀ td tx : Int, td < tx →
    (∀ tj, tj ≤ td → limitAt tj td tx = 480) ∧ (∀ tj, tx ≤ tj → limitAt tj td tx = 0) ∧
    (∀ tj, td < tj → tj < tx → 120 < limitAt tj td tx ∧ limitAt tj td tx ≤ 480) ∧
    ∀ a b : Int, a ≤ b → limitAt b td tx ≤ limitAt a td tx)

/-- A held inlet becomes the substitute with COOL_SENSOR raised, and so does the held nacelle air temperature; L3 is judged from its
substitute in that event, and its LOOP_LIMITED row by the budget's answer (R57, R76). -/
def Obligations.HeldSensorsAreSubstituted : Prop :=
  ∀ s : State, s.powered = true → Sized s →
    (∀ l : Liquid, (inletOf s l).source = .held → (inletOf s l).holdStart.isSome = true →
      ∃ t, exec (.inletSubstitute l) s = .next t ∧ (inletOf t l).source = .substitute ∧
        (inletOf t l).inUse = (setpointOf s l : Int) + 150 ∧ (inletOf t l).lastValid = (inletOf s l).lastValid ∧
        isActive t .coolSensor l.num = true ∧ t.conv = s.conv ∧ t.cool = s.cool ∧ t.aux = s.aux ∧ t.grid = s.grid ∧
        t.store = s.store) ∧
    (s.cool.l3.air.source = .held → s.cool.l3.air.holdStart.isSome = true →
      let j := evaluateAir (substituteAir (beginEvent s))
      let m := settle j
      let t := finish (settle (limitAir m))
      exec .airSensorSubstitute s = .next t ∧ t.cool.l3.air.source = .substitute ∧ t.cool.l3.air.inUse = 450 ∧
        t.cool.l3.air.lastValid = s.cool.l3.air.lastValid ∧ isActive t .coolSensor 3 = true ∧ AirJudged s j 3 ∧
        isActive t .loopLimited 3 = decide (grantOf m .fans3 / 6 < j.cool.l3.demand) ∧
        t.therm = s.therm ∧ t.store = s.store ∧ t.retained = s.retained ∧ t.grid = s.grid)

/-- The flow switch is recorded; a duty pump that fails its proof or its flow gives way to the standby pump with LOOP_FLOW
raised, before the reactions of the event; a standby pump that fails leaves the loop Failed with LOOP_FAILED Active (R66, R67,
R68). A flow shown in Starting proves the pump and submits the fan claim at the feed-forward stage (R66, R73). The reactions judge a
loop whose requirement may have changed: an Off loop newly required submits its pump claim, and one no longer required goes to Off
with its claims withdrawn (R64, R65); a pump claim granted starts an Off loop on its duty pump, and one cut to 0 takes the loop to
Off with the claim kept (R66, R70). -/
def Obligations.FlowAndPumpFailures : Prop :=
  ∀ (s : State) (l : Liquid), s.powered = true → Sized s →
    (∀ flow : Bool, ∃ t, exec (.flowSwitchChange l flow) s = .next t ∧ (loopOf t l).flow = flow ∧
      Beyond (modLoop l (fun r => { r with flow := flow }) s) t) ∧
    ((loopOf s l).state = .starting → (loopOf s l).proof.isSome = true → (loopOf s l).flow = false →
      (loopOf s l).role = some .duty → ∃ r, exec (.flowProofTimeout l) s = .next (finish (settle r)) ∧
        (loopOf r l).state = .starting ∧ (loopOf r l).role = some .standby ∧
        (loopOf r l).pump = some ((loopOf s l).pump.getD (dutyOf s l)).other ∧
        (loopOf r l).proof = some ⟨s.clock, 15000⟩ ∧ isActive r .loopFlow l.num = true) ∧
    ((loopOf s l).state = .starting → (loopOf s l).proof.isSome = true → (loopOf s l).role = some .standby →
      ∃ t, exec (.flowProofTimeout l) s = .next t ∧ (loopOf t l).state = .failed ∧
        isActive t .loopFailed l.num = true) ∧
    (loopFlowing s l = true → (loopOf s l).drop.isSome = true → (loopOf s l).flow = false →
      (loopOf s l).role = some .duty → ∃ r, exec (.flowDropTimeout l) s = .next (finish (settle r)) ∧
        (loopOf r l).state = .starting ∧ (loopOf r l).role = some .standby ∧
        (loopOf r l).proof = some ⟨s.clock, 15000⟩ ∧ isActive r .loopFlow l.num = true) ∧
    (loopFlowing s l = true → (loopOf s l).drop.isSome = true → (loopOf s l).role = some .standby →
      ∃ t, exec (.flowDropTimeout l) s = .next t ∧ (loopOf t l).state = .failed ∧
        isActive t .loopFailed l.num = true) ∧
    ((loopOf s l).state = .starting → (loopOf s l).proof.isSome = true →
      let r := flowChange l true (beginEvent s)
      let sound := (loopOf s l).role = some .duty ∧ ∀ c ∈ (loopOf s l).fans, c.failed = false
      exec (.flowSwitchChange l true) s = .next (finish (settle r)) ∧
        (loopOf r l).state = (if sound then .running else .degraded) ∧ (loopOf r l).proof = none ∧
        (submitted s (fanClaim l) = false → (loopOf r l).demand = forwardStage s l ∧ (loopOf r l).runOn = freshRunOn s ∧
          FansClaimed r l (forwardStage s l)) ∧
        (submitted s (fanClaim l) = true → (loopOf r l).demand = (loopOf s l).demand ∧
          (loopOf r l).runOn = (loopOf s l).runOn ∧ r.aux = s.aux)) ∧
    ((loopOf s l).judge = true →
      let r := judgeLoop l s
      ((loopOf r l).required = true ↔ Required s l) ∧ (loopOf r l).judge = false ∧
      ((loopOf s l).state = .off → Required s l → (loopOf r l).state = .off ∧ submitted r (pumpClaim l) = true ∧
        (submitted s (pumpClaim l) = false → (claimOf r (pumpClaim l)).ceiling = 15)) ∧
      ((loopOf s l).state ≠ .off ∨ (loopOf s l).required = true → (loopOf s l).state ≠ .failed → ¬Required s l →
        loopOf r l = { (loopOf s l).resting .off with selection := 0, required := false, judge := false } ∧
        submitted r (pumpClaim l) = false ∧ submitted r (fanClaim l) = false ∧ isActive r .loopFlow l.num = false) ∧
      ((loopOf s l).state ≠ .off → (loopOf s l).state ≠ .failed → Required s l →
        loopOf r l = { loopOf s l with required := true, judge := false } ∧ r.aux = s.aux ∧ r.faults = s.faults) ∧
      ((loopOf s l).state = .failed → (loopOf r l).state = .failed ∧ r.aux = s.aux ∧ r.faults = s.faults)) ∧
    (∀ before after : Claims, (before.get (pumpClaim l)).grant = 0 → 0 < (after.get (pumpClaim l)).grant →
      (loopOf s l).state = .off → (loopOf s l).flow = false →
      let r := handPump before after l s
      (loopOf r l).state = .starting ∧ (loopOf r l).pump = some (dutyOf s l) ∧ (loopOf r l).role = some .duty ∧
      (loopOf r l).proof = some ⟨s.clock, 15000⟩ ∧ (loopOf r l).drop = none ∧ r.aux = s.aux ∧ r.faults = s.faults) ∧
    (∀ before after : Claims, 0 < (before.get (pumpClaim l)).grant → (after.get (pumpClaim l)).grant = 0 →
      (after.get (pumpClaim l)).submitted = true → (loopOf s l).state = .starting ∨ loopFlowing s l = true →
      let r := handPump before after l s
      (loopOf r l).state = .off ∧ (loopOf r l).pump = none ∧ (loopOf r l).proof = none ∧ (loopOf r l).drop = none ∧
      (loopOf r l).runOn = none ∧ (loopOf r l).demand = 0 ∧ submitted r (pumpClaim l) = submitted s (pumpClaim l) ∧
      submitted r (fanClaim l) = false ∧ isActive r .loopFlow l.num = false)

/-- A cooling evaluation reads the outlets, the air (a start's hold kept, log 43) and the humidity (R62, R76, R77). Up to the state `j` that the budget answers it
selects the stage of each liquid loop, with its demand, run-on and fan claim (R71, R72, R73), releases a Failed loop whose row is Clear
(R69), judges L3 (R76) and submits or withdraws the heater claim (R77). In the state `m` that the budget's answer leaves it sets the
clamp of each liquid loop (R74) and the LOOP_LIMITED rows (R74, R76). -/
def Obligations.CoolingEvaluationSetsClamps : Prop :=
  ∀ (s : State) (a b air h : Int), s.powered = true → Sized s →
    let j := evaluateCooling a b air h (beginEvent s)
    let m := settle j
    let t := finish (settle (clampLoops m))
    let humid := if 0 ≤ h ∧ h ≤ 100 then h.toNat else s.cool.humidity
    let heats := s.mode.current = .parked ∨ s.mode.current = .storm ∨ s.mode.current = .isolated
    let warm := (readTemp s.cool.l3.air (s.cool.evaluationNo + 1) 1000 450 air).1
    exec (.coolingEvaluation a b air h) s = .next t ∧
    t.cool.evaluationNo = s.cool.evaluationNo + 1 ∧
    t.cool.l1.outlet = (if -400 ≤ a ∧ a ≤ 1500 then some a else none) ∧
    t.cool.l2.outlet = (if -400 ≤ b ∧ b ≤ 1500 then some b else none) ∧
    t.cool.l3.air = warm ∧ t.cool.humidity = humid ∧
    (∀ l : Liquid, LoopJudged s j l) ∧
    AirJudged s j (if warm.inUse < 350 then 0 else if warm.inUse < 400 then 1 else if warm.inUse < 450 then 2 else 3) ∧
    (heats → 85 ≤ humid → submitted j .heaters = true ∧
      (submitted s .heaters = false → (claimOf j .heaters).ceiling = 20)) ∧
    (humid < 80 → submitted j .heaters = false) ∧
    (80 ≤ humid → humid < 85 ∨ ¬heats → submitted j .heaters = submitted s .heaters) ∧
    (∀ l : Liquid, ClampAt m l (loopOf t l).clamp ∧
      isActive t .loopLimited l.num = decide ((loopOf t l).clamp < 100)) ∧
    (j.cool.l3.state ≠ .off → isActive t .loopLimited 3 = decide (grantOf m .fans3 / 6 < j.cool.l3.demand)) ∧
    (j.cool.l3.state = .off → isActive t .loopLimited 3 = isActive s .loopLimited 3) ∧
    t.grid = s.grid ∧ t.therm = s.therm ∧ t.store = s.store ∧ t.retained = s.retained ∧ t.conv.granted = s.conv.granted

/-- The run-on timer takes one stage off a demand above the selection, before the reactions of the event; a fan feedback is
recorded; a fan mismatch marks its channel failed (R72, R75). -/
def Obligations.FansAndRunOn : Prop :=
  ∀ s : State, s.powered = true →
    (∀ l : Liquid, (loopOf s l).runOn.isSome = true → ∃ r,
      exec (.runOnExpiry (match l with | .l1 => .l1 | .l2 => .l2)) s = .next (finish (settle r)) ∧
      (loopOf r l).demand = (if (loopOf s l).selection < (loopOf s l).demand then (loopOf s l).demand - 1
                             else (loopOf s l).demand) ∧ (loopOf r l).selection = (loopOf s l).selection) ∧
    (s.cool.l3.runOn.isSome = true → ∃ t, exec (.runOnExpiry .l3) s = .next t ∧
      t.cool.l3.demand = (if s.cool.l3.selection < s.cool.l3.demand then s.cool.l3.demand - 1 else s.cool.l3.demand) ∧
      (t.cool.l3.demand = 0 → t.cool.l3.state = .off) ∧ t.grid = s.grid ∧ t.therm = s.therm ∧ t.store = s.store) ∧
    (∀ (f : FanId) (running : Bool), ∃ t, exec (.fanFeedbackChange f running) s = .next t ∧
      Beyond (modFan f (fun c => { c with proven := running }) s) t) ∧
    (∀ f : FanId, (fanAt s f).mismatch.isSome = true → ∃ t, exec (.fanMismatchExpiry f) s = .next t ∧
      (fanAt t f).failed = true ∧ (fanAt t f).commanded = false ∧ t.grid = s.grid ∧ t.therm = s.therm ∧
      t.store = s.store ∧ t.retained = s.retained)

/-! ## Auxiliary budget -/

/-- The walk hands out what it has and no more: over claims named once, the grants and the rest add up to what it started
with, and each grant is 0 or between its floor and its ceiling (R83); on Battery with the critical mark a Motion claim other than
yaw's gets nothing (R84). -/
def Obligations.WalkHandsOutNoMoreThanItHas : Prop :=
  ∀ (s : State) (l : List ClaimId) (c : Claims) (n : Nat), l.Nodup →
    ((l.map fun id => ((allocate s l c n).1.get id).grant).sum + (allocate s l c n).2 = n) ∧
    (∀ id ∈ l, ((allocate s l c n).1.get id).grant = 0 ∨
      (c.get id).floor ≤ ((allocate s l c n).1.get id).grant ∧
        ((allocate s l c n).1.get id).grant ≤ (c.get id).ceiling) ∧
    (∀ id, id ∉ l → (allocate s l c n).1.get id = c.get id) ∧
    (∀ id ∈ l, s.aux.source = .battery → s.aux.criticalMark = true → claimClass id = .motion → id ≠ .yaw →
      0 < (c.get id).floor → ((allocate s l c n).1.get id).grant = 0)

/-- The bridge timer takes Bridged to Battery, and 10 s of Normal take Battery to Grid (R89, R91). -/
def Obligations.SourceAndBatteryExpiries : Prop :=
  ∀ s : State, s.powered = true →
    (s.aux.source = .bridged → s.aux.bridge.isSome = true → ∃ t, exec .bridgeTimerExpiry s = .next t ∧
      t.aux.source = .battery ∧ t.aux.held = none ∧ t.aux.bridge = none ∧ t.aux.claims.charger.submitted = false ∧
      isActive t .auxBridge 1 = false ∧ t.grid = s.grid ∧ t.therm = s.therm ∧ t.store = s.store ∧
      t.retained = s.retained) ∧
    (s.aux.source = .battery → s.aux.normal.isSome = true → ∃ t, exec .normalCountExpiry s = .next t ∧
      t.aux.source = .grid ∧ t.aux.normal = none ∧
      (s.retained.energy < 648000 → t.aux.claims.charger.submitted = true) ∧ t.grid = s.grid ∧ t.therm = s.therm ∧
      t.store = s.store ∧ t.retained = s.retained)

/-- The battery accounting takes the grants and both reserves from the energy on Battery and Bridged, stopping at 0, and adds the
charger grant on Grid, stopping at the capacity; the marks are judged, and on Grid the charger. The energy stays within the
capacity, and no command raises it while the source is Battery or Bridged (R92). -/
def Obligations.EnergyFollowsItsAccounting : Prop :=
  (∀ s : State, s.powered = true → ∃ t, exec .batteryAccounting s = .next t ∧
    t.retained.energy = (if s.aux.source = .grid then min 648000 (s.retained.energy + grantOf s .charger)
      else s.retained.energy - ((claimList.map (grantOf s)).sum + s.store.working.controlReserve +
        s.store.working.brakeReserve)) ∧
    t.aux.lowMark = judgedMark s.aux.lowMark 129600 t.retained.energy ∧
    t.aux.criticalMark = judgedMark s.aux.criticalMark 64800 t.retained.energy ∧
    (s.aux.source = .grid → t.aux.claims.charger.submitted = decide (t.retained.energy < 648000)) ∧
    t.aux.source = s.aux.source ∧ t.retained.twist = s.retained.twist ∧ t.grid = s.grid ∧ t.therm = s.therm ∧
    t.store = s.store) ∧
  (∀ (c : Instr) (s : State), s.retained.energy ≤ 648000 → ∀ t, exec c s = .next t →
    t.retained.energy ≤ 648000 ∧ (s.aux.source ≠ .grid → t.retained.energy ≤ s.retained.energy))

/-! ## Yaw controller -/

/-- An angle is wrapped into −1,800 to +1,799 by whole turns (R102). A yaw sample takes both vanes and the wind, overwrites the
oldest ring entry with the angle and source that the vanes found valid give it, and forms the four means and the cap (R100 to
R105, R19). A reading marked open or shorted leaves its vane without a previous reading (log 44). -/
def Obligations.YawSampleFormsTheMeans : Prop :=
  (∀ x : Int, -1800 ≤ wrapAngle x ∧ wrapAngle x ≤ 1799 ∧ (wrapAngle x - x) % 3600 = 0) ∧
  (∀ (s : State) (a b : Reading) (w : Int), s.powered = true → ∃ t, exec (.yawSample a b w) s = .next t ∧
    t.yaw.sampleNo = s.yaw.sampleNo + 1 ∧
    t.yaw.vaneA = vaneAfter s.yaw.vaneA a (max 0 (min w 700)).toNat ∧
    t.yaw.vaneB = vaneAfter s.yaw.vaneB b (max 0 (min w 700)).toNat ∧
    (let chosen := blend s.store.working.primaryVane (validReading t.yaw.vaneA) (validReading t.yaw.vaneB);
      t.yaw.ring = s.yaw.ring.tail ++ [{ time := s.clock, angle := (chosen.map Prod.fst).getD 0
                                         wind := (max 0 (min w 700)).toNat
                                         valid := t.yaw.vaneA.valid || t.yaw.vaneB.valid
                                         source := chosen.map Prod.snd, theta := theta s }]) ∧
    t.yaw.longMean = meanOf 40 ((t.yaw.ring.filter (·.valid)).map (referAngle (theta s))) ∧
    t.yaw.shortMean = meanOf 6 (((t.yaw.ring.drop (t.yaw.ring.length - 10)).filter (·.valid)).map (referAngle (theta s))) ∧
    t.yaw.longSpeed = (meanOf 40 ((t.yaw.ring.filter (·.valid)).map fun e => (e.wind : Int))).map Int.toNat ∧
    t.yaw.shortSpeed = (meanOf 6 (((t.yaw.ring.drop (t.yaw.ring.length - 10)).filter (·.valid)).map
      fun e => (e.wind : Int))).map Int.toNat ∧
    (∀ m, t.yaw.longMean = some m → t.yaw.invalidSince = none ∧
      t.yaw.cap = (if m.natAbs < 250 then none else if m.natAbs < 400 then some 10500
        else if m.natAbs < 600 then some 6000 else some 0)) ∧
    (t.yaw.longMean = none → t.yaw.invalidSince = some (s.yaw.invalidSince.getD (s.yaw.sampleNo + 1)) ∧
      t.yaw.cap = (if s.yaw.sampleNo + 1 - s.yaw.invalidSince.getD (s.yaw.sampleNo + 1) ≥ 60 then some 6000
        else s.yaw.cap)) ∧
    capEff t = min (capTotal t) (t.yaw.cap.getD 15000) ∧
    t.grid = s.grid ∧ t.therm = s.therm ∧ t.store = s.store ∧ t.retained = s.retained ∧ t.conv.granted = s.conv.granted)

/-- The brake machine: a settle that finds its proof goes on to Moving or completes the move, one that does not raises
BRAKE_FB with the brakes Full and Hold; the full proof is watched in Full and the residual proof in Residual; a lost holding
proof raises BRAKE_FB (R107). Moving starts with a drive for every 11 kW of the grant (R108, R109), and a completed move withdraws its
claim (R110). -/
def Obligations.BrakesFollowTheirProofs : Prop :=
  ∀ s : State, s.powered = true → Sized s →
    (s.yaw.motion = .venting → s.yaw.settle.isSome = true → s.lines.residualProof = true →
      ∃ r, exec .brakeVentExpiry s = .next (finish (settle r)) ∧ r.yaw.motion = .moving ∧ r.yaw.brake = .residual ∧
        r.yaw.speed = .running ∧ r.yaw.driveCount = grantOf s .yaw / 11 ∧ r.yaw.settle = none) ∧
    (s.yaw.motion = .venting → s.yaw.settle.isSome = true → s.lines.residualProof = false →
      ∃ t, exec .brakeVentExpiry s = .next t ∧ t.yaw.motion = .hold ∧ yawIdle t = true ∧ isActive t .brakeFb 1 = true) ∧
    (s.yaw.motion = .pressurizing → s.yaw.settle.isSome = true → s.lines.fullProof = true →
      ∃ t, exec .brakePressurizeExpiry s = .next t ∧ t.yaw.motion = .hold ∧ yawIdle t = true) ∧
    (s.yaw.motion = .pressurizing → s.yaw.settle.isSome = true → s.lines.fullProof = false →
      ∃ t, exec .brakePressurizeExpiry s = .next t ∧ t.yaw.motion = .hold ∧ yawIdle t = true ∧
        isActive t .brakeFb 1 = true) ∧
    (∀ present : Bool, s.yaw.brake = .full → ∃ t, exec (.brakeProofChange .full present) s = .next t ∧
      t.lines = { s.lines with fullProof := present } ∧
      t.yaw = { s.yaw with fullAbsent := if present then none else s.yaw.fullAbsent.or (some ⟨s.clock, 1000⟩) } ∧
      t.conv = s.conv ∧ t.aux = s.aux ∧ t.cool = s.cool ∧ t.grid = s.grid) ∧
    (∀ present : Bool, s.yaw.brake = .residual → ∃ t, exec (.brakeProofChange .residual present) s = .next t ∧
      t.lines = { s.lines with residualProof := present } ∧
      t.yaw = { s.yaw with residAbsent := if present then none else s.yaw.residAbsent.or (some ⟨s.clock, 1000⟩) } ∧
      t.conv = s.conv ∧ t.aux = s.aux ∧ t.cool = s.cool ∧ t.grid = s.grid) ∧
    (∀ (p : BrakeProof) (present : Bool), s.yaw.brake ≠ (match p with | .full => .full | .residual => .residual) →
      ∃ t, exec (.brakeProofChange p present) s = .next t ∧ t.yaw = s.yaw ∧
        t.lines = (match p with
          | .full => { s.lines with fullProof := present }
          | .residual => { s.lines with residualProof := present })) ∧
    (s.yaw.brake = .full → s.yaw.fullAbsent.isSome = true →
      ∃ t, exec (.brakeProofAbsenceExpiry .full) s = .next t ∧ isActive t .brakeFb 1 = true) ∧
    (s.yaw.brake = .residual → s.yaw.residAbsent.isSome = true → s.yaw.motion ≠ .hold →
      ∃ t, exec (.brakeProofAbsenceExpiry .residual) s = .next t ∧ isActive t .brakeFb 1 = true ∧ t.yaw.motion = .hold)

/-- The end of Ramping pressurizes with a fresh 2 s; the manual timer that expires stops a jog as a normal stop; the rest
timer that expires permits automatic starts (R110). -/
def Obligations.MotionTimersExpire : Prop :=
  ∀ s : State, s.powered = true →
    (s.yaw.motion = .ramping → s.yaw.ramp.isSome = true → ∃ t, exec .rampingExpiry s = .next t ∧
      t.yaw.motion = .pressurizing ∧ t.yaw.brake = .pressurizing ∧ t.yaw.settle = some ⟨s.clock, 2000⟩ ∧
      (∀ c ∈ t.yaw.channels, c.commanded = false) ∧ t.grid = s.grid ∧ t.store = s.store ∧ t.retained = s.retained) ∧
    (s.yaw.manualTimer.isSome = true → s.yaw.kind = some .manual → s.yaw.motion = .moving → s.yaw.continuing = none →
      ∃ r, exec .manualTimerExpiry s = .next (finish (settle r)) ∧ r.yaw.manualTimer = none ∧
        (match windowNow s with
          | none => r.yaw.motion = .ramping ∧ r.yaw.ramp = some ⟨s.clock, 2000⟩ ∧ r.yaw.speed = .falling
          | some n => r.yaw.motion = .moving ∧ r.yaw.continuing = some n)) ∧
    (∃ t, exec .restTimerExpiry s = .next t ∧ t.yaw = { s.yaw with rest := none } ∧
      Quiet { s with yaw := { s.yaw with rest := none } } t)

/-- A drive's feedback is recorded; a drive mismatch marks its channel failed with YAW_DRIVE Active, takes it out of the
available count and judges YAW_DRIVES_LOW (R114). -/
def Obligations.DriveFeedbackAndFailure : Prop :=
  ∀ (s : State) (c : Fin 10), s.powered = true → Sized s →
    (∀ running : Bool, ∃ t, exec (.driveFeedbackChange c running) s = .next t ∧ (channelAt t c).proven = running ∧
      (∀ j, j ≠ c → (channelAt t j).proven = (channelAt s j).proven) ∧ t.store = s.store ∧ t.grid = s.grid) ∧
    ((channelAt s c).mismatch.isSome = true → ∃ t, exec (.driveMismatchExpiry c) s = .next t ∧
      (channelAt t c).failed = true ∧ isActive t .yawDrive (c.val + 1) = true ∧ c ∉ availableChannels t ∧
      isActive t .yawDrivesLow 1 = decide (availableDrives t < 4) ∧ t.store = s.store ∧ t.grid = s.grid)

/-- A jog button pressed under its conditions begins a manual jog with its 10 s, before the reactions of the event; released,
it no longer holds a jog (R119); that the model remembers which button's jog is under way rests on log 18. -/
def Obligations.PanelButtonsJog : Prop :=
  ∀ (s : State) (d : Dir), s.powered = true →
    (pressTaken d s = true → submitted s .yaw = false → buttonHeld s (Dir.other d) = false →
      ∃ r, exec (.jogButtonPress d) s = .next (finish (settle r)) ∧ r.yaw.manualMark = true ∧
        r.yaw.kind = some .manual ∧ r.yaw.direction = some d ∧ r.yaw.target = none ∧
        r.yaw.manualTimer = some ⟨s.clock, 10000⟩ ∧ submitted r .yaw = true ∧ r.yaw.panelJog = some d) ∧
    (∃ t, exec (.jogButtonRelease d) s = .next t ∧
      (match d with | .cw => t.lines = { s.lines with heldCw := false } | .ccw => t.lines = { s.lines with heldCcw := false }) ∧
      t.store = s.store ∧ t.retained = s.retained ∧ t.grid = s.grid) ∧
    (s.yaw.panelJog = some d → ∃ r, exec (.jogButtonRelease d) s = .next (finish (settle r)) ∧
      (s.yaw.motion = .moving → s.yaw.continuing = none → windowNow s = none →
        r.yaw.motion = .ramping ∧ r.yaw.panelJog = none))

/-- θ follows every encoder reading: a record that knows a position tracks any true position less than half a turn away, a
reading that leaves the range or is invalid makes θ unknown with TWIST_SENSOR Active, the first with the turn count and last angle
it gives, and a record that knows none takes the reading as its last angle (R123, R124); the untwist wait that expires makes the untwist ready, with UNTWIST_DUE raised in
Generating, before the reactions of the event (R130, R131). -/
def Obligations.EncoderTracksTheTwist : Prop :=
  ∀ s : State, s.powered = true → Sized s →
    (∀ (a : Fin 3600) (y : Int), s.retained.twist.valid = true → s.retained.twist.ref < 3600 →
      s.retained.twist.last < 3600 → (y - s.retained.twist.position).natAbs < 1800 →
      (y + s.retained.twist.ref) % 3600 = a → y.natAbs ≤ 10800 →
      ∃ t, exec (.encoderUpdate (.angle a)) s = .next t ∧ theta t = some y ∧ t.retained.twist.last = a ∧
        t.retained.twist.ref = s.retained.twist.ref ∧ t.retained.energy = s.retained.energy ∧ t.grid = s.grid ∧
        t.therm = s.therm ∧ t.store = s.store) ∧
    (∀ (a : Fin 3600) (y : Int), s.retained.twist.valid = true → s.retained.twist.ref < 3600 →
      s.retained.twist.last < 3600 → (y - s.retained.twist.position).natAbs < 1800 →
      (y + s.retained.twist.ref) % 3600 = a → 10800 < y.natAbs →
      ∃ t, exec (.encoderUpdate (.angle a)) s = .next t ∧ theta t = none ∧ isActive t .twistSensor 1 = true ∧
        t.retained.twist.last = a ∧ t.retained.twist.turns = y / 3600 ∧ t.retained.twist.ref = s.retained.twist.ref ∧
        t.retained.energy = s.retained.energy ∧ t.store = s.store ∧ t.grid = s.grid) ∧
    (∃ t, exec (.encoderUpdate .invalid) s = .next t ∧ theta t = none ∧ isActive t .twistSensor 1 = true ∧
      t.store = s.store ∧ t.grid = s.grid) ∧
    (∀ a : Fin 3600, s.retained.twist.valid = false → ∃ t, exec (.encoderUpdate (.angle a)) s = .next t ∧
      theta t = none ∧ t.retained.twist.last = a ∧ t.retained.twist.turns = s.retained.twist.turns ∧
      t.store = s.store ∧ t.grid = s.grid) ∧
    (s.yaw.untwist.wait.isSome = true → ∃ r, exec .untwistWaitExpiry s = .next (finish (settle r)) ∧
      r.yaw.untwist.ready = true ∧ r.yaw.untwist.wait = none ∧ r.yaw.untwist.due = s.yaw.untwist.due ∧
      r.yaw.motion = s.yaw.motion ∧ (s.mode.current = .generating → isActive r .untwistDue 1 = true))

/-! ## Mode controller -/

/-- The silence timer that expires is loaded again and counts; the first time LINK_SILENT is raised, the second a turbine in
Generating is sent toward Parked (R146). The calm timer takes Storm to Parked; the Idle limit ends the transition: Parked without
a Ready string, else Generating where it is asked for and its preconditions hold, else the mode as it is (R141, R139). -/
def Obligations.ModeTimersExpire : Prop :=
  ∀ s : State, s.powered = true → Sized s →
    (s.mode.supEnabled = true → s.mode.supTimer.isSome = true →
      ∃ t, exec .supervisionTimerExpiry s = .next t ∧ t.mode.supCount = min 2 (s.mode.supCount + 1) ∧
        t.mode.supTimer = some ⟨s.clock, s.mode.supInterval * 1000⟩ ∧
        (s.mode.supCount = 0 → isActive t .linkSilent 1 = true) ∧
        (s.mode.supCount ≥ 1 → s.mode.current = .generating → s.mode.target = none →
          t.mode.cause = .linkSilence ∧
            (t.mode.target = some .parked ∨ t.mode.current = .parked ∧ t.mode.target = none)) ∧
        t.mode.owner = s.mode.owner ∧ t.grid = s.grid ∧ t.therm = s.therm ∧ t.store = s.store ∧
        t.retained = s.retained) ∧
    (s.mode.current = .storm → s.mode.calm.isSome = true → ∃ t, exec .calmTimerExpiry s = .next t ∧
      t.mode.current = .parked ∧ t.mode.target = none ∧ t.mode.previous = .storm ∧ t.mode.cause = .stormCalm ∧
      t.mode.calm = none ∧ isActive t .stormEntered 1 = false ∧ t.store = s.store ∧ t.grid = s.grid) ∧
    (s.mode.idleLimit.isSome = true → risingTarget s.mode.target = true → s.mode.current = .idle →
      ∃ t, exec .idleLimitExpiry s = .next t ∧ t.mode.target = none ∧ t.mode.idleLimit = none ∧
        (readyStrings s = 0 → t.mode.current = .parked ∧ t.mode.cause = .idleFailed) ∧
        (readyStrings s ≠ 0 → s.mode.target = some .generating → mayGenerate s = true →
          t.mode.current = .generating ∧ t.mode.cause = .generatingReached) ∧
        (readyStrings s ≠ 0 → s.mode.target = some .generating → mayGenerate s = false →
          t.mode.current = .idle ∧ t.mode.cause = .generatingRefused) ∧
        (readyStrings s ≠ 0 → s.mode.target = some .idle → t.mode.current = .idle ∧ t.mode.cause = .idleReached) ∧
        t.store = s.store ∧ t.grid = s.grid)

/-- The chain that opens faults every string, raises ESTOP and takes the mode to Parked, or leaves Lockout; the chain that
closes clears ESTOP; the key sets the owner and enters or leaves Lockout, also where it arrives at the position it stands at
(log 26); the reset button clears every Latched Trip row and no other row, and has no reply (R142, R143, R145). -/
def Obligations.PanelAndChainAct : Prop :=
  ∀ s : State, s.powered = true → Sized s →
    (∃ t, exec .estopChainOpen s = .next t ∧ t.lines = { s.lines with chainClosed := false } ∧
      isActive t .estop 1 = true ∧ t.mode.target = none ∧
      t.mode.current = (if s.mode.current = .lockout then .lockout else .parked) ∧
      (∀ k, (strOf s k).state ≠ .isolated → (strOf s k).state ≠ .faulted → (strOf t k).state = .faulted) ∧
      t.yaw.motion ≠ .venting ∧ t.yaw.motion ≠ .moving ∧ t.yaw.motion ≠ .ramping ∧ t.store = s.store ∧
      t.retained = s.retained ∧ t.grid = s.grid ∧ t.therm = s.therm) ∧
    (∃ t, exec .estopChainClose s = .next t ∧ t.lines = { s.lines with chainClosed := true } ∧
      isActive t .estop 1 = false ∧ Quiet (clearFault .estop 1 { s with lines := t.lines }) t) ∧
    (∀ p : KeyPos, ∃ t, exec (.keySwitch p) s = .next t ∧ t.lines = { s.lines with key := p } ∧
      t.mode.owner = (if p = .remotePos then .pendingRemote else .localOwner) ∧
      (p = .lockoutPos → t.mode.current = .lockout ∧ t.mode.target = none) ∧
      (p ≠ .lockoutPos → s.lines.key = .lockoutPos →
        t.mode.current = (if s.grid.state = .lost then .isolated else .parked) ∧ t.mode.target = none) ∧
      t.store = s.store ∧ t.retained = s.retained ∧ t.grid = s.grid ∧ t.therm = s.therm) ∧
    (∃ r, exec .resetButton s = .next (finish (settle r)) ∧
      ∀ i, rowAt r i = (if (codeOfRow i).isTrip = true ∧ (rowAt s i).state = .latched then { rowAt s i with
        state := .clear, firstMark := false
        pending := (rowAt s i).pending || decide (classOf s (codeOfRow i) ≠ .record) } else rowAt s i)) ∧
    (∃ t, exec .resetButton s = .next t ∧
      (∀ i, (codeOfRow i).isTrip = true → (rowAt s i).state = .latched → (rowAt t i).state = .clear) ∧
      (∀ i, reactiveRow i = false → ((codeOfRow i).isTrip = false ∨ (rowAt s i).state ≠ .latched) →
        { rowAt t i with pending := false } = { rowAt s i with pending := false }) ∧
      (∀ f ∈ t.link.outbound.drop s.link.outbound.length, f.notice = true) ∧
      t.store = s.store ∧ t.retained = s.retained ∧ t.grid = s.grid)

/-! ## Fault table -/

/-- A raise makes its row Active: from Clear or Latched it counts, stamps, forgets the acknowledgement and is noticed unless
its class is Record; on an Active row nothing changes; no other row's state changes (R153, R162). A clear takes an Active row to
Clear if it was acknowledged and to Latched if not, and leaves any other row as it is (R154). A raised Trip row captures its
snapshot into its own slot, else into the lowest empty one, else into the oldest in capture order whose row is Clear or Active and
acknowledged, and that row loses it; else its snapshot is lost (R160). -/
def Obligations.RaiseAndClearChangeTheirRow : Prop :=
  ∀ (s : State) (c : FaultCode) (u : Nat), s.faults.rows.length = 79 → 1 ≤ u → u ≤ c.units →
    ((rowAt (raise c u s) (rowOf c u)).state = .active ∧
      ((rowAt s (rowOf c u)).state = .active → (raise c u s).faults = s.faults) ∧
      ((rowAt s (rowOf c u)).state ≠ .active →
        (rowAt (raise c u s) (rowOf c u)).ack = false ∧
        (rowAt (raise c u s) (rowOf c u)).count = min 255 ((rowAt s (rowOf c u)).count + 1) ∧
        (rowAt (raise c u s) (rowOf c u)).lastTime = some s.clock ∧
        (rowAt (raise c u s) (rowOf c u)).lastStamp = some s.evt.stamp ∧
        (classOf s c ≠ .record → (rowAt (raise c u s) (rowOf c u)).pending = true)) ∧
      ∀ i, i ≠ rowOf c u →
        (rowAt (raise c u s) i).state = (rowAt s i).state ∧ (rowAt (raise c u s) i).ack = (rowAt s i).ack) ∧
    ((rowAt s (rowOf c u)).state = .active → (rowAt s (rowOf c u)).ack = true →
      rowAt (clearFault c u s) (rowOf c u) = { rowAt s (rowOf c u) with
        state := .clear, ack := false, firstMark := false
        pending := (rowAt s (rowOf c u)).pending || decide (classOf s c ≠ .record) }) ∧
    ((rowAt s (rowOf c u)).state = .active → (rowAt s (rowOf c u)).ack = false →
      rowAt (clearFault c u s) (rowOf c u) = { rowAt s (rowOf c u) with
        state := .latched, pending := (rowAt s (rowOf c u)).pending || decide (classOf s c ≠ .record) } ∧
      isHeld (clearFault c u s) c u = true) ∧
    ((rowAt s (rowOf c u)).state ≠ .active → (clearFault c u s).faults = s.faults) ∧
    (∀ i, i ≠ rowOf c u → rowAt (clearFault c u s) i = rowAt s i) ∧
    (c.isTrip = true → (rowAt s (rowOf c u)).state ≠ .active → s.faults.slots.length = 8 →
      let t := raise c u s
      let kept (k : Nat) : Prop := ∀ x, s.faults.slots.getD (k - 1) none = some x →
        (rowAt s x.row).state ≠ .clear ∧ ((rowAt s x.row).state = .active → (rowAt s x.row).ack = false)
      (∀ k, 1 ≤ k → k ≤ 8 → (rowAt s (rowOf c u)).slot = some k → CapturedIn s t (rowOf c u) k) ∧
      ((rowAt s (rowOf c u)).slot = none →
        (∀ k, 1 ≤ k → k ≤ 8 → s.faults.slots.getD (k - 1) none = none →
          (∀ n, 1 ≤ n → n < k → s.faults.slots.getD (n - 1) none ≠ none) → CapturedIn s t (rowOf c u) k) ∧
        ((∀ k, 1 ≤ k → k ≤ 8 → s.faults.slots.getD (k - 1) none ≠ none) →
          (∀ older k newer x, s.faults.capture = older ++ k :: newer → 1 ≤ k → k ≤ 8 → (∀ n ∈ older, kept n) →
            s.faults.slots.getD (k - 1) none = some x → x.row ≠ rowOf c u →
            ((rowAt s x.row).state = .clear ∨ ((rowAt s x.row).state = .active ∧ (rowAt s x.row).ack = true)) →
            CapturedIn s t (rowOf c u) k) ∧
          ((∀ n ∈ s.faults.capture, kept n) →
            (rowAt t (rowOf c u)).slot = none ∧ (rowAt t (rowOf c u)).lost = true ∧
            t.faults.slots = s.faults.slots ∧ t.faults.capture = s.faults.capture ∧
            ∀ j, j ≠ rowOf c u → (rowAt t j).slot = (rowAt s j).slot))))

/-- At most one row carries the first-fault mark, and only a Trip row that is not Clear: every raise, clear and acknowledgement
keeps this, and so does every step. A raised Trip row takes the mark when no other Trip row is Active or Latched, and otherwise keeps its mark as it was;
a row that becomes Clear loses it (R157). -/
def Obligations.FirstFaultMarkFollowsItsEpisode : Prop :=
  ∀ (s : State) (c : FaultCode) (u i : Nat), 1 ≤ u → u ≤ c.units → s.faults.rows.length = 79 →
    (FirstFaultSound s → FirstFaultSound (raise c u s) ∧ FirstFaultSound (clearFault c u s) ∧ FirstFaultSound (ackAt i s)) ∧
    (c.isTrip = true → (rowAt s (rowOf c u)).state ≠ .active →
      ((∀ j, j ≠ rowOf c u → (codeOfRow j).isTrip = true → (rowAt s j).state = .clear) →
        (rowAt (raise c u s) (rowOf c u)).firstMark = true) ∧
      (∀ j, j ≠ rowOf c u → (codeOfRow j).isTrip = true → (rowAt s j).state ≠ .clear →
        (rowAt (raise c u s) (rowOf c u)).firstMark = (rowAt s (rowOf c u)).firstMark)) ∧
    (∀ t, FirstFaultSound s → step s = .next t → FirstFaultSound t) ∧
    ((rowAt s (rowOf c u)).state = .active → (rowAt s (rowOf c u)).ack = true →
      (rowAt (clearFault c u s) (rowOf c u)).firstMark = false) ∧
    ((rowAt s i).state = .latched → (rowAt (ackAt i s) i).firstMark = false) ∧
    ∀ j, j ≠ rowOf c u → (rowAt (raise c u s) j).firstMark = (rowAt s j).firstMark

/-! ## Sound states -/

/-- Every step keeps every copy of the settings sound: envelopes, conflicts, curve, slots, windows, setpoints and classes
(R181, R36, R113, R115, R78, R163). That the copies are the working settings, an image whose check passes and a copy kept aside while
a store is in flight rests on logs 8 and 47. -/
def Obligations.StepKeepsTheSettingsSound : Prop :=
  ∀ s t : State, StoreSound s → step s = .next t → StoreSound t

/-- Every step keeps the twist record in its ranges (R123, R124, R126). -/
def Obligations.StepKeepsTheTwistInRange : Prop :=
  ∀ s t : State, TwistSound s → step s = .next t → TwistSound t

/-- Every step keeps the frame queues within their room, and every table and ring at its size (R170, R174, R151, R159, R103,
R113, R63, R148). -/
def Obligations.StepKeepsSizesAndRoom : Prop :=
  ∀ s t : State, QueuesSound s ∧ Sized s → step s = .next t → QueuesSound t ∧ Sized t

/-- No step leaves a yaw drive commanded to run while the brake state is other than Residual (R108). -/
def Obligations.StepKeepsDrivesOffTheBrakes : Prop :=
  ∀ s t : State, DrivesSafe s → step s = .next t → DrivesSafe t

/-- No step leaves more fan channels running than the grant powers, or a failed one running (R63, R75). -/
def Obligations.StepKeepsFansWithinTheirGrant : Prop :=
  ∀ s t : State, FansSafe s → step s = .next t → FansSafe t

/-- Every step keeps the energy within the capacity and the requested and granted powers within their ranges (R92, R15, R20,
R21). -/
def Obligations.StepKeepsEnergyAndPowerInRange : Prop :=
  ∀ s t : State, EnergySound s ∧ PowerSound s → step s = .next t → EnergySound t ∧ PowerSound t

/-- The settings lock, once set, stands through every command but a cold start and a power failure, and while it stands the
settings it covers do not change (R184). -/
def Obligations.LockHoldsUntilColdStart : Prop :=
  ∀ (c : Instr) (s t : State), s.store.lock = true → c ≠ .powerFailure → (∀ u, c ≠ .coldStart u) →
    exec c s = .next t →
    t.store.lock = true ∧ t.store.working.curve = s.store.working.curve ∧ t.store.working.slots = s.store.working.slots ∧
    t.store.working.windows = s.store.working.windows ∧ t.store.working.classes = s.store.working.classes ∧
    ∀ i : SettingId, i.lockable = true → t.store.working.read i = s.store.working.read i

/-- State.reset meets the premises of the step invariants: every copy of the settings in its envelopes (R181), the twist in its
ranges (R123), the queues within their room (R174), every table at its size, no drive off the brakes (R108), no fan beyond its grant
(R63), energy within the capacity (R92), request and granted powers in their ranges, and at most one first-fault mark (R157). The
rules give these ranges; what State.reset holds is the model's choice where no rule gives it: the pins (log 6), the first contents
of the retained domain and the stored image (log 7, their checks as log 8 keeps them) and the claims (log 23). -/
def Obligations.ResetIsSound : Prop :=
  StoreSound State.reset ∧ TwistSound State.reset ∧ QueuesSound State.reset ∧ Sized State.reset ∧ DrivesSafe State.reset ∧
  FansSafe State.reset ∧ EnergySound State.reset ∧ PowerSound State.reset ∧ FirstFaultSound State.reset

/-! ## Step 5 of the yaw sample -/

/-- Step 5 of a yaw sample, from the state `m` that its first four steps, the storm rules and the judged yaw mode leave (their
order by log 20) to the state `r` before the reactions of the event. A storm's wind enters Storm (R141). From Hold with no claim, an
automatic move starts toward the long mean, or the short one, past its threshold (R109, R134), and one that the hard limit bars raises
TWIST_HARD instead and makes an untwist due (R128); a ready untwist starts before it (R131, R132). An automatic move stops at the stop
threshold, with no short mean or with one on the other side, and an untwist at a wind of 80, at once or carried past a window (R110,
R132, R116). An untwist that is due has its wait loaded while the wind is 40 or more (R130). A due clearance starts its move, with
the window and the nearer edge found again from θ (log 28), unless the hard limit bars it (R128), ends outside every window, and
waits while its move runs, in Manual and in Untwist (R117, R118). -/
def Obligations.YawSampleStartsAndStopsMoves : Prop :=
  ∀ (s : State) (a b : Reading) (w : Int), s.powered = true → Sized s →
    let wind := (max 0 (min w 700)).toNat
    let i := sampleWind a b wind (beginEvent s)
    let m := judgeYaw (clearBrakeFault (testCalm (testStormEntry i)))
    let r := sampleMotion wind m
    let idle := m.yaw.motion = .hold ∧ submitted m .yaw = false ∧ m.lines.chainClosed = true
    let automatic := m.yaw.mode = .auto ∨ m.yaw.mode = .storm
    let level := if m.yaw.mode = .storm then (if m.aux.source = .battery ∧ m.aux.lowMark = true then 300 else 150)
      else m.store.working.startLong
    let kind : MoveKind := if m.yaw.mode = .storm then .storm else .auto
    let side (x : Int) : Dir := if x ≥ 0 then .cw else .ccw
    let asked := ∃ x v, m.yaw.longMean = some x ∧ m.yaw.longSpeed = some v ∧ level ≤ x.natAbs ∧ 30 ≤ v
    let started (x : Int) : Prop :=
      (barred m (side x) = false → r.yaw.kind = some kind ∧ r.yaw.direction = some (side x) ∧ r.yaw.target = none ∧
        submitted r .yaw = true ∧ (claimOf r .yaw).ceiling = 11 * availableDrives m) ∧
      (barred m (side x) = true → submitted r .yaw = false ∧ isActive r .twistHard 1 = true ∧ r.yaw.untwist.due = true)
    let stopped : Prop := match windowNow m with
      | none => r.yaw.motion = .ramping ∧ r.yaw.ramp = some ⟨s.clock, 2000⟩ ∧ r.yaw.speed = .falling
      | some n => r.yaw.motion = .moving ∧ r.yaw.continuing = some n
    exec (.yawSample a b w) s = .next (finish (settle r)) ∧
    ((s.mode.current = .parked ∨ s.mode.current = .idle ∨ s.mode.current = .generating) → s.lines.chainClosed = true →
      (∃ v, i.yaw.longSpeed = some v ∧ 250 ≤ v) →
      m.mode.current = .storm ∧ m.mode.target = none ∧ m.mode.cause = .stormWind ∧ m.mode.previous = s.mode.current ∧
      isActive m .stormEntered 1 = true ∧ m.yaw.manualMark = false ∧ m.conv.queue = [] ∧ NoStringRuns m) ∧
    (idle → automatic → m.yaw.clearance = none → m.yaw.rest = none → m.yaw.untwist.ready = false →
      (∀ x v, m.yaw.longMean = some x → m.yaw.longSpeed = some v → level ≤ x.natAbs → 30 ≤ v → started x) ∧
      (¬asked → m.yaw.mode = .auto → ∀ x, m.yaw.shortMean = some x → m.store.working.startShort ≤ x.natAbs → started x) ∧
      (¬asked → (m.yaw.mode = .storm ∨ ∀ x, m.yaw.shortMean = some x → x.natAbs < m.store.working.startShort) →
        submitted r .yaw = false)) ∧
    (idle → m.yaw.mode = .auto → m.yaw.clearance = none → m.yaw.untwist.ready = true → wind < 40 →
      (m.mode.current = .parked ∨ m.mode.current = .idle ∨ (m.mode.current = .isolated ∧ m.aux.lowMark = false)) →
      ∀ x, theta m = some x → r.yaw.kind = some .untwist ∧ r.yaw.target = some 0 ∧
        r.yaw.direction = some (if x > 0 then .ccw else .cw) ∧ r.yaw.untwist.inFlight = true ∧
        r.yaw.untwist.ready = false ∧ r.yaw.untwist.wait = none ∧ r.yaw.mode = .untwist ∧ submitted r .yaw = true ∧
        isActive r .untwistDue 1 = false) ∧
    (m.yaw.motion = .moving → m.yaw.continuing = none → (m.yaw.kind = some .auto ∨ m.yaw.kind = some .storm) →
      (m.yaw.shortMean = none → stopped) ∧
      ∀ x, m.yaw.shortMean = some x →
        let reached := x.natAbs ≤ (if m.yaw.mode = .storm then 50 else m.store.working.stop) ∨
          (m.yaw.direction = some .cw ∧ x < 0) ∨ (m.yaw.direction = some .ccw ∧ x > 0)
        (reached → stopped) ∧ (¬reached → r.yaw.motion = .moving ∧ r.yaw.continuing = none)) ∧
    (m.yaw.motion = .moving → m.yaw.continuing = none → m.yaw.kind = some .untwist →
      ∀ v, m.yaw.shortSpeed = some v → (80 ≤ v → stopped) ∧ (v < 80 → r.yaw.motion = .moving ∧ r.yaw.continuing = none)) ∧
    (m.yaw.untwist.due = true → m.yaw.untwist.inFlight = false → (theta m).isSome = true → m.mode.current ≠ .storm →
      (40 ≤ wind → r.yaw.untwist.wait = some ⟨s.clock, 600000⟩ ∧ r.yaw.untwist.ready = false) ∧
      (wind < 40 → m.yaw.untwist.ready = false → m.yaw.untwist.wait = none →
        r.yaw.untwist.wait = some ⟨s.clock, 600000⟩ ∧ r.yaw.untwist.ready = false)) ∧
    (m.yaw.clearance.isSome = true →
      ((m.yaw.manualMark = true ∨ m.yaw.mode = .untwist ∨ (m.yaw.kind = some .clearance ∧ m.yaw.motion ≠ .hold)) →
        r.yaw.clearance = m.yaw.clearance) ∧
      (m.yaw.manualMark = false → m.yaw.mode ≠ .untwist → ¬(m.yaw.kind = some .clearance ∧ m.yaw.motion ≠ .hold) →
        ∀ x, theta m = some x →
          (windowAt m x = none → r.yaw.clearance = none ∧ isActive r .yawDwellForced 1 = false) ∧
          (∀ n, windowAt m x = some n → idle → automatic →
            let edge := if x - (windowOf m n).base ≤ (windowOf m n).limit - x then (windowOf m n).base
              else (windowOf m n).limit
            let away : Dir := if edge = (windowOf m n).base then .ccw else .cw
            (barred m away = false → r.yaw.kind = some .clearance ∧ r.yaw.target = some edge ∧
              r.yaw.clearance = some ⟨n, edge⟩ ∧ r.yaw.direction = some away ∧ submitted r .yaw = true) ∧
            (barred m away = true → submitted r .yaw = false ∧ r.yaw.clearance = m.yaw.clearance))))
end

