-- ==== Sys2Proof/Laws/State.lean ====
section
/-! SUPPORT. One lemma per field and per update of the state: each is true by unfolding the update. -/

namespace Sys2Proof.Machine

/-! ### beginEvent -/

@[simp] theorem beginEvent_pending (s : State) : (beginEvent s).pending = s.pending := rfl
@[simp] theorem beginEvent_powered (s : State) : (beginEvent s).powered = s.powered := rfl
@[simp] theorem beginEvent_lines (s : State) : (beginEvent s).lines = s.lines := rfl
@[simp] theorem beginEvent_clock (s : State) : (beginEvent s).clock = s.clock := rfl
@[simp] theorem beginEvent_conv (s : State) : (beginEvent s).conv = s.conv := rfl
@[simp] theorem beginEvent_grid (s : State) : (beginEvent s).grid = s.grid := rfl
@[simp] theorem beginEvent_therm (s : State) : (beginEvent s).therm = s.therm := rfl
@[simp] theorem beginEvent_cool (s : State) : (beginEvent s).cool = s.cool := rfl
@[simp] theorem beginEvent_aux (s : State) : (beginEvent s).aux = s.aux := rfl
@[simp] theorem beginEvent_yaw (s : State) : (beginEvent s).yaw = s.yaw := rfl
@[simp] theorem beginEvent_mode (s : State) : (beginEvent s).mode = s.mode := rfl
@[simp] theorem beginEvent_faults (s : State) : (beginEvent s).faults = s.faults := rfl
@[simp] theorem beginEvent_link (s : State) : (beginEvent s).link = s.link := rfl
@[simp] theorem beginEvent_store (s : State) : (beginEvent s).store = s.store := rfl
@[simp] theorem beginEvent_retained (s : State) : (beginEvent s).retained = s.retained := rfl

/-! ### modYaw -/

@[simp] theorem modYaw_pending (f : Yaw → Yaw) (s : State) : (modYaw f s).pending = s.pending := rfl
@[simp] theorem modYaw_powered (f : Yaw → Yaw) (s : State) : (modYaw f s).powered = s.powered := rfl
@[simp] theorem modYaw_lines (f : Yaw → Yaw) (s : State) : (modYaw f s).lines = s.lines := rfl
@[simp] theorem modYaw_clock (f : Yaw → Yaw) (s : State) : (modYaw f s).clock = s.clock := rfl
@[simp] theorem modYaw_evt (f : Yaw → Yaw) (s : State) : (modYaw f s).evt = s.evt := rfl
@[simp] theorem modYaw_conv (f : Yaw → Yaw) (s : State) : (modYaw f s).conv = s.conv := rfl
@[simp] theorem modYaw_grid (f : Yaw → Yaw) (s : State) : (modYaw f s).grid = s.grid := rfl
@[simp] theorem modYaw_therm (f : Yaw → Yaw) (s : State) : (modYaw f s).therm = s.therm := rfl
@[simp] theorem modYaw_cool (f : Yaw → Yaw) (s : State) : (modYaw f s).cool = s.cool := rfl
@[simp] theorem modYaw_aux (f : Yaw → Yaw) (s : State) : (modYaw f s).aux = s.aux := rfl
@[simp] theorem modYaw_mode (f : Yaw → Yaw) (s : State) : (modYaw f s).mode = s.mode := rfl
@[simp] theorem modYaw_faults (f : Yaw → Yaw) (s : State) : (modYaw f s).faults = s.faults := rfl
@[simp] theorem modYaw_link (f : Yaw → Yaw) (s : State) : (modYaw f s).link = s.link := rfl
@[simp] theorem modYaw_store (f : Yaw → Yaw) (s : State) : (modYaw f s).store = s.store := rfl
@[simp] theorem modYaw_retained (f : Yaw → Yaw) (s : State) : (modYaw f s).retained = s.retained := rfl

@[simp] theorem modYaw_yaw (f : Yaw → Yaw) (s : State) : (modYaw f s).yaw = f s.yaw := rfl

/-! ### windowsAct -/

@[simp] theorem windowsAct_pending (s : State) : (windowsAct s).pending = s.pending := rfl
@[simp] theorem windowsAct_powered (s : State) : (windowsAct s).powered = s.powered := rfl
@[simp] theorem windowsAct_lines (s : State) : (windowsAct s).lines = s.lines := rfl
@[simp] theorem windowsAct_clock (s : State) : (windowsAct s).clock = s.clock := rfl
@[simp] theorem windowsAct_evt (s : State) : (windowsAct s).evt = s.evt := rfl
@[simp] theorem windowsAct_conv (s : State) : (windowsAct s).conv = s.conv := rfl
@[simp] theorem windowsAct_grid (s : State) : (windowsAct s).grid = s.grid := rfl
@[simp] theorem windowsAct_therm (s : State) : (windowsAct s).therm = s.therm := rfl
@[simp] theorem windowsAct_cool (s : State) : (windowsAct s).cool = s.cool := rfl
@[simp] theorem windowsAct_aux (s : State) : (windowsAct s).aux = s.aux := rfl
@[simp] theorem windowsAct_mode (s : State) : (windowsAct s).mode = s.mode := rfl
@[simp] theorem windowsAct_faults (s : State) : (windowsAct s).faults = s.faults := rfl
@[simp] theorem windowsAct_link (s : State) : (windowsAct s).link = s.link := rfl
@[simp] theorem windowsAct_store (s : State) : (windowsAct s).store = s.store := rfl
@[simp] theorem windowsAct_retained (s : State) : (windowsAct s).retained = s.retained := rfl

@[simp] theorem windowsAct_yaw (s : State) :
    (windowsAct s).yaw = { s.yaw with windows := s.store.working.windows } := rfl

/-! ### modLink -/

@[simp] theorem modLink_pending (f : Link → Link) (s : State) : (modLink f s).pending = s.pending := rfl
@[simp] theorem modLink_powered (f : Link → Link) (s : State) : (modLink f s).powered = s.powered := rfl
@[simp] theorem modLink_lines (f : Link → Link) (s : State) : (modLink f s).lines = s.lines := rfl
@[simp] theorem modLink_clock (f : Link → Link) (s : State) : (modLink f s).clock = s.clock := rfl
@[simp] theorem modLink_evt (f : Link → Link) (s : State) : (modLink f s).evt = s.evt := rfl
@[simp] theorem modLink_conv (f : Link → Link) (s : State) : (modLink f s).conv = s.conv := rfl
@[simp] theorem modLink_grid (f : Link → Link) (s : State) : (modLink f s).grid = s.grid := rfl
@[simp] theorem modLink_therm (f : Link → Link) (s : State) : (modLink f s).therm = s.therm := rfl
@[simp] theorem modLink_cool (f : Link → Link) (s : State) : (modLink f s).cool = s.cool := rfl
@[simp] theorem modLink_aux (f : Link → Link) (s : State) : (modLink f s).aux = s.aux := rfl
@[simp] theorem modLink_yaw (f : Link → Link) (s : State) : (modLink f s).yaw = s.yaw := rfl
@[simp] theorem modLink_mode (f : Link → Link) (s : State) : (modLink f s).mode = s.mode := rfl
@[simp] theorem modLink_faults (f : Link → Link) (s : State) : (modLink f s).faults = s.faults := rfl
@[simp] theorem modLink_store (f : Link → Link) (s : State) : (modLink f s).store = s.store := rfl
@[simp] theorem modLink_retained (f : Link → Link) (s : State) : (modLink f s).retained = s.retained := rfl

@[simp] theorem modLink_link (f : Link → Link) (s : State) : (modLink f s).link = f s.link := rfl

/-! ### modGrid -/

@[simp] theorem modGrid_pending (f : Grid → Grid) (s : State) : (modGrid f s).pending = s.pending := rfl
@[simp] theorem modGrid_powered (f : Grid → Grid) (s : State) : (modGrid f s).powered = s.powered := rfl
@[simp] theorem modGrid_lines (f : Grid → Grid) (s : State) : (modGrid f s).lines = s.lines := rfl
@[simp] theorem modGrid_clock (f : Grid → Grid) (s : State) : (modGrid f s).clock = s.clock := rfl
@[simp] theorem modGrid_evt (f : Grid → Grid) (s : State) : (modGrid f s).evt = s.evt := rfl
@[simp] theorem modGrid_conv (f : Grid → Grid) (s : State) : (modGrid f s).conv = s.conv := rfl
@[simp] theorem modGrid_therm (f : Grid → Grid) (s : State) : (modGrid f s).therm = s.therm := rfl
@[simp] theorem modGrid_cool (f : Grid → Grid) (s : State) : (modGrid f s).cool = s.cool := rfl
@[simp] theorem modGrid_aux (f : Grid → Grid) (s : State) : (modGrid f s).aux = s.aux := rfl
@[simp] theorem modGrid_yaw (f : Grid → Grid) (s : State) : (modGrid f s).yaw = s.yaw := rfl
@[simp] theorem modGrid_mode (f : Grid → Grid) (s : State) : (modGrid f s).mode = s.mode := rfl
@[simp] theorem modGrid_faults (f : Grid → Grid) (s : State) : (modGrid f s).faults = s.faults := rfl
@[simp] theorem modGrid_link (f : Grid → Grid) (s : State) : (modGrid f s).link = s.link := rfl
@[simp] theorem modGrid_store (f : Grid → Grid) (s : State) : (modGrid f s).store = s.store := rfl
@[simp] theorem modGrid_retained (f : Grid → Grid) (s : State) : (modGrid f s).retained = s.retained := rfl

@[simp] theorem modGrid_grid (f : Grid → Grid) (s : State) : (modGrid f s).grid = f s.grid := rfl

/-! ### modWorking -/

@[simp] theorem modWorking_pending (f : Settings → Settings) (s : State) : (modWorking f s).pending = s.pending := rfl
@[simp] theorem modWorking_powered (f : Settings → Settings) (s : State) : (modWorking f s).powered = s.powered := rfl
@[simp] theorem modWorking_lines (f : Settings → Settings) (s : State) : (modWorking f s).lines = s.lines := rfl
@[simp] theorem modWorking_clock (f : Settings → Settings) (s : State) : (modWorking f s).clock = s.clock := rfl
@[simp] theorem modWorking_evt (f : Settings → Settings) (s : State) : (modWorking f s).evt = s.evt := rfl
@[simp] theorem modWorking_conv (f : Settings → Settings) (s : State) : (modWorking f s).conv = s.conv := rfl
@[simp] theorem modWorking_grid (f : Settings → Settings) (s : State) : (modWorking f s).grid = s.grid := rfl
@[simp] theorem modWorking_therm (f : Settings → Settings) (s : State) : (modWorking f s).therm = s.therm := rfl
@[simp] theorem modWorking_cool (f : Settings → Settings) (s : State) : (modWorking f s).cool = s.cool := rfl
@[simp] theorem modWorking_aux (f : Settings → Settings) (s : State) : (modWorking f s).aux = s.aux := rfl
@[simp] theorem modWorking_yaw (f : Settings → Settings) (s : State) : (modWorking f s).yaw = s.yaw := rfl
@[simp] theorem modWorking_mode (f : Settings → Settings) (s : State) : (modWorking f s).mode = s.mode := rfl
@[simp] theorem modWorking_faults (f : Settings → Settings) (s : State) : (modWorking f s).faults = s.faults := rfl
@[simp] theorem modWorking_link (f : Settings → Settings) (s : State) : (modWorking f s).link = s.link := rfl
@[simp] theorem modWorking_retained (f : Settings → Settings) (s : State) : (modWorking f s).retained = s.retained := rfl

/-! ### modStr -/

@[simp] theorem modStr_pending (k : StringId) (f : StringRec → StringRec) (s : State) : (modStr k f s).pending = s.pending := rfl
@[simp] theorem modStr_powered (k : StringId) (f : StringRec → StringRec) (s : State) : (modStr k f s).powered = s.powered := rfl
@[simp] theorem modStr_lines (k : StringId) (f : StringRec → StringRec) (s : State) : (modStr k f s).lines = s.lines := rfl
@[simp] theorem modStr_clock (k : StringId) (f : StringRec → StringRec) (s : State) : (modStr k f s).clock = s.clock := rfl
@[simp] theorem modStr_evt (k : StringId) (f : StringRec → StringRec) (s : State) : (modStr k f s).evt = s.evt := rfl
@[simp] theorem modStr_grid (k : StringId) (f : StringRec → StringRec) (s : State) : (modStr k f s).grid = s.grid := rfl
@[simp] theorem modStr_therm (k : StringId) (f : StringRec → StringRec) (s : State) : (modStr k f s).therm = s.therm := rfl
@[simp] theorem modStr_cool (k : StringId) (f : StringRec → StringRec) (s : State) : (modStr k f s).cool = s.cool := rfl
@[simp] theorem modStr_aux (k : StringId) (f : StringRec → StringRec) (s : State) : (modStr k f s).aux = s.aux := rfl
@[simp] theorem modStr_yaw (k : StringId) (f : StringRec → StringRec) (s : State) : (modStr k f s).yaw = s.yaw := rfl
@[simp] theorem modStr_mode (k : StringId) (f : StringRec → StringRec) (s : State) : (modStr k f s).mode = s.mode := rfl
@[simp] theorem modStr_faults (k : StringId) (f : StringRec → StringRec) (s : State) : (modStr k f s).faults = s.faults := rfl
@[simp] theorem modStr_link (k : StringId) (f : StringRec → StringRec) (s : State) : (modStr k f s).link = s.link := rfl
@[simp] theorem modStr_store (k : StringId) (f : StringRec → StringRec) (s : State) : (modStr k f s).store = s.store := rfl
@[simp] theorem modStr_retained (k : StringId) (f : StringRec → StringRec) (s : State) : (modStr k f s).retained = s.retained := rfl

/-! ### modLoop -/

@[simp] theorem modLoop_pending (l : Liquid) (f : LiquidLoop → LiquidLoop) (s : State) : (modLoop l f s).pending = s.pending := rfl
@[simp] theorem modLoop_powered (l : Liquid) (f : LiquidLoop → LiquidLoop) (s : State) : (modLoop l f s).powered = s.powered := rfl
@[simp] theorem modLoop_lines (l : Liquid) (f : LiquidLoop → LiquidLoop) (s : State) : (modLoop l f s).lines = s.lines := rfl
@[simp] theorem modLoop_clock (l : Liquid) (f : LiquidLoop → LiquidLoop) (s : State) : (modLoop l f s).clock = s.clock := rfl
@[simp] theorem modLoop_evt (l : Liquid) (f : LiquidLoop → LiquidLoop) (s : State) : (modLoop l f s).evt = s.evt := rfl
@[simp] theorem modLoop_conv (l : Liquid) (f : LiquidLoop → LiquidLoop) (s : State) : (modLoop l f s).conv = s.conv := rfl
@[simp] theorem modLoop_grid (l : Liquid) (f : LiquidLoop → LiquidLoop) (s : State) : (modLoop l f s).grid = s.grid := rfl
@[simp] theorem modLoop_therm (l : Liquid) (f : LiquidLoop → LiquidLoop) (s : State) : (modLoop l f s).therm = s.therm := rfl
@[simp] theorem modLoop_aux (l : Liquid) (f : LiquidLoop → LiquidLoop) (s : State) : (modLoop l f s).aux = s.aux := rfl
@[simp] theorem modLoop_yaw (l : Liquid) (f : LiquidLoop → LiquidLoop) (s : State) : (modLoop l f s).yaw = s.yaw := rfl
@[simp] theorem modLoop_mode (l : Liquid) (f : LiquidLoop → LiquidLoop) (s : State) : (modLoop l f s).mode = s.mode := rfl
@[simp] theorem modLoop_faults (l : Liquid) (f : LiquidLoop → LiquidLoop) (s : State) : (modLoop l f s).faults = s.faults := rfl
@[simp] theorem modLoop_link (l : Liquid) (f : LiquidLoop → LiquidLoop) (s : State) : (modLoop l f s).link = s.link := rfl
@[simp] theorem modLoop_store (l : Liquid) (f : LiquidLoop → LiquidLoop) (s : State) : (modLoop l f s).store = s.store := rfl
@[simp] theorem modLoop_retained (l : Liquid) (f : LiquidLoop → LiquidLoop) (s : State) : (modLoop l f s).retained = s.retained := rfl

/-! ### modAir -/

@[simp] theorem modAir_pending (f : AirLoop → AirLoop) (s : State) : (modAir f s).pending = s.pending := rfl
@[simp] theorem modAir_powered (f : AirLoop → AirLoop) (s : State) : (modAir f s).powered = s.powered := rfl
@[simp] theorem modAir_lines (f : AirLoop → AirLoop) (s : State) : (modAir f s).lines = s.lines := rfl
@[simp] theorem modAir_clock (f : AirLoop → AirLoop) (s : State) : (modAir f s).clock = s.clock := rfl
@[simp] theorem modAir_evt (f : AirLoop → AirLoop) (s : State) : (modAir f s).evt = s.evt := rfl
@[simp] theorem modAir_conv (f : AirLoop → AirLoop) (s : State) : (modAir f s).conv = s.conv := rfl
@[simp] theorem modAir_grid (f : AirLoop → AirLoop) (s : State) : (modAir f s).grid = s.grid := rfl
@[simp] theorem modAir_therm (f : AirLoop → AirLoop) (s : State) : (modAir f s).therm = s.therm := rfl
@[simp] theorem modAir_aux (f : AirLoop → AirLoop) (s : State) : (modAir f s).aux = s.aux := rfl
@[simp] theorem modAir_yaw (f : AirLoop → AirLoop) (s : State) : (modAir f s).yaw = s.yaw := rfl
@[simp] theorem modAir_mode (f : AirLoop → AirLoop) (s : State) : (modAir f s).mode = s.mode := rfl
@[simp] theorem modAir_faults (f : AirLoop → AirLoop) (s : State) : (modAir f s).faults = s.faults := rfl
@[simp] theorem modAir_link (f : AirLoop → AirLoop) (s : State) : (modAir f s).link = s.link := rfl
@[simp] theorem modAir_store (f : AirLoop → AirLoop) (s : State) : (modAir f s).store = s.store := rfl
@[simp] theorem modAir_retained (f : AirLoop → AirLoop) (s : State) : (modAir f s).retained = s.retained := rfl

/-! ### modTwist -/

@[simp] theorem modTwist_pending (f : TwistRecord → TwistRecord) (s : State) : (modTwist f s).pending = s.pending := rfl
@[simp] theorem modTwist_powered (f : TwistRecord → TwistRecord) (s : State) : (modTwist f s).powered = s.powered := rfl
@[simp] theorem modTwist_lines (f : TwistRecord → TwistRecord) (s : State) : (modTwist f s).lines = s.lines := rfl
@[simp] theorem modTwist_clock (f : TwistRecord → TwistRecord) (s : State) : (modTwist f s).clock = s.clock := rfl
@[simp] theorem modTwist_evt (f : TwistRecord → TwistRecord) (s : State) : (modTwist f s).evt = s.evt := rfl
@[simp] theorem modTwist_conv (f : TwistRecord → TwistRecord) (s : State) : (modTwist f s).conv = s.conv := rfl
@[simp] theorem modTwist_grid (f : TwistRecord → TwistRecord) (s : State) : (modTwist f s).grid = s.grid := rfl
@[simp] theorem modTwist_therm (f : TwistRecord → TwistRecord) (s : State) : (modTwist f s).therm = s.therm := rfl
@[simp] theorem modTwist_cool (f : TwistRecord → TwistRecord) (s : State) : (modTwist f s).cool = s.cool := rfl
@[simp] theorem modTwist_aux (f : TwistRecord → TwistRecord) (s : State) : (modTwist f s).aux = s.aux := rfl
@[simp] theorem modTwist_yaw (f : TwistRecord → TwistRecord) (s : State) : (modTwist f s).yaw = s.yaw := rfl
@[simp] theorem modTwist_mode (f : TwistRecord → TwistRecord) (s : State) : (modTwist f s).mode = s.mode := rfl
@[simp] theorem modTwist_faults (f : TwistRecord → TwistRecord) (s : State) : (modTwist f s).faults = s.faults := rfl
@[simp] theorem modTwist_link (f : TwistRecord → TwistRecord) (s : State) : (modTwist f s).link = s.link := rfl
@[simp] theorem modTwist_store (f : TwistRecord → TwistRecord) (s : State) : (modTwist f s).store = s.store := rfl

/-! ### setLines -/

@[simp] theorem setLines_pending (f : Lines → Lines) (s : State) : (setLines f s).pending = s.pending := rfl
@[simp] theorem setLines_powered (f : Lines → Lines) (s : State) : (setLines f s).powered = s.powered := rfl
@[simp] theorem setLines_clock (f : Lines → Lines) (s : State) : (setLines f s).clock = s.clock := rfl
@[simp] theorem setLines_evt (f : Lines → Lines) (s : State) : (setLines f s).evt = s.evt := rfl
@[simp] theorem setLines_conv (f : Lines → Lines) (s : State) : (setLines f s).conv = s.conv := rfl
@[simp] theorem setLines_grid (f : Lines → Lines) (s : State) : (setLines f s).grid = s.grid := rfl
@[simp] theorem setLines_therm (f : Lines → Lines) (s : State) : (setLines f s).therm = s.therm := rfl
@[simp] theorem setLines_cool (f : Lines → Lines) (s : State) : (setLines f s).cool = s.cool := rfl
@[simp] theorem setLines_aux (f : Lines → Lines) (s : State) : (setLines f s).aux = s.aux := rfl
@[simp] theorem setLines_yaw (f : Lines → Lines) (s : State) : (setLines f s).yaw = s.yaw := rfl
@[simp] theorem setLines_mode (f : Lines → Lines) (s : State) : (setLines f s).mode = s.mode := rfl
@[simp] theorem setLines_faults (f : Lines → Lines) (s : State) : (setLines f s).faults = s.faults := rfl
@[simp] theorem setLines_link (f : Lines → Lines) (s : State) : (setLines f s).link = s.link := rfl
@[simp] theorem setLines_store (f : Lines → Lines) (s : State) : (setLines f s).store = s.store := rfl
@[simp] theorem setLines_retained (f : Lines → Lines) (s : State) : (setLines f s).retained = s.retained := rfl

/-! ### setQueue -/

@[simp] theorem setQueue_pending (q : List StringId) (s : State) : (setQueue q s).pending = s.pending := rfl
@[simp] theorem setQueue_powered (q : List StringId) (s : State) : (setQueue q s).powered = s.powered := rfl
@[simp] theorem setQueue_lines (q : List StringId) (s : State) : (setQueue q s).lines = s.lines := rfl
@[simp] theorem setQueue_clock (q : List StringId) (s : State) : (setQueue q s).clock = s.clock := rfl
@[simp] theorem setQueue_evt (q : List StringId) (s : State) : (setQueue q s).evt = s.evt := rfl
@[simp] theorem setQueue_grid (q : List StringId) (s : State) : (setQueue q s).grid = s.grid := rfl
@[simp] theorem setQueue_therm (q : List StringId) (s : State) : (setQueue q s).therm = s.therm := rfl
@[simp] theorem setQueue_cool (q : List StringId) (s : State) : (setQueue q s).cool = s.cool := rfl
@[simp] theorem setQueue_aux (q : List StringId) (s : State) : (setQueue q s).aux = s.aux := rfl
@[simp] theorem setQueue_yaw (q : List StringId) (s : State) : (setQueue q s).yaw = s.yaw := rfl
@[simp] theorem setQueue_mode (q : List StringId) (s : State) : (setQueue q s).mode = s.mode := rfl
@[simp] theorem setQueue_faults (q : List StringId) (s : State) : (setQueue q s).faults = s.faults := rfl
@[simp] theorem setQueue_link (q : List StringId) (s : State) : (setQueue q s).link = s.link := rfl
@[simp] theorem setQueue_store (q : List StringId) (s : State) : (setQueue q s).store = s.store := rfl
@[simp] theorem setQueue_retained (q : List StringId) (s : State) : (setQueue q s).retained = s.retained := rfl

/-! ### raise -/

@[simp] theorem raise_pending (c : FaultCode) (unit : Nat) (s : State) : (raise c unit s).pending = s.pending := rfl
@[simp] theorem raise_powered (c : FaultCode) (unit : Nat) (s : State) : (raise c unit s).powered = s.powered := rfl
@[simp] theorem raise_lines (c : FaultCode) (unit : Nat) (s : State) : (raise c unit s).lines = s.lines := rfl
@[simp] theorem raise_clock (c : FaultCode) (unit : Nat) (s : State) : (raise c unit s).clock = s.clock := rfl
@[simp] theorem raise_evt (c : FaultCode) (unit : Nat) (s : State) : (raise c unit s).evt = s.evt := rfl
@[simp] theorem raise_conv (c : FaultCode) (unit : Nat) (s : State) : (raise c unit s).conv = s.conv := rfl
@[simp] theorem raise_grid (c : FaultCode) (unit : Nat) (s : State) : (raise c unit s).grid = s.grid := rfl
@[simp] theorem raise_therm (c : FaultCode) (unit : Nat) (s : State) : (raise c unit s).therm = s.therm := rfl
@[simp] theorem raise_cool (c : FaultCode) (unit : Nat) (s : State) : (raise c unit s).cool = s.cool := rfl
@[simp] theorem raise_aux (c : FaultCode) (unit : Nat) (s : State) : (raise c unit s).aux = s.aux := rfl
@[simp] theorem raise_yaw (c : FaultCode) (unit : Nat) (s : State) : (raise c unit s).yaw = s.yaw := rfl
@[simp] theorem raise_mode (c : FaultCode) (unit : Nat) (s : State) : (raise c unit s).mode = s.mode := rfl
@[simp] theorem raise_link (c : FaultCode) (unit : Nat) (s : State) : (raise c unit s).link = s.link := rfl
@[simp] theorem raise_store (c : FaultCode) (unit : Nat) (s : State) : (raise c unit s).store = s.store := rfl
@[simp] theorem raise_retained (c : FaultCode) (unit : Nat) (s : State) : (raise c unit s).retained = s.retained := rfl

/-! ### clearFault -/

@[simp] theorem clearFault_pending (c : FaultCode) (unit : Nat) (s : State) : (clearFault c unit s).pending = s.pending := rfl
@[simp] theorem clearFault_powered (c : FaultCode) (unit : Nat) (s : State) : (clearFault c unit s).powered = s.powered := rfl
@[simp] theorem clearFault_lines (c : FaultCode) (unit : Nat) (s : State) : (clearFault c unit s).lines = s.lines := rfl
@[simp] theorem clearFault_clock (c : FaultCode) (unit : Nat) (s : State) : (clearFault c unit s).clock = s.clock := rfl
@[simp] theorem clearFault_evt (c : FaultCode) (unit : Nat) (s : State) : (clearFault c unit s).evt = s.evt := rfl
@[simp] theorem clearFault_conv (c : FaultCode) (unit : Nat) (s : State) : (clearFault c unit s).conv = s.conv := rfl
@[simp] theorem clearFault_grid (c : FaultCode) (unit : Nat) (s : State) : (clearFault c unit s).grid = s.grid := rfl
@[simp] theorem clearFault_therm (c : FaultCode) (unit : Nat) (s : State) : (clearFault c unit s).therm = s.therm := rfl
@[simp] theorem clearFault_cool (c : FaultCode) (unit : Nat) (s : State) : (clearFault c unit s).cool = s.cool := rfl
@[simp] theorem clearFault_aux (c : FaultCode) (unit : Nat) (s : State) : (clearFault c unit s).aux = s.aux := rfl
@[simp] theorem clearFault_yaw (c : FaultCode) (unit : Nat) (s : State) : (clearFault c unit s).yaw = s.yaw := rfl
@[simp] theorem clearFault_mode (c : FaultCode) (unit : Nat) (s : State) : (clearFault c unit s).mode = s.mode := rfl
@[simp] theorem clearFault_link (c : FaultCode) (unit : Nat) (s : State) : (clearFault c unit s).link = s.link := rfl
@[simp] theorem clearFault_store (c : FaultCode) (unit : Nat) (s : State) : (clearFault c unit s).store = s.store := rfl
@[simp] theorem clearFault_retained (c : FaultCode) (unit : Nat) (s : State) : (clearFault c unit s).retained = s.retained := rfl

/-! ### ackWhere -/

@[simp] theorem ackWhere_pending (p : Nat → FaultRow → Bool) (s : State) : (ackWhere p s).pending = s.pending := rfl
@[simp] theorem ackWhere_powered (p : Nat → FaultRow → Bool) (s : State) : (ackWhere p s).powered = s.powered := rfl
@[simp] theorem ackWhere_lines (p : Nat → FaultRow → Bool) (s : State) : (ackWhere p s).lines = s.lines := rfl
@[simp] theorem ackWhere_clock (p : Nat → FaultRow → Bool) (s : State) : (ackWhere p s).clock = s.clock := rfl
@[simp] theorem ackWhere_evt (p : Nat → FaultRow → Bool) (s : State) : (ackWhere p s).evt = s.evt := rfl
@[simp] theorem ackWhere_conv (p : Nat → FaultRow → Bool) (s : State) : (ackWhere p s).conv = s.conv := rfl
@[simp] theorem ackWhere_grid (p : Nat → FaultRow → Bool) (s : State) : (ackWhere p s).grid = s.grid := rfl
@[simp] theorem ackWhere_therm (p : Nat → FaultRow → Bool) (s : State) : (ackWhere p s).therm = s.therm := rfl
@[simp] theorem ackWhere_cool (p : Nat → FaultRow → Bool) (s : State) : (ackWhere p s).cool = s.cool := rfl
@[simp] theorem ackWhere_aux (p : Nat → FaultRow → Bool) (s : State) : (ackWhere p s).aux = s.aux := rfl
@[simp] theorem ackWhere_yaw (p : Nat → FaultRow → Bool) (s : State) : (ackWhere p s).yaw = s.yaw := rfl
@[simp] theorem ackWhere_mode (p : Nat → FaultRow → Bool) (s : State) : (ackWhere p s).mode = s.mode := rfl
@[simp] theorem ackWhere_link (p : Nat → FaultRow → Bool) (s : State) : (ackWhere p s).link = s.link := rfl
@[simp] theorem ackWhere_store (p : Nat → FaultRow → Bool) (s : State) : (ackWhere p s).store = s.store := rfl
@[simp] theorem ackWhere_retained (p : Nat → FaultRow → Bool) (s : State) : (ackWhere p s).retained = s.retained := rfl

/-! ### setCeiling -/

@[simp] theorem setCeiling_pending (id : ClaimId) (n : Nat) (s : State) : (setCeiling id n s).pending = s.pending := rfl
@[simp] theorem setCeiling_powered (id : ClaimId) (n : Nat) (s : State) : (setCeiling id n s).powered = s.powered := rfl
@[simp] theorem setCeiling_lines (id : ClaimId) (n : Nat) (s : State) : (setCeiling id n s).lines = s.lines := rfl
@[simp] theorem setCeiling_clock (id : ClaimId) (n : Nat) (s : State) : (setCeiling id n s).clock = s.clock := rfl
@[simp] theorem setCeiling_evt (id : ClaimId) (n : Nat) (s : State) : (setCeiling id n s).evt = s.evt := rfl
@[simp] theorem setCeiling_conv (id : ClaimId) (n : Nat) (s : State) : (setCeiling id n s).conv = s.conv := rfl
@[simp] theorem setCeiling_grid (id : ClaimId) (n : Nat) (s : State) : (setCeiling id n s).grid = s.grid := rfl
@[simp] theorem setCeiling_therm (id : ClaimId) (n : Nat) (s : State) : (setCeiling id n s).therm = s.therm := rfl
@[simp] theorem setCeiling_cool (id : ClaimId) (n : Nat) (s : State) : (setCeiling id n s).cool = s.cool := rfl
@[simp] theorem setCeiling_yaw (id : ClaimId) (n : Nat) (s : State) : (setCeiling id n s).yaw = s.yaw := rfl
@[simp] theorem setCeiling_mode (id : ClaimId) (n : Nat) (s : State) : (setCeiling id n s).mode = s.mode := rfl
@[simp] theorem setCeiling_faults (id : ClaimId) (n : Nat) (s : State) : (setCeiling id n s).faults = s.faults := rfl
@[simp] theorem setCeiling_link (id : ClaimId) (n : Nat) (s : State) : (setCeiling id n s).link = s.link := rfl
@[simp] theorem setCeiling_store (id : ClaimId) (n : Nat) (s : State) : (setCeiling id n s).store = s.store := rfl
@[simp] theorem setCeiling_retained (id : ClaimId) (n : Nat) (s : State) : (setCeiling id n s).retained = s.retained := rfl

/-! ### submitClaim -/

@[simp] theorem submitClaim_pending (id : ClaimId) (n : Nat) (s : State) : (submitClaim id n s).pending = s.pending := rfl
@[simp] theorem submitClaim_powered (id : ClaimId) (n : Nat) (s : State) : (submitClaim id n s).powered = s.powered := rfl
@[simp] theorem submitClaim_lines (id : ClaimId) (n : Nat) (s : State) : (submitClaim id n s).lines = s.lines := rfl
@[simp] theorem submitClaim_clock (id : ClaimId) (n : Nat) (s : State) : (submitClaim id n s).clock = s.clock := rfl
@[simp] theorem submitClaim_evt (id : ClaimId) (n : Nat) (s : State) : (submitClaim id n s).evt = s.evt := rfl
@[simp] theorem submitClaim_conv (id : ClaimId) (n : Nat) (s : State) : (submitClaim id n s).conv = s.conv := rfl
@[simp] theorem submitClaim_grid (id : ClaimId) (n : Nat) (s : State) : (submitClaim id n s).grid = s.grid := rfl
@[simp] theorem submitClaim_therm (id : ClaimId) (n : Nat) (s : State) : (submitClaim id n s).therm = s.therm := rfl
@[simp] theorem submitClaim_cool (id : ClaimId) (n : Nat) (s : State) : (submitClaim id n s).cool = s.cool := rfl
@[simp] theorem submitClaim_yaw (id : ClaimId) (n : Nat) (s : State) : (submitClaim id n s).yaw = s.yaw := rfl
@[simp] theorem submitClaim_mode (id : ClaimId) (n : Nat) (s : State) : (submitClaim id n s).mode = s.mode := rfl
@[simp] theorem submitClaim_faults (id : ClaimId) (n : Nat) (s : State) : (submitClaim id n s).faults = s.faults := rfl
@[simp] theorem submitClaim_link (id : ClaimId) (n : Nat) (s : State) : (submitClaim id n s).link = s.link := rfl
@[simp] theorem submitClaim_store (id : ClaimId) (n : Nat) (s : State) : (submitClaim id n s).store = s.store := rfl
@[simp] theorem submitClaim_retained (id : ClaimId) (n : Nat) (s : State) : (submitClaim id n s).retained = s.retained := rfl

/-! ### withdrawClaim -/

@[simp] theorem withdrawClaim_pending (id : ClaimId) (s : State) : (withdrawClaim id s).pending = s.pending := rfl
@[simp] theorem withdrawClaim_powered (id : ClaimId) (s : State) : (withdrawClaim id s).powered = s.powered := rfl
@[simp] theorem withdrawClaim_lines (id : ClaimId) (s : State) : (withdrawClaim id s).lines = s.lines := rfl
@[simp] theorem withdrawClaim_clock (id : ClaimId) (s : State) : (withdrawClaim id s).clock = s.clock := rfl
@[simp] theorem withdrawClaim_evt (id : ClaimId) (s : State) : (withdrawClaim id s).evt = s.evt := rfl
@[simp] theorem withdrawClaim_conv (id : ClaimId) (s : State) : (withdrawClaim id s).conv = s.conv := rfl
@[simp] theorem withdrawClaim_grid (id : ClaimId) (s : State) : (withdrawClaim id s).grid = s.grid := rfl
@[simp] theorem withdrawClaim_therm (id : ClaimId) (s : State) : (withdrawClaim id s).therm = s.therm := rfl
@[simp] theorem withdrawClaim_cool (id : ClaimId) (s : State) : (withdrawClaim id s).cool = s.cool := rfl
@[simp] theorem withdrawClaim_yaw (id : ClaimId) (s : State) : (withdrawClaim id s).yaw = s.yaw := rfl
@[simp] theorem withdrawClaim_mode (id : ClaimId) (s : State) : (withdrawClaim id s).mode = s.mode := rfl
@[simp] theorem withdrawClaim_faults (id : ClaimId) (s : State) : (withdrawClaim id s).faults = s.faults := rfl
@[simp] theorem withdrawClaim_link (id : ClaimId) (s : State) : (withdrawClaim id s).link = s.link := rfl
@[simp] theorem withdrawClaim_store (id : ClaimId) (s : State) : (withdrawClaim id s).store = s.store := rfl
@[simp] theorem withdrawClaim_retained (id : ClaimId) (s : State) : (withdrawClaim id s).retained = s.retained := rfl

/-! ### writeEnergy -/

@[simp] theorem writeEnergy_pending (n : Nat) (s : State) : (writeEnergy n s).pending = s.pending := rfl
@[simp] theorem writeEnergy_powered (n : Nat) (s : State) : (writeEnergy n s).powered = s.powered := rfl
@[simp] theorem writeEnergy_lines (n : Nat) (s : State) : (writeEnergy n s).lines = s.lines := rfl
@[simp] theorem writeEnergy_clock (n : Nat) (s : State) : (writeEnergy n s).clock = s.clock := rfl
@[simp] theorem writeEnergy_evt (n : Nat) (s : State) : (writeEnergy n s).evt = s.evt := rfl
@[simp] theorem writeEnergy_conv (n : Nat) (s : State) : (writeEnergy n s).conv = s.conv := rfl
@[simp] theorem writeEnergy_grid (n : Nat) (s : State) : (writeEnergy n s).grid = s.grid := rfl
@[simp] theorem writeEnergy_therm (n : Nat) (s : State) : (writeEnergy n s).therm = s.therm := rfl
@[simp] theorem writeEnergy_cool (n : Nat) (s : State) : (writeEnergy n s).cool = s.cool := rfl
@[simp] theorem writeEnergy_aux (n : Nat) (s : State) : (writeEnergy n s).aux = s.aux := rfl
@[simp] theorem writeEnergy_yaw (n : Nat) (s : State) : (writeEnergy n s).yaw = s.yaw := rfl
@[simp] theorem writeEnergy_mode (n : Nat) (s : State) : (writeEnergy n s).mode = s.mode := rfl
@[simp] theorem writeEnergy_faults (n : Nat) (s : State) : (writeEnergy n s).faults = s.faults := rfl
@[simp] theorem writeEnergy_link (n : Nat) (s : State) : (writeEnergy n s).link = s.link := rfl
@[simp] theorem writeEnergy_store (n : Nat) (s : State) : (writeEnergy n s).store = s.store := rfl

/-! ### driveFans -/

@[simp] theorem driveFans_pending (s : State) : (driveFans s).pending = s.pending := rfl
@[simp] theorem driveFans_powered (s : State) : (driveFans s).powered = s.powered := rfl
@[simp] theorem driveFans_lines (s : State) : (driveFans s).lines = s.lines := rfl
@[simp] theorem driveFans_clock (s : State) : (driveFans s).clock = s.clock := rfl
@[simp] theorem driveFans_evt (s : State) : (driveFans s).evt = s.evt := rfl
@[simp] theorem driveFans_conv (s : State) : (driveFans s).conv = s.conv := rfl
@[simp] theorem driveFans_grid (s : State) : (driveFans s).grid = s.grid := rfl
@[simp] theorem driveFans_therm (s : State) : (driveFans s).therm = s.therm := rfl
@[simp] theorem driveFans_aux (s : State) : (driveFans s).aux = s.aux := rfl
@[simp] theorem driveFans_yaw (s : State) : (driveFans s).yaw = s.yaw := rfl
@[simp] theorem driveFans_mode (s : State) : (driveFans s).mode = s.mode := rfl
@[simp] theorem driveFans_faults (s : State) : (driveFans s).faults = s.faults := rfl
@[simp] theorem driveFans_link (s : State) : (driveFans s).link = s.link := rfl
@[simp] theorem driveFans_store (s : State) : (driveFans s).store = s.store := rfl
@[simp] theorem driveFans_retained (s : State) : (driveFans s).retained = s.retained := rfl

/-! ### driveYaw -/

@[simp] theorem driveYaw_pending (s : State) : (driveYaw s).pending = s.pending := rfl
@[simp] theorem driveYaw_powered (s : State) : (driveYaw s).powered = s.powered := rfl
@[simp] theorem driveYaw_lines (s : State) : (driveYaw s).lines = s.lines := rfl
@[simp] theorem driveYaw_clock (s : State) : (driveYaw s).clock = s.clock := rfl
@[simp] theorem driveYaw_evt (s : State) : (driveYaw s).evt = s.evt := rfl
@[simp] theorem driveYaw_conv (s : State) : (driveYaw s).conv = s.conv := rfl
@[simp] theorem driveYaw_grid (s : State) : (driveYaw s).grid = s.grid := rfl
@[simp] theorem driveYaw_therm (s : State) : (driveYaw s).therm = s.therm := rfl
@[simp] theorem driveYaw_cool (s : State) : (driveYaw s).cool = s.cool := rfl
@[simp] theorem driveYaw_aux (s : State) : (driveYaw s).aux = s.aux := rfl
@[simp] theorem driveYaw_mode (s : State) : (driveYaw s).mode = s.mode := rfl
@[simp] theorem driveYaw_faults (s : State) : (driveYaw s).faults = s.faults := rfl
@[simp] theorem driveYaw_link (s : State) : (driveYaw s).link = s.link := rfl
@[simp] theorem driveYaw_store (s : State) : (driveYaw s).store = s.store := rfl
@[simp] theorem driveYaw_retained (s : State) : (driveYaw s).retained = s.retained := rfl

/-! ### enqueue -/

@[simp] theorem enqueue_pending (f : OutFrame) (s : State) : (enqueue f s).pending = s.pending := rfl
@[simp] theorem enqueue_powered (f : OutFrame) (s : State) : (enqueue f s).powered = s.powered := rfl
@[simp] theorem enqueue_lines (f : OutFrame) (s : State) : (enqueue f s).lines = s.lines := rfl
@[simp] theorem enqueue_clock (f : OutFrame) (s : State) : (enqueue f s).clock = s.clock := rfl
@[simp] theorem enqueue_evt (f : OutFrame) (s : State) : (enqueue f s).evt = s.evt := rfl
@[simp] theorem enqueue_conv (f : OutFrame) (s : State) : (enqueue f s).conv = s.conv := rfl
@[simp] theorem enqueue_grid (f : OutFrame) (s : State) : (enqueue f s).grid = s.grid := rfl
@[simp] theorem enqueue_therm (f : OutFrame) (s : State) : (enqueue f s).therm = s.therm := rfl
@[simp] theorem enqueue_cool (f : OutFrame) (s : State) : (enqueue f s).cool = s.cool := rfl
@[simp] theorem enqueue_aux (f : OutFrame) (s : State) : (enqueue f s).aux = s.aux := rfl
@[simp] theorem enqueue_yaw (f : OutFrame) (s : State) : (enqueue f s).yaw = s.yaw := rfl
@[simp] theorem enqueue_mode (f : OutFrame) (s : State) : (enqueue f s).mode = s.mode := rfl
@[simp] theorem enqueue_faults (f : OutFrame) (s : State) : (enqueue f s).faults = s.faults := rfl
@[simp] theorem enqueue_store (f : OutFrame) (s : State) : (enqueue f s).store = s.store := rfl
@[simp] theorem enqueue_retained (f : OutFrame) (s : State) : (enqueue f s).retained = s.retained := rfl

/-! ### updateMarks -/

@[simp] theorem updateMarks_pending (s : State) : (updateMarks s).pending = s.pending := rfl
@[simp] theorem updateMarks_powered (s : State) : (updateMarks s).powered = s.powered := rfl
@[simp] theorem updateMarks_lines (s : State) : (updateMarks s).lines = s.lines := rfl
@[simp] theorem updateMarks_clock (s : State) : (updateMarks s).clock = s.clock := rfl
@[simp] theorem updateMarks_evt (s : State) : (updateMarks s).evt = s.evt := rfl
@[simp] theorem updateMarks_conv (s : State) : (updateMarks s).conv = s.conv := rfl
@[simp] theorem updateMarks_grid (s : State) : (updateMarks s).grid = s.grid := rfl
@[simp] theorem updateMarks_therm (s : State) : (updateMarks s).therm = s.therm := rfl
@[simp] theorem updateMarks_cool (s : State) : (updateMarks s).cool = s.cool := rfl
@[simp] theorem updateMarks_aux (s : State) : (updateMarks s).aux = s.aux := rfl
@[simp] theorem updateMarks_yaw (s : State) : (updateMarks s).yaw = s.yaw := rfl
@[simp] theorem updateMarks_faults (s : State) : (updateMarks s).faults = s.faults := rfl
@[simp] theorem updateMarks_link (s : State) : (updateMarks s).link = s.link := rfl
@[simp] theorem updateMarks_store (s : State) : (updateMarks s).store = s.store := rfl
@[simp] theorem updateMarks_retained (s : State) : (updateMarks s).retained = s.retained := rfl

/-! ### clearPending -/

@[simp] theorem clearPending_pending (i : Nat) (s : State) : (clearPending i s).pending = s.pending := rfl
@[simp] theorem clearPending_powered (i : Nat) (s : State) : (clearPending i s).powered = s.powered := rfl
@[simp] theorem clearPending_lines (i : Nat) (s : State) : (clearPending i s).lines = s.lines := rfl
@[simp] theorem clearPending_clock (i : Nat) (s : State) : (clearPending i s).clock = s.clock := rfl
@[simp] theorem clearPending_evt (i : Nat) (s : State) : (clearPending i s).evt = s.evt := rfl
@[simp] theorem clearPending_conv (i : Nat) (s : State) : (clearPending i s).conv = s.conv := rfl
@[simp] theorem clearPending_grid (i : Nat) (s : State) : (clearPending i s).grid = s.grid := rfl
@[simp] theorem clearPending_therm (i : Nat) (s : State) : (clearPending i s).therm = s.therm := rfl
@[simp] theorem clearPending_cool (i : Nat) (s : State) : (clearPending i s).cool = s.cool := rfl
@[simp] theorem clearPending_aux (i : Nat) (s : State) : (clearPending i s).aux = s.aux := rfl
@[simp] theorem clearPending_yaw (i : Nat) (s : State) : (clearPending i s).yaw = s.yaw := rfl
@[simp] theorem clearPending_mode (i : Nat) (s : State) : (clearPending i s).mode = s.mode := rfl
@[simp] theorem clearPending_link (i : Nat) (s : State) : (clearPending i s).link = s.link := rfl
@[simp] theorem clearPending_store (i : Nat) (s : State) : (clearPending i s).store = s.store := rfl
@[simp] theorem clearPending_retained (i : Nat) (s : State) : (clearPending i s).retained = s.retained := rfl

end Sys2Proof.Machine
end

