-- ==== Sys2Proof/Laws/Frames.lean ====
section
/-! SUPPORT. The frame of the reactions: `settle` and `finish` leave `outside` as it is, so every field that `outside` shows passes through the reactions of an event unchanged. One lemma per shared operation. -/

namespace Sys2Proof.Machine

/-! ## Fault rows -/

theorem rowOutside_reactive {i : Nat} (h : reactiveRow i = true) (r r' : FaultRow) :
    rowOutside i r = rowOutside i r' := by
  simp [rowOutside, h]

/-- A change of a reactive row is invisible outside. -/
theorem mapIdx_updateAt_reactive {i : Nat} (h : reactiveRow i = true) (rows : List FaultRow) (f : FaultRow → FaultRow) :
    (updateAt rows i f).mapIdx rowOutside = rows.mapIdx rowOutside := by
  apply List.ext_getElem
  · simp [updateAt]
  · intro n h1 h2
    simp only [List.getElem_mapIdx, updateAt, List.getElem_modify]
    split
    · subst_vars
      exact rowOutside_reactive h _ _
    · rfl

theorem beside_faults {s t : State} (h : t.faults.outside = s.faults.outside) :
    beside { s with faults := t.faults } = beside s := by
  simp only [beside, h]

/-- Raising a reactive row of no Trip code. -/
theorem beside_raise {c : FaultCode} {unit : Nat} (h : reactiveRow (rowOf c unit) = true)
    (hc : (codeOfRow (rowOf c unit)).isTrip = false) (s : State) : beside (raise c unit s) = beside s := by
  have : (raise c unit s).faults.outside = s.faults.outside := by
    simp only [raise, raiseIn, hc]
    split
    · rfl
    · simp [FaultTable.outside, mapIdx_updateAt_reactive h]
  exact beside_faults (t := raise c unit s) this

theorem beside_clearFault {c : FaultCode} {unit : Nat} (h : reactiveRow (rowOf c unit) = true) (s : State) :
    beside (clearFault c unit s) = beside s := by
  have : (clearFault c unit s).faults.outside = s.faults.outside := by
    simp [clearFault, FaultTable.outside, mapIdx_updateAt_reactive h]
  exact beside_faults (t := clearFault c unit s) this

@[simp] theorem beside_raise_auxRevoked (s : State) : beside (raise .auxRevoked 1 s) = beside s :=
  beside_raise (by decide) (by decide) s
@[simp] theorem beside_clear_auxRevoked (s : State) : beside (clearFault .auxRevoked 1 s) = beside s :=
  beside_clearFault (by decide) s
@[simp] theorem beside_raise_untwistDue (s : State) : beside (raise .untwistDue 1 s) = beside s :=
  beside_raise (by decide) (by decide) s
@[simp] theorem beside_clear_untwistDue (s : State) : beside (clearFault .untwistDue 1 s) = beside s :=
  beside_clearFault (by decide) s
@[simp] theorem beside_clear_stormEntered (s : State) : beside (clearFault .stormEntered 1 s) = beside s :=
  beside_clearFault (by decide) s
@[simp] theorem beside_clear_loopFlow (l : Liquid) (s : State) :
    beside (clearFault .loopFlow l.num s) = beside s := by
  cases l <;> exact beside_clearFault (by decide) s

/-! ## Updates of one record -/

theorem beside_modStr {k : StringId} {f : StringRec → StringRec} (h : ∀ r, (f r).outside = r.outside) (s : State) :
    beside (modStr k f s) = beside s := by
  cases k <;> simp [beside, modStr, Six.map, Six.set, strOf, Six.get, h]

theorem beside_modLoop {l : Liquid} {f : LiquidLoop → LiquidLoop} (h : ∀ r, (f r).outside = r.outside) (s : State) :
    beside (modLoop l f s) = beside s := by
  cases l <;> simp [beside, modLoop, h]

theorem beside_modYaw {f : Yaw → Yaw} (h : (f s.yaw).outside = s.yaw.outside) :
    beside (modYaw f s) = beside s := by
  simp [beside, modYaw, h]

theorem beside_withMode {m : ModeCtl} (h : m.outside = s.mode.outside) : beside { s with mode := m } = beside s := by
  simp [beside, h]

theorem beside_withAux {b : Budget} (h : b.outside = s.aux.outside) : beside { s with aux := b } = beside s := by
  simp [beside, h]

@[simp] theorem beside_setQueue (q : List StringId) (s : State) : beside (setQueue q s) = beside s := rfl
@[simp] theorem beside_beginEvent (s : State) : beside (beginEvent s) = beside s := rfl

@[simp] theorem beside_forEach {α : Type} {f : α → State → State} (h : ∀ a s, beside (f a s) = beside s)
    (l : List α) (s : State) : beside (forEach l f s) = beside s := by
  induction l generalizing s with
  | nil => rfl
  | cons a l ih => simp only [forEach, List.foldl_cons] at ih ⊢; rw [ih, h]

/-! ## The budget -/

/-- The claims the reactions move. -/
def reactiveClaim : ClaimId → Bool
  | .charger | .hoist => false
  | _ => true

theorem beside_claims_set {b : Budget} {id : ClaimId} (h : reactiveClaim id = true) (x : Claim) :
    ({ b with claims := b.claims.set id x } : Budget).outside = b.outside := by
  cases id <;> first | rfl | exact absurd h (by decide)

theorem beside_setCeiling {id : ClaimId} (h : reactiveClaim id = true) (n : Nat) (s : State) :
    beside (setCeiling id n s) = beside s := by
  apply beside_withAux
  split
  · rfl
  · exact beside_claims_set (b := s.aux) h _

theorem beside_submitClaim {id : ClaimId} (h : reactiveClaim id = true) (n : Nat) (s : State) :
    beside (submitClaim id n s) = beside s := by
  apply beside_withAux
  split
  · have := beside_setCeiling h n s
    exact congrArg (fun t : State => t.aux) this
  · exact beside_claims_set (b := s.aux) h _

theorem beside_withdrawClaim {id : ClaimId} (h : reactiveClaim id = true) (s : State) :
    beside (withdrawClaim id s) = beside s := by
  apply beside_withAux
  split
  · exact beside_claims_set (b := s.aux) h _
  · rfl

theorem claims_get_set_self (c : Claims) (id : ClaimId) (x : Claim) : (c.set id x).get id = x := by cases id <;> rfl

theorem claims_get_set_ne {id j : ClaimId} (h : id ≠ j) (c : Claims) (x : Claim) : (c.set j x).get id = c.get id := by
  cases id <;> cases j <;> first | rfl | exact absurd rfl h

/-- The walk writes grants alone. -/
theorem allocate_outside (s : State) (l : List ClaimId) (c : Claims) (n : Nat) (id : ClaimId) :
    ((allocate s l c n).1.get id).outside = (c.get id).outside := by
  induction l generalizing c n with
  | nil => rfl
  | cons j l ih =>
    simp only [allocate]
    rw [ih]
    by_cases h : id = j
    · subst h; rw [claims_get_set_self]; rfl
    · rw [claims_get_set_ne h]

theorem beside_judgeRevoked (c : Claims) (s : State) : beside (judgeRevoked c s) = beside s := by
  simp only [judgeRevoked]
  split
  · simp
  · split <;> simp

@[simp] theorem beside_runWalk (s : State) : beside (runWalk s) = beside s := by
  simp only [runWalk, beside_judgeRevoked]
  have h1 := allocate_outside s (walkOrder (placedOrder s)) s.aux.claims (dispatchableInForce s) .charger
  have h2 := allocate_outside s (walkOrder (placedOrder s)) s.aux.claims (dispatchableInForce s) .hoist
  simp only [Claims.get] at h1 h2
  simp [beside, walkBudget, Budget.outside, h1, h2]

/-! ## The converter -/

@[simp] theorem beside_oweJudgement (l : Liquid) (s : State) : beside (oweJudgement l s) = beside s :=
  beside_modLoop (by intro _; rfl) s

@[simp] theorem beside_oweBothJudgements (s : State) : beside (oweBothJudgements s) = beside s := by
  simp [oweBothJudgements]

@[simp] theorem beside_setStrState (k : StringId) (st : StrState) (s : State) :
    beside (setStrState k st s) = beside s := by
  rw [setStrState, beside_oweJudgement]
  exact beside_modStr (by intro _; rfl) s

@[simp] theorem beside_emptyQueue (s : State) : beside (emptyQueue s) = beside s := by
  unfold emptyQueue; split <;> simp

@[simp] theorem beside_testJoin (k : StringId) (s : State) : beside (testJoin k s) = beside s := by
  unfold testJoin; split <;> simp

@[simp] theorem beside_testJoins (ks : List StringId) (s : State) : beside (testJoins ks s) = beside s :=
  beside_forEach beside_testJoin ks s

@[simp] theorem beside_stopString (b : Bool) (k : StringId) (s : State) : beside (stopString b k s) = beside s := by
  rw [stopString, beside_setStrState]
  exact beside_modStr (by intro _; cases b <;> rfl) s

@[simp] theorem beside_stopOne (b : Bool) (k : StringId) (s : State) : beside (stopOne b k s) = beside s := by
  unfold stopOne
  split
  · simp
  · split
    · exact beside_modStr (by intro _; rfl) s
    · rfl

@[simp] theorem beside_stopStrings (b : Bool) (s : State) : beside (stopStrings b s) = beside s := by
  rw [stopStrings, beside_emptyQueue]
  exact beside_forEach (beside_stopOne b) _ s

@[simp] theorem beside_beginPrecharge (s : State) : beside (beginPrecharge s) = beside s := by
  unfold beginPrecharge
  split
  · rfl
  · split
    · rfl
    · rw [beside_setStrState]; exact (beside_modStr (by intro _; rfl) _).trans (by simp)

@[simp] theorem beside_followLoop (k : StringId) (s : State) : beside (followLoop k s) = beside s := by
  unfold followLoop
  split
  · split
    · exact beside_modStr (by intro _; rfl) s
    · exact beside_modStr (by intro _; rfl) s
    · rfl
  · rfl

@[simp] theorem beside_followPrechargeClaim (s : State) : beside (followPrechargeClaim s) = beside s := by
  unfold followPrechargeClaim
  split
  · split
    · rfl
    · exact beside_submitClaim rfl _ s
  · exact beside_withdrawClaim rfl s

@[simp] theorem beside_followPrecharge (s : State) : beside (followPrecharge s) = beside s := by
  rw [followPrecharge, beside_followPrechargeClaim, beside_forEach beside_followLoop, beside_beginPrecharge]

@[simp] theorem beside_abortPrecharge (k : StringId) (s : State) : beside (abortPrecharge k s) = beside s := by
  unfold abortPrecharge
  split
  · rw [beside_setStrState]; exact (beside_modStr (by intro _; rfl) _).trans (by simp)
  · rfl

/-! ## Loops -/

theorem reactive_fanClaim (l : Liquid) : reactiveClaim (fanClaim l) = true := by cases l <;> rfl
theorem reactive_pumpClaim (l : Liquid) : reactiveClaim (pumpClaim l) = true := by cases l <;> rfl

@[simp] theorem beside_followFanClaim (l : Liquid) (s : State) : beside (followFanClaim l s) = beside s := by
  simp only [followFanClaim]
  split
  · exact beside_withdrawClaim (reactive_fanClaim l) s
  · split
    · exact beside_setCeiling (reactive_fanClaim l) _ s
    · split
      · exact beside_submitClaim (reactive_fanClaim l) _ s
      · rfl

@[simp] theorem beside_loopOff (l : Liquid) (s : State) : beside (loopOff l s) = beside s := by
  simp only [loopOff, beside_clear_loopFlow]
  rw [beside_withdrawClaim (reactive_fanClaim l), beside_withdrawClaim (reactive_pumpClaim l)]
  exact beside_modLoop (by intro _; rfl) s

@[simp] theorem beside_pumpGrantLost (l : Liquid) (s : State) : beside (pumpGrantLost l s) = beside s := by
  unfold pumpGrantLost
  split
  · simp only [beside_clear_loopFlow]
    rw [beside_withdrawClaim (reactive_fanClaim l)]
    exact beside_modLoop (by intro _; rfl) s
  · rfl

@[simp] theorem beside_proofSuccess (l : Liquid) (s : State) : beside (proofSuccess l s) = beside s := by
  simp only [proofSuccess]
  split
  · exact beside_modLoop (by intro _; rfl) s
  · rw [beside_followFanClaim]
    exact (beside_modLoop (by intro _; rfl) _).trans (beside_modLoop (by intro _; rfl) s)

@[simp] theorem beside_beginTrial (l : Liquid) (p : Pump) (r : PumpRole) (s : State) :
    beside (beginTrial l p r s) = beside s := by
  simp only [beginTrial]
  split
  · rw [beside_proofSuccess]; exact beside_modLoop (by intro _; rfl) s
  · exact beside_modLoop (by intro _; rfl) s

@[simp] theorem beside_startLoop (l : Liquid) (s : State) : beside (startLoop l s) = beside s := by
  unfold startLoop; split <;> simp

@[simp] theorem beside_judgeLoop (l : Liquid) (s : State) : beside (judgeLoop l s) = beside s := by
  have h : beside (modLoop l (fun r => { r with required := requiredNow s l, judge := false }) s) = beside s :=
    beside_modLoop (by intro _; rfl) s
  simp only [judgeLoop]
  split
  · split
    · exact h
    · split
      · split
        · rw [beside_submitClaim (reactive_pumpClaim l)]; exact h
        · exact h
      · split
        · rw [beside_loopOff]; exact h
        · exact h
  · rfl

@[simp] theorem beside_judgeLoops (s : State) : beside (judgeLoops s) = beside s := by simp [judgeLoops]

theorem chooseFans_outside (fans : List FanChannel) (n : Nat) :
    (chooseFans fans n).map FanChannel.outside = fans.map FanChannel.outside := by
  induction fans generalizing n with
  | nil => rfl
  | cons c l ih =>
    simp only [chooseFans]
    split
    · simp [ih, FanChannel.outside]
    · cases n <;> simp [ih, FanChannel.outside]

theorem watchFans_outside (clock n : Nat) (fans : List FanChannel) :
    (watchFans clock n fans).map FanChannel.outside = fans.map FanChannel.outside := by
  rw [watchFans, List.map_map, ← chooseFans_outside fans n]
  rfl

@[simp] theorem beside_driveFans (s : State) : beside (driveFans s) = beside s := by
  simp [beside, driveFans, LiquidLoop.outside, AirLoop.outside, watchFans_outside]

@[simp] theorem beside_coolOnMode (m : Mode) (s : State) : beside (coolOnMode m s) = beside s := by
  have h : beside (if m = .isolated ∨ m = .storm then
      modLoop .l2 (fun r => { r with runOn := none }) (modLoop .l1 (fun r => { r with runOn := none }) s) else s)
      = beside s := by
    split
    · exact (beside_modLoop (by intro _; rfl) _).trans (beside_modLoop (by intro _; rfl) s)
    · rfl
  simp only [coolOnMode]
  split
  · rw [beside_oweBothJudgements]; exact h
  · rw [beside_withdrawClaim rfl, beside_oweBothJudgements]; exact h

/-! ## Yaw -/

theorem driveAfter_outside (clock : Nat) (run : List (Fin 10)) (i : Nat) (c : DriveChannel) :
    (driveAfter clock run i c).outside = c.outside := rfl

@[simp] theorem beside_driveYaw (s : State) : beside (driveYaw s) = beside s := by
  have : (s.yaw.channels.mapIdx (driveAfter s.clock (runningChannels s))).map DriveChannel.outside =
      s.yaw.channels.map DriveChannel.outside := by
    apply List.ext_getElem
    · simp
    · intros; simp [driveAfter_outside]
  simp [beside, driveYaw, Yaw.outside, this]

@[simp] theorem beside_completeWaiting (s : State) : beside (completeWaiting s) = beside s := by
  rw [completeWaiting, beside_withdrawClaim rfl]; exact beside_modYaw rfl

@[simp] theorem beside_beginPressurize (s : State) : beside (beginPressurize s) = beside s := beside_modYaw rfl
@[simp] theorem beside_beginRamp (sp : SpeedRef) (s : State) : beside (beginRamp sp s) = beside s := beside_modYaw rfl
@[simp] theorem beside_setForced (s : State) : beside (setForced s) = beside s := beside_modYaw rfl
@[simp] theorem beside_beginVent (s : State) : beside (beginVent s) = beside s := beside_modYaw rfl
@[simp] theorem beside_setYawMode (m : YawMode) (s : State) : beside (setYawMode m s) = beside s := beside_modYaw rfl

@[simp] theorem beside_runningStop (s : State) : beside (runningStop s) = beside s := by
  unfold runningStop
  split
  · simp
  · split
    · rfl
    · split
      · exact beside_modYaw rfl
      · simp
  all_goals rfl

@[simp] theorem beside_modeStop (s : State) : beside (modeStop s) = beside s := by
  unfold modeStop; split <;> simp

/-- Only the normal stop of a clearance move may end a clearance (R117). -/
theorem stopWaiting_of_kind {s : State} (h : s.yaw.kind ≠ some .clearance) : stopWaiting s = completeWaiting s := by
  unfold stopWaiting judgeDwell
  simp only [Bool.false_eq_true, h, false_and, and_false, if_false]
  split
  · rfl
  · split <;> rfl

theorem normalStop_of_kind {s : State} (h : s.yaw.kind ≠ some .clearance) : normalStop s = modeStop s := by
  simp only [normalStop, modeStop, stopWaiting_of_kind h]

@[simp] theorem beside_stopKind (k : MoveKind) (hk : k ≠ .clearance) (s : State) : beside (stopKind k s) = beside s := by
  unfold stopKind
  split
  · rename_i h
    rw [normalStop_of_kind (by rw [h]; simpa using hk), beside_modeStop]
  · rfl

@[simp] theorem beside_forcedStop (s : State) : beside (forcedStop s) = beside s := by
  unfold forcedStop
  split
  · split <;> simp
  all_goals simp

@[simp] theorem beside_yawGrantLost (s : State) : beside (yawGrantLost s) = beside s := by
  unfold yawGrantLost; split <;> simp

@[simp] theorem beside_takeYawGrant (n : Nat) (s : State) : beside (takeYawGrant n s) = beside s := by
  unfold takeYawGrant
  split
  · split <;> simp
  · exact beside_modYaw rfl
  · exact beside_modYaw rfl
  · rfl
  · rfl

@[simp] theorem beside_yawGrantChange (a b : Nat) (s : State) : beside (yawGrantChange a b s) = beside s := by
  unfold yawGrantChange
  split
  · rfl
  · split <;> simp

@[simp] theorem beside_stopUntwistWait (s : State) : beside (stopUntwistWait s) = beside s := by
  rw [stopUntwistWait, beside_clear_untwistDue]; exact beside_modYaw rfl

@[simp] theorem beside_yawModeEffect (a b : YawMode) (s : State) : beside (yawModeEffect a b s) = beside s := by
  unfold yawModeEffect
  split
  · split <;> simp
  all_goals simp

@[simp] theorem beside_judgeYaw (s : State) : beside (judgeYaw s) = beside s := by
  simp only [judgeYaw]; split <;> simp

/-! ## Mode -/

theorem beside_changed (m : ModeCtl) (clock : Nat) (cur : Mode) (tgt : Option Mode) (cause : Cause) :
    (m.changed clock cur tgt cause).outside = m.outside := rfl

@[simp] theorem beside_stringsOnMode (b : Bool) (cur : Mode) (tgt : Option Mode) (s : State) :
    beside (stringsOnMode b cur tgt s) = beside s := by
  unfold stringsOnMode
  split
  · split <;> (try split) <;> simp
  · split <;> simp

@[simp] theorem beside_yawOnMode (m : Mode) (s : State) : beside (yawOnMode m s) = beside s := by
  unfold yawOnMode
  split
  · rw [beside_stopUntwistWait]; exact beside_modYaw rfl
  · simp
  · simp only; split <;> simp
  all_goals simp

@[simp] theorem beside_handMode (a b : Mode) (s : State) : beside (handMode a b s) = beside s := by
  simp only [handMode]; split <;> simp

@[simp] theorem beside_changeMode (cur : Mode) (tgt : Option Mode) (cause : Cause) (s : State) :
    beside (changeMode cur tgt cause s) = beside s := by
  have h : beside { s with mode := s.mode.changed s.clock cur tgt cause } = beside s :=
    beside_withMode (beside_changed _ _ _ _ _)
  simp only [changeMode]
  split
  · rfl
  · split
    · rw [beside_stringsOnMode]; exact h
    · rw [beside_handMode, beside_stringsOnMode]; exact h

@[simp] theorem beside_endTransition (s : State) : beside (endTransition s) = beside s := by
  unfold endTransition
  split
  · simp
  · split
    · split <;> simp
    · simp

@[simp] theorem beside_completeTransition (s : State) : beside (completeTransition s) = beside s := by
  unfold completeTransition
  split
  · split <;> simp
  · split <;> simp
  · split <;> simp
  · split <;> simp
  · rfl

/-! ## The reactions -/

@[simp] theorem beside_handPump (a b : Claims) (l : Liquid) (s : State) : beside (handPump a b l s) = beside s := by
  unfold handPump
  split
  · simp
  · split <;> simp

@[simp] theorem beside_handPrecharge (a b : Claims) (s : State) : beside (handPrecharge a b s) = beside s := by
  unfold handPrecharge
  split
  · exact beside_forEach beside_abortPrecharge _ s
  · rfl

@[simp] theorem beside_handYaw (a b : Claims) (s : State) : beside (handYaw a b s) = beside s := by
  unfold handYaw; split <;> simp

@[simp] theorem beside_walkAndHand (s : State) : beside (walkAndHand s) = beside s := by
  simp only [walkAndHand, handGrants]; split <;> simp

@[simp] theorem beside_turn (s : State) : beside (turn s) = beside s := by simp [turn]

@[simp] theorem beside_turns (n : Nat) (s : State) : beside (turns n s) = beside s := by
  induction n generalizing s with
  | zero => rfl
  | succ n ih => rw [turns, ih, beside_turn]

/-- The reactions of an event leave everything beside as it is. -/
@[simp] theorem beside_settle (s : State) : beside (settle s) = beside s := by
  simp [settle, outputs]

/-! ## The end of an event -/

theorem outside_of_beside {s t : State} (h : beside t = beside s) : outside t = outside s := by
  have h0 : (beside t).link = (beside s).link := by rw [h]
  have hl : t.link = s.link := h0
  simp only [outside, h, hl]

@[simp] theorem outside_settle (s : State) : outside (settle s) = outside s := outside_of_beside (beside_settle s)
@[simp] theorem outside_beginEvent (s : State) : outside (beginEvent s) = outside s := rfl

theorem mapIdx_clearPending (rows : List FaultRow) (i : Nat) :
    (updateAt rows i fun r => { r with pending := false }).mapIdx rowOutside = rows.mapIdx rowOutside := by
  apply List.ext_getElem
  · simp [updateAt]
  · intro n h1 h2
    simp only [List.getElem_mapIdx, updateAt, List.getElem_modify]
    split
    · simp [rowOutside]
    · rfl

@[simp] theorem outside_clearPending (i : Nat) (s : State) : outside (clearPending i s) = outside s := by
  simp [outside, beside, clearPending, FaultTable.outside, mapIdx_clearPending]

@[simp] theorem outside_enqueue (f : OutFrame) (s : State) : outside (enqueue f s) = outside s := rfl
@[simp] theorem outside_updateMarks (s : State) : outside (updateMarks s) = outside s := rfl

@[simp] theorem outside_takeModeNotice (s : State) : outside (takeModeNotice s) = outside s := by
  unfold takeModeNotice
  split <;> rfl

@[simp] theorem outside_takeFaultNotice (s : State) : outside (takeFaultNotice s) = outside s := by
  unfold takeFaultNotice
  split
  · split
    · simp [queueNotice]
    · rfl
  · rfl

@[simp] theorem outside_takeFaultNotices (n : Nat) (s : State) : outside (takeFaultNotices n s) = outside s := by
  induction n generalizing s with
  | zero => rfl
  | succ n ih => rw [takeFaultNotices, ih, outside_takeFaultNotice]

/-- The end of an event leaves everything outside as it is. -/
@[simp] theorem outside_finish (s : State) : outside (finish s) = outside s := by
  simp [finish, takeNotices]

/-- What an event leaves outside is what its own effect leaves. -/
theorem outside_event {f : State → State} {s : State} (h : s.powered = true) :
    outside (event f s) = outside (f (beginEvent s)) := by
  simp [event, h]

theorem outside_react {f : State → State} {s : State} (h : s.powered = true) :
    outside (react f s) = outside (f (beginEvent s)) := by
  simp [react, outside_event h]

end Sys2Proof.Machine
end

