-- ==== Sys2Proof/Laws/Base.lean ====
section
/-! SUPPORT. What no block writes for itself: the queue of commands, the power, the pins, the clock, the port, the settings store and the retained domain. One lemma per operation says that it leaves them as they are. -/

namespace Sys2Proof.Machine

/-- The queue of commands, the power, the pins, the clock, the port, the store and the retained domain. -/
def base (s : State) : List Instr × Bool × Lines × Nat × Link × Store × Retained :=
  (s.pending, s.powered, s.lines, s.clock, s.link, s.store, s.retained)

theorem base_beside (s : State) : base (beside s) = base s := rfl

/-- What leaves `beside` alone leaves `base` alone. -/
theorem base_of_beside {s t : State} (h : beside t = beside s) : base t = base s := by
  rw [← base_beside t, ← base_beside s, h]

theorem base_forEach {α : Type} {f : α → State → State} (h : ∀ a s, base (f a s) = base s) (l : List α) (s : State) :
    base (forEach l f s) = base s := by
  induction l generalizing s with
  | nil => rfl
  | cons a l ih => simp only [forEach, List.foldl_cons] at ih ⊢; rw [ih, h]

@[simp] theorem base_settle (s : State) : base (settle s) = base s := base_of_beside (beside_settle s)

/-! ## Plain updates -/

@[simp] theorem base_beginEvent (s : State) : base (beginEvent s) = base s := rfl
@[simp] theorem base_modYaw (f : Yaw → Yaw) (s : State) : base (modYaw f s) = base s := rfl
@[simp] theorem base_modGrid (f : Grid → Grid) (s : State) : base (modGrid f s) = base s := rfl
@[simp] theorem base_modStr (k : StringId) (f : StringRec → StringRec) (s : State) : base (modStr k f s) = base s := rfl
@[simp] theorem base_modLoop (l : Liquid) (f : LiquidLoop → LiquidLoop) (s : State) : base (modLoop l f s) = base s := rfl
@[simp] theorem base_modAir (f : AirLoop → AirLoop) (s : State) : base (modAir f s) = base s := rfl
@[simp] theorem base_setQueue (q : List StringId) (s : State) : base (setQueue q s) = base s := rfl
@[simp] theorem base_raise (c : FaultCode) (u : Nat) (s : State) : base (raise c u s) = base s := rfl
@[simp] theorem base_clearFault (c : FaultCode) (u : Nat) (s : State) : base (clearFault c u s) = base s := rfl
@[simp] theorem base_ackWhere (p : Nat → FaultRow → Bool) (s : State) : base (ackWhere p s) = base s := rfl
@[simp] theorem base_setCeiling (id : ClaimId) (n : Nat) (s : State) : base (setCeiling id n s) = base s := rfl
@[simp] theorem base_submitClaim (id : ClaimId) (n : Nat) (s : State) : base (submitClaim id n s) = base s := rfl
@[simp] theorem base_withdrawClaim (id : ClaimId) (s : State) : base (withdrawClaim id s) = base s := rfl
@[simp] theorem base_oweWalk (s : State) : base (oweWalk s) = base s := rfl
@[simp] theorem base_setInlet (l : Liquid) (x : Inlet) (s : State) : base (setInlet l x s) = base s := rfl
@[simp] theorem base_setMonitor (m : MonitorId) (x : Monitor) (s : State) : base (setMonitor m x s) = base s := by
  cases m <;> rfl
@[simp] theorem base_setYawMode (m : YawMode) (s : State) : base (setYawMode m s) = base s := rfl
@[simp] theorem base_updateMarks (s : State) : base (updateMarks s) = base s := rfl

@[simp] theorem base_setFault (c : FaultCode) (u : Nat) (b : Bool) (s : State) : base (setFault c u b s) = base s := by
  cases b <;> rfl

/-! ## Operations of the reactions, used by the commands too -/

@[simp] theorem base_setStrState (k : StringId) (st : StrState) (s : State) : base (setStrState k st s) = base s :=
  base_of_beside (beside_setStrState k st s)
@[simp] theorem base_oweJudgement (l : Liquid) (s : State) : base (oweJudgement l s) = base s := rfl
@[simp] theorem base_oweBothJudgements (s : State) : base (oweBothJudgements s) = base s := rfl
@[simp] theorem base_testJoins (l : List StringId) (s : State) : base (testJoins l s) = base s :=
  base_of_beside (beside_testJoins l s)
@[simp] theorem base_testJoin (k : StringId) (s : State) : base (testJoin k s) = base s :=
  base_of_beside (beside_testJoin k s)
@[simp] theorem base_stopOne (b : Bool) (k : StringId) (s : State) : base (stopOne b k s) = base s :=
  base_of_beside (beside_stopOne b k s)
@[simp] theorem base_stopString (b : Bool) (k : StringId) (s : State) : base (stopString b k s) = base s :=
  base_of_beside (beside_stopString b k s)
@[simp] theorem base_stopStrings (b : Bool) (s : State) : base (stopStrings b s) = base s :=
  base_of_beside (beside_stopStrings b s)
@[simp] theorem base_followFanClaim (l : Liquid) (s : State) : base (followFanClaim l s) = base s :=
  base_of_beside (beside_followFanClaim l s)
@[simp] theorem base_proofSuccess (l : Liquid) (s : State) : base (proofSuccess l s) = base s :=
  base_of_beside (beside_proofSuccess l s)
@[simp] theorem base_beginTrial (l : Liquid) (p : Pump) (r : PumpRole) (s : State) :
    base (beginTrial l p r s) = base s := base_of_beside (beside_beginTrial l p r s)
@[simp] theorem base_completeWaiting (s : State) : base (completeWaiting s) = base s :=
  base_of_beside (beside_completeWaiting s)
@[simp] theorem base_runningStop (s : State) : base (runningStop s) = base s := base_of_beside (beside_runningStop s)
@[simp] theorem base_modeStop (s : State) : base (modeStop s) = base s := base_of_beside (beside_modeStop s)
@[simp] theorem base_endClearance (s : State) : base (endClearance s) = base s := rfl
@[simp] theorem base_judgeDwell (k : Option MoveKind) (b : Bool) (s : State) : base (judgeDwell k b s) = base s := by
  unfold judgeDwell; split
  · rfl
  · split
    · split <;> simp
    · split <;> simp
@[simp] theorem base_stopWaiting (s : State) : base (stopWaiting s) = base s := by simp [stopWaiting]
@[simp] theorem base_normalStop (s : State) : base (normalStop s) = base s := by
  unfold normalStop; split <;> simp
@[simp] theorem base_stopKind (k : MoveKind) (s : State) : base (stopKind k s) = base s := by
  unfold stopKind; split <;> simp
@[simp] theorem base_forcedStop (s : State) : base (forcedStop s) = base s := base_of_beside (beside_forcedStop s)
@[simp] theorem base_beginPressurize (s : State) : base (beginPressurize s) = base s := rfl
@[simp] theorem base_beginRamp (sp : SpeedRef) (s : State) : base (beginRamp sp s) = base s := rfl
@[simp] theorem base_setForced (s : State) : base (setForced s) = base s := rfl
@[simp] theorem base_stopUntwistWait (s : State) : base (stopUntwistWait s) = base s := rfl
@[simp] theorem base_judgeYaw (s : State) : base (judgeYaw s) = base s := base_of_beside (beside_judgeYaw s)
@[simp] theorem base_changeMode (a : Mode) (b : Option Mode) (c : Cause) (s : State) :
    base (changeMode a b c s) = base s := base_of_beside (beside_changeMode a b c s)
@[simp] theorem base_endTransition (s : State) : base (endTransition s) = base s :=
  base_of_beside (beside_endTransition s)
@[simp] theorem base_runWalk (s : State) : base (runWalk s) = base s := base_of_beside (beside_runWalk s)

/-! ## Converter supervisor -/

@[simp] theorem base_dequeue (k : StringId) (s : State) : base (dequeue k s) = base s := rfl
@[simp] theorem base_faultString (k : StringId) (s : State) : base (faultString k s) = base s := by
  unfold faultString; split <;> simp
@[simp] theorem base_tripString (c : FaultCode) (k : StringId) (s : State) : base (tripString c k s) = base s := by
  simp [tripString]
@[simp] theorem base_chargeSuccess (k : StringId) (s : State) : base (chargeSuccess k s) = base s := by
  unfold chargeSuccess; split <;> simp
@[simp] theorem base_testCurrent (k : StringId) (n : Nat) (s : State) : base (testCurrent k n s) = base s := by
  simp only [testCurrent]; split
  · split <;> simp
  · simp
@[simp] theorem base_testDcLink (k : StringId) (s : State) : base (testDcLink k s) = base s := by
  unfold testDcLink; split
  · simp
  · split <;> simp
@[simp] theorem base_testGate (k : StringId) (b : Bool) (s : State) : base (testGate k b s) = base s := by
  unfold testGate; split <;> simp
@[simp] theorem base_takeReport (k : StringId) (i u : Nat) (b : Bool) (s : State) :
    base (takeReport k i u b s) = base s := by
  simp only [takeReport]; split <;> simp
@[simp] theorem base_timeoutPrecharge (k : StringId) (s : State) : base (timeoutPrecharge k s) = base s := by
  unfold timeoutPrecharge; split <;> simp
@[simp] theorem base_disableString (k : StringId) (s : State) : base (disableString k s) = base s := by
  simp only [disableString, base_modStr]; split <;> simp
@[simp] theorem base_enableString (k : StringId) (s : State) : base (enableString k s) = base s := by
  simp only [enableString]; split <;> simp
@[simp] theorem base_silenceStep (k : StringId) (s : State) : base (silenceStep k s) = base s := by
  simp only [silenceStep]; split
  · simp
  · split <;> simp
@[simp] theorem base_clearPrechargeRow (k : StringId) (s : State) : base (clearPrechargeRow k s) = base s := rfl
@[simp] theorem base_releaseStep (k : StringId) (s : State) : base (releaseStep k s) = base s := by
  unfold releaseStep; split
  · split <;> simp
  · rfl
@[simp] theorem base_runStep (k : StringId) (s : State) : base (runStep k s) = base s := by
  unfold runStep; split <;> simp
@[simp] theorem base_limitStep (k : StringId) (s : State) : base (limitStep k s) = base s := by
  simp only [limitStep]; split <;> simp
@[simp] theorem base_sharingStep (s : State) : base (sharingStep s) = base s := by
  unfold sharingStep; split <;> rfl
@[simp] theorem base_completeStop (k : StringId) (s : State) : base (completeStop k s) = base s := by
  simp only [completeStop]; split
  · simp
  · split <;> simp
@[simp] theorem base_stoppingStep (k : StringId) (s : State) : base (stoppingStep k s) = base s := by
  simp only [stoppingStep]; split
  · split
    · simp
    · split <;> simp
  · rfl
@[simp] theorem base_commandStep (s : State) : base (commandStep s) = base s := rfl
@[simp] theorem base_beforeSharing (s : State) : base (beforeSharing s) = base s := by
  simp only [beforeSharing]
  rw [base_forEach base_limitStep, base_forEach base_runStep, base_forEach base_releaseStep,
    base_forEach base_clearPrechargeRow, base_forEach base_silenceStep]
@[simp] theorem base_joinEntered (old : State) (k : StringId) (s : State) : base (joinEntered old k s) = base s := by
  unfold joinEntered; split <;> simp
@[simp] theorem base_shareInterval (s : State) : base (shareInterval s) = base s := by
  simp only [shareInterval, base_commandStep]
  rw [base_forEach (base_joinEntered s), base_forEach base_stoppingStep, base_sharingStep, base_beforeSharing]

/-! ## Thermal model and cooling -/

@[simp] theorem base_rowAct (a : RowAct) (c : FaultCode) (u : Nat) (s : State) : base (rowAct a c u s) = base s := by
  cases a <;> rfl
@[simp] theorem base_readInlet (l : Liquid) (x : Int) (s : State) : base (readInlet l x s) = base s := by
  simp [readInlet]
@[simp] theorem base_substituteInlet (l : Liquid) (s : State) : base (substituteInlet l s) = base s := by
  simp only [substituteInlet]; split <;> simp
@[simp] theorem base_testJunction (k : StringId) (s : State) : base (testJunction k s) = base s := by
  simp only [testJunction]; split
  · split <;> simp
  · split <;> simp
@[simp] theorem base_testDerate (k : StringId) (s : State) : base (testDerate k s) = base s := by
  unfold testDerate; split
  · split <;> simp
  · simp
@[simp] theorem base_withTherm (x : Thermal) (s : State) : base { s with therm := x } = base s := rfl
@[simp] theorem base_thermalInterval (a b : Int) (s : State) : base (thermalInterval a b s) = base s := by
  simp only [thermalInterval, base_oweBothJudgements, base_withTherm]
  rw [base_forEach (by intro k t; simp)]
  simp
@[simp] theorem base_applyThermalSettings (s : State) : base (applyThermalSettings s) = base s := by
  unfold applyThermalSettings
  rw [base_forEach (by intro k t; simp [relimit])]
@[simp] theorem base_followFanClaim3 (s : State) : base (followFanClaim3 s) = base s := by
  unfold followFanClaim3; split <;> simp
@[simp] theorem base_loopFail (l : Liquid) (s : State) : base (loopFail l s) = base s := by
  simp only [loopFail, base_oweJudgement, base_setQueue]
  rw [base_forEach (base_stopOne true)]
  simp
@[simp] theorem base_pumpFails (l : Liquid) (s : State) : base (pumpFails l s) = base s := by
  unfold pumpFails; split <;> simp [standbyTrial]
@[simp] theorem base_proofTimeout (l : Liquid) (s : State) : base (proofTimeout l s) = base s := by
  unfold proofTimeout; split <;> simp
@[simp] theorem base_dropTimeout (l : Liquid) (s : State) : base (dropTimeout l s) = base s := by
  unfold dropTimeout; split <;> simp
@[simp] theorem base_flowChange (l : Liquid) (b : Bool) (s : State) : base (flowChange l b s) = base s := by
  simp only [flowChange]; split
  · split <;> simp
  all_goals simp
@[simp] theorem base_followSelection (l : Liquid) (n : Nat) (s : State) : base (followSelection l n s) = base s := by
  simp [followSelection]
@[simp] theorem base_evaluateFailed (l : Liquid) (s : State) : base (evaluateFailed l s) = base s := by
  simp only [evaluateFailed]; split <;> simp
@[simp] theorem base_evaluateLoop (l : Liquid) (x : Int) (s : State) : base (evaluateLoop l x s) = base s := by
  simp only [evaluateLoop]; (repeat' split) <;> simp
@[simp] theorem base_readAir (x : Int) (s : State) : base (readAir x s) = base s := by simp [readAir]
@[simp] theorem base_substituteAir (s : State) : base (substituteAir s) = base s := by simp [substituteAir]
@[simp] theorem base_evaluateAir (s : State) : base (evaluateAir s) = base s := by
  simp only [evaluateAir]; split
  · split <;> simp
  · simp
@[simp] theorem base_airOff (s : State) : base (airOff s) = base s := by simp [airOff]
@[simp] theorem base_runOnExpires (l : Liquid) (s : State) : base (runOnExpires l s) = base s := by
  unfold runOnExpires; split <;> simp
@[simp] theorem base_runOnExpires3 (s : State) : base (runOnExpires3 s) = base s := by
  simp only [runOnExpires3]; split
  · split <;> simp
  · rfl
@[simp] theorem base_setClamp (l : Liquid) (s : State) : base (setClamp l s) = base s := by simp [setClamp]
@[simp] theorem base_limitAir (s : State) : base (limitAir s) = base s := by
  unfold limitAir; split <;> simp
@[simp] theorem base_clampLoops (s : State) : base (clampLoops s) = base s := by
  simp [clampLoops]
@[simp] theorem base_withCool (x : Cooling) (s : State) : base { s with cool := x } = base s := rfl
@[simp] theorem base_evaluateHeaters (h : Int) (s : State) : base (evaluateHeaters h s) = base s := by
  simp only [evaluateHeaters]; (repeat' split) <;> simp
@[simp] theorem base_evaluateCooling (a b c d : Int) (s : State) : base (evaluateCooling a b c d s) = base s := by
  simp [evaluateCooling]
@[simp] theorem base_coolingEvaluation (a b c d : Int) (s : State) : base (coolingEvaluation a b c d s) = base s := by
  simp [coolingEvaluation]
@[simp] theorem base_airSubstitution (s : State) : base (airSubstitution s) = base s := by
  unfold airSubstitution; split <;> simp
@[simp] theorem base_modFan (f : FanId) (g : FanChannel → FanChannel) (s : State) : base (modFan f g s) = base s := by
  cases f <;> rfl
@[simp] theorem base_degradeLoop (l : Liquid) (s : State) : base (degradeLoop l s) = base s := by simp [degradeLoop]
@[simp] theorem base_fanFails (f : FanId) (s : State) : base (fanFails f s) = base s := by
  simp only [fanFails]; split
  · split <;> simp
  · rfl
@[simp] theorem base_returnFans (l : LoopId) (s : State) : base (returnFans l s) = base s := by
  simp only [returnFans]; split <;> simp

/-! ## Budget -/

@[simp] theorem base_withAux (x : Budget) (s : State) : base { s with aux := x } = base s := rfl
@[simp] theorem base_judgeCharger (s : State) : base (judgeCharger s) = base s := by
  unfold judgeCharger; split
  · split <;> simp
  · rfl
@[simp] theorem base_writeMarks (a b : Bool) (s : State) : base (writeMarks a b s) = base s := by
  simp only [writeMarks]; split <;> split <;> simp
@[simp] theorem base_judgeMarks (s : State) : base (judgeMarks s) = base s := by simp [judgeMarks]
@[simp] theorem base_sourceToBattery (s : State) : base (sourceToBattery s) = base s := by
  simp only [sourceToBattery]; split <;> simp
@[simp] theorem base_sourceToGrid (s : State) : base (sourceToGrid s) = base s := by
  simp only [sourceToGrid, base_judgeCharger]; split <;> simp
@[simp] theorem base_auxOnDip (s : State) : base (auxOnDip s) = base s := by
  unfold auxOnDip; split <;> simp
@[simp] theorem base_auxOnRecovering (s : State) : base (auxOnRecovering s) = base s := by
  unfold auxOnRecovering; split <;> simp
@[simp] theorem base_auxOnNormal (s : State) : base (auxOnNormal s) = base s := by
  unfold auxOnNormal; split <;> simp
@[simp] theorem base_auxOnLost (s : State) : base (auxOnLost s) = base s := by
  unfold auxOnLost; split <;> simp
@[simp] theorem base_bridgeExpires (s : State) : base (bridgeExpires s) = base s := by
  unfold bridgeExpires; split <;> simp
@[simp] theorem base_normalCountExpires (s : State) : base (normalCountExpires s) = base s := by
  unfold normalCountExpires; split <;> simp

/-! ## Mode controller -/

@[simp] theorem base_withMode (x : ModeCtl) (s : State) : base { s with mode := x } = base s := rfl
@[simp] theorem base_idleLimitExpires (s : State) : base (idleLimitExpires s) = base s := by
  unfold idleLimitExpires; split <;> simp
@[simp] theorem base_modeOnLost (s : State) : base (modeOnLost s) = base s := by
  unfold modeOnLost; split <;> simp
@[simp] theorem base_modeOnReturn (s : State) : base (modeOnReturn s) = base s := by
  unfold modeOnReturn; split <;> simp
@[simp] theorem base_testStormEntry (s : State) : base (testStormEntry s) = base s := by
  unfold testStormEntry; split <;> simp
@[simp] theorem base_testCalm (s : State) : base (testCalm s) = base s := by
  unfold testCalm; split <;> simp
@[simp] theorem base_calmExpires (s : State) : base (calmExpires s) = base s := by
  unfold calmExpires; split <;> simp
@[simp] theorem base_estopOpens (s : State) : base (estopOpens s) = base s := by
  simp only [estopOpens]
  split <;> simp [base_forEach base_faultString]
@[simp] theorem base_setOwner (o : Owner) (s : State) : base (setOwner o s) = base s := by
  simp only [setOwner]; split <;> simp
@[simp] theorem base_keyReaches (a b : KeyPos) (s : State) : base (keyReaches a b s) = base s := by
  simp only [keyReaches]; split
  · simp
  · split <;> simp
@[simp] theorem base_resetPressed (s : State) : base (resetPressed s) = base s := rfl
@[simp] theorem base_supervisionReload (s : State) : base (supervisionReload s) = base s := by
  unfold supervisionReload; split <;> simp
@[simp] theorem base_supervisionExpires (s : State) : base (supervisionExpires s) = base s := by
  simp only [supervisionExpires]; split
  · split
    · simp
    · split <;> simp
  · rfl

/-! ## Grid monitor -/

@[simp] theorem base_withConv (x : Converter) (s : State) : base { s with conv := x } = base s := rfl
@[simp] theorem base_takeVoltage (n : Nat) (s : State) : base (takeVoltage n s) = base s := rfl
@[simp] theorem base_followOver (a b : Bool) (s : State) : base (followOver a b s) = base s := by
  unfold followOver; split
  · split <;> simp
  · split <;> simp
@[simp] theorem base_sampleMonitor (m : MonitorId) (s : State) : base (sampleMonitor m s).1 = base s := by
  simp only [sampleMonitor]; split <;> simp
@[simp] theorem base_armMonitor (m : MonitorId) (a : Bool) (x n : Nat) (s : State) :
    base (armMonitor m a x n s) = base s := by
  simp only [armMonitor]; split
  · split <;> simp
  · simp
@[simp] theorem base_enterLost (s : State) : base (enterLost s) = base s := by simp [enterLost]
@[simp] theorem base_lostBy (c : FaultCode) (s : State) : base (lostBy c s) = base s := by simp [lostBy]
@[simp] theorem base_beginDip (s : State) : base (beginDip s) = base s := by
  simp only [beginDip]; split <;> simp [enterDip, addDip]
@[simp] theorem base_applyM1 (e : MonitorEvent) (s : State) : base (applyM1 e s) = base s := by
  unfold applyM1; split <;> simp [beginRecovery]
@[simp] theorem base_checkOver (s : State) : base (checkOver s) = base s := by
  unfold checkOver; split
  · split <;> simp
  · rfl
@[simp] theorem base_recoveryEnds (s : State) : base (recoveryEnds s) = base s := by simp [recoveryEnds]
@[simp] theorem base_gridReturns (s : State) : base (gridReturns s) = base s := by simp [gridReturns]
@[simp] theorem base_checkTiming (s : State) : base (checkTiming s) = base s := by
  unfold checkTiming; split
  · simp only [checkDip]; split <;> simp
  · simp only [checkRecovery]; split <;> simp
  · simp only [checkReturn]; split
    · split <;> simp
    · simp
  · rfl
@[simp] theorem base_ageDips (s : State) : base (ageDips s) = base s := rfl
@[simp] theorem base_gridSample (n : Nat) (s : State) : base (gridSample n s) = base s := by simp [gridSample]
@[simp] theorem base_rideThroughEnds (s : State) : base (rideThroughEnds s) = base s := by
  unfold rideThroughEnds; split
  · split <;> simp
  · rfl
@[simp] theorem base_qHoldEnds (s : State) : base (qHoldEnds s) = base s := by
  unfold qHoldEnds; split <;> simp
@[simp] theorem base_recoveryTimesOut (s : State) : base (recoveryTimesOut s) = base s := by
  unfold recoveryTimesOut; split <;> simp
@[simp] theorem base_overTimesOut (s : State) : base (overTimesOut s) = base s := by
  unfold overTimesOut; split <;> simp
@[simp] theorem base_dwellCompletes (s : State) : base (dwellCompletes s) = base s := by
  unfold dwellCompletes; split <;> simp

/-! ## Yaw controller -/

@[simp] theorem base_judgeDrives (s : State) : base (judgeDrives s) = base s := by simp [judgeDrives]
@[simp] theorem base_raiseTwistHard (s : State) : base (raiseTwistHard s) = base s := by
  simp [raiseTwistHard, untwistBecomesDue]
@[simp] theorem base_windowsAct (s : State) : base (windowsAct s) = base s := rfl
@[simp] theorem base_completeMove (b : Bool) (s : State) : base (completeMove b s) = base s := by simp [completeMove]
@[simp] theorem base_sensorStop (s : State) : base (sensorStop s) = base s := by
  unfold sensorStop; split
  · split <;> simp
  all_goals simp
@[simp] theorem base_brakeFailed (s : State) : base (brakeFailed s) = base s := by
  simp only [brakeFailed]; split
  · split <;> simp
  · simp
@[simp] theorem base_startMove (k : MoveKind) (d : Dir) (x : Option Int) (s : State) :
    base (startMove k d x s) = base s := by simp [startMove]
@[simp] theorem base_ventSettles (s : State) : base (ventSettles s) = base s := by
  unfold ventSettles; split
  · split <;> simp
  · rfl
@[simp] theorem base_pressurizeSettles (s : State) : base (pressurizeSettles s) = base s := by
  unfold pressurizeSettles; split
  · split <;> simp
  · rfl
@[simp] theorem base_rampSettles (s : State) : base (rampSettles s) = base s := by
  unfold rampSettles; split <;> simp
@[simp] theorem base_startUntwist (x : Int) (s : State) : base (startUntwist x s) = base s := by simp [startUntwist]
@[simp] theorem base_applyHardLimit (s : State) : base (applyHardLimit s) = base s := by
  unfold applyHardLimit; split
  · rfl
  · split
    · split
      · split
        · simp only; split <;> simp
        · rfl
      all_goals simp
    · rfl
@[simp] theorem base_judgeSoftLimit (s : State) : base (judgeSoftLimit s) = base s := by
  unfold judgeSoftLimit; split
  · split <;> simp [untwistBecomesDue]
  · rfl
@[simp] theorem base_judgeUntwistEnd (s : State) : base (judgeUntwistEnd s) = base s := by
  unfold judgeUntwistEnd; split
  · split <;> simp
  · rfl
@[simp] theorem base_carryStop (s : State) (x : Int) : base (carryStop s x) = base s := by
  unfold carryStop; split
  · rfl
  · split
    · split <;> simp
    · rfl
@[simp] theorem base_applyTheta (s : State) : base (applyTheta s) = base s := by
  simp only [applyTheta]; split
  · simp
  · simp only [base_carryStop]; split <;> simp
@[simp] theorem base_sampleVanes (a b : Reading) (w : Nat) (s : State) : base (sampleVanes a b w s) = base s := by
  simp only [sampleVanes]; (repeat' split) <;> simp only [base_raise, base_clearFault, base_setFault, base_modYaw]
@[simp] theorem base_formMeans (s : State) : base (formMeans s) = base s := rfl
@[simp] theorem base_formCap (s : State) : base (formCap s) = base s := rfl
@[simp] theorem base_sampleWind (a b : Reading) (w : Nat) (s : State) : base (sampleWind a b w s) = base s := by
  simp [sampleWind]
@[simp] theorem base_clearBrakeFault (s : State) : base (clearBrakeFault s) = base s := by
  unfold clearBrakeFault; split <;> simp
@[simp] theorem base_testStops (s : State) : base (testStops s) = base s := by
  unfold testStops; split
  · simp
  · split <;> simp
@[simp] theorem base_testUntwistWait (w : Nat) (s : State) : base (testUntwistWait w s) = base s := by
  simp only [testUntwistWait]; split
  · split
    · split <;> simp
    · split <;> simp
  · rfl
@[simp] theorem base_testAutoStart (s : State) : base (testAutoStart s) = base s := by
  unfold testAutoStart; split
  · split
    · rfl
    · split <;> simp
  · rfl
@[simp] theorem base_testStarts (s : State) : base (testStarts s) = base s := by
  unfold testStarts; split
  · split <;> simp
  · simp
@[simp] theorem base_startClearanceMove (n : Nat) (x : Int) (s : State) :
    base (startClearanceMove n x s) = base s := by
  simp only [startClearanceMove]; split <;> simp
@[simp] theorem base_testClearance (s : State) : base (testClearance s) = base s := by
  unfold testClearance; split
  · rfl
  · split
    · rfl
    · split <;> simp
@[simp] theorem base_sampleMotion (w : Nat) (s : State) : base (sampleMotion w s) = base s := by
  simp only [sampleMotion]; split <;> simp
@[simp] theorem base_yawSample (a b : Reading) (w : Int) (s : State) : base (yawSample a b w s) = base s := by
  simp [yawSample]
@[simp] theorem base_takeManual (s : State) : base (takeManual s) = base s := rfl
@[simp] theorem base_jog (d : Dir) (s : State) : base (jog d s) = base s := by
  simp only [jog, base_modYaw]; split <;> simp
@[simp] theorem base_goTo (x y : Int) (s : State) : base (goTo x y s) = base s := by
  simp only [goTo]; split
  · split <;> simp
  · simp
@[simp] theorem base_manualStop (s : State) : base (manualStop s) = base s := by simp [manualStop]
@[simp] theorem base_manualAuto (s : State) : base (manualAuto s) = base s := by
  simp only [manualAuto]; split <;> simp
@[simp] theorem base_pressJog (d : Dir) (s : State) : base (pressJog d s) = base s := by
  simp only [pressJog]; split
  · split <;> simp
  · rfl
@[simp] theorem base_releaseJog (d : Dir) (s : State) : base (releaseJog d s) = base s := by
  unfold releaseJog; split <;> simp
@[simp] theorem base_manualTimeout (s : State) : base (manualTimeout s) = base s := by
  unfold manualTimeout; split <;> simp
@[simp] theorem base_driveFails (c : Fin 10) (s : State) : base (driveFails c s) = base s := by
  simp only [driveFails]; split <;> simp
@[simp] theorem base_returnDrives (l : List (Fin 10)) (s : State) : base (returnDrives l s) = base s := by
  simp only [returnDrives, base_judgeDrives]
  rw [base_forEach (by intro c t; simp)]
  simp
@[simp] theorem base_clearanceBecomesDue (s : State) : base (clearanceBecomesDue s) = base s := by
  unfold clearanceBecomesDue; split
  · rfl
  · split <;> simp
@[simp] theorem base_applyTwistLimits (old : Settings) (s : State) : base (applyTwistLimits old s) = base s := by
  simp only [applyTwistLimits]
  split <;> split <;> simp
@[simp] theorem base_untwistWaitExpires (s : State) : base (untwistWaitExpires s) = base s := by
  simp only [untwistWaitExpires]; split
  · split <;> simp
  · rfl
@[simp] theorem base_commandUntwist (x : Int) (s : State) : base (commandUntwist x s) = base s := by
  simp only [commandUntwist]; split <;> simp [untwistBecomesDue]
@[simp] theorem base_watchProof (p : BrakeProof) (b : Bool) (s : State) : base (watchProof p b s) = base s := by
  unfold watchProof; split <;> simp
@[simp] theorem base_proofLost (p : BrakeProof) (s : State) : base (proofLost p s) = base s := by
  unfold proofLost; split
  · split <;> simp
  · split <;> simp

/-! ## Operations that write the store or the retained domain -/

/-- `base` with another retained domain. -/
theorem base_writeEnergy (n : Nat) (s : State) :
    base (writeEnergy n s) = base { s with retained := { s.retained with energy := n, energyCheck := true } } := rfl

theorem base_accountBattery (s : State) :
    base (accountBattery s) = base { s with retained := { s.retained with energy := energyAfter s, energyCheck := true } } := by
  simp only [accountBattery, accountCharger]
  split <;> simp [base_writeEnergy]

theorem base_modTwist (f : TwistRecord → TwistRecord) (s : State) :
    base (modTwist f s) =
      base { s with retained := { s.retained with twist := { f s.retained.twist with checkGood := true } } } := rfl

theorem base_setReference (x : Int) (a : Nat) (s : State) :
    base (setReference x a s) = base { s with retained := { s.retained with twist := referenceRecord x a } } := by
  simp only [setReference, base_clearanceBecomesDue, base_judgeUntwistEnd, base_judgeSoftLimit, base_clearFault,
    base_windowsAct]

theorem base_modWorking (f : Settings → Settings) (s : State) :
    base (modWorking f s) = base { s with store := { s.store with working := f s.store.working } } := rfl

end Sys2Proof.Machine
end

