-- ==== Sys2Proof/Laws/Port.lean ====
section
/-! SUPPORT. The port: a block's answer leaves the port alone, a request that arrives at a ready port is served in its event, and the end of an event adds notices behind the queue. -/

namespace Sys2Proof.Machine

/-- The queue of commands, the power, the pins and the port. -/
def port (s : State) : List Instr × Bool × Lines × Link := (s.pending, s.powered, s.lines, s.link)

theorem port_of_base {s t : State} (h : base t = base s) : port t = port s := by
  simp only [base, Prod.mk.injEq] at h
  simp only [port, h.1, h.2.1, h.2.2.1, h.2.2.2.2.1]

/-- What leaves `base` alone after a change that leaves the port alone. -/
theorem port_through {s t u : State} (h : base t = base u) (hu : port u = port s) : port t = port s :=
  (port_of_base h).trans hu

@[simp] theorem port_accept (s : State) : port (accept s).2 = port s := port_of_base (base_settle s)
@[simp] theorem port_acceptClamped (b : Bool) (s : State) : port (acceptClamped b s).2 = port s :=
  port_of_base (base_settle s)
@[simp] theorem port_refuse (st : Status) (s : State) : port (refuse st s).2 = port s := rfl
@[simp] theorem port_modWorking (f : Settings → Settings) (s : State) : port (modWorking f s) = port s := rfl

theorem port_applySetting (i : SettingId) (old : Settings) (s : State) : port (applySetting i old s) = port s := by
  cases i
  case td | tx => exact port_of_base (base_applyThermalSettings s)
  case softLimit | hardLimit => exact port_of_base (base_applyTwistLimits old s)
  all_goals rfl

theorem port_serveSetting (i : SettingId) (x : Int) (s : State) : port (serveSetting i x s).2 = port s := by
  simp only [serveSetting]
  repeat' split
  all_goals simp only [port_refuse, port_acceptClamped, port_applySetting, port_modWorking]

theorem port_serveJog (d : Dir) (s : State) : port (serveJog d s).2 = port s := by
  unfold serveJog
  repeat' split
  all_goals simp only [port_refuse, port_accept]
  exact port_of_base (base_jog d s)

theorem port_serveYawCommand (body : List Byte) (s : State) : port (serveYawCommand body s).2 = port s := by
  unfold serveYawCommand
  split
  · exact port_serveJog .cw s
  · exact port_serveJog .ccw s
  · simp only [serveGoTo]
    repeat' split
    all_goals simp only [port_refuse, port_accept]
    exact port_of_base (base_goTo _ _ s)
  · unfold serveYawStop
    repeat' split
    all_goals simp only [port_refuse, port_accept]
    exact port_of_base (base_manualStop s)
  · unfold serveYawAuto
    split
    all_goals simp only [port_refuse, port_accept]
    exact port_of_base (base_manualAuto s)
  · unfold serveUntwist
    repeat' split
    all_goals simp only [port_refuse, port_accept]
    exact port_of_base (base_commandUntwist _ s)
  · split <;> simp only [port_refuse]

/-- A block's answer leaves the queue of commands, the power, the pins and the port as they are. -/
theorem port_serve (k : Kind) (body : List Byte) (s : State) : port (serve k body s).2 = port s := by
  cases k
  case setMode =>
    simp only [serve, serveSetMode]
    repeat' split
    all_goals simp only [port_refuse, port_accept]
    all_goals exact port_of_base (base_changeMode _ _ _ s)
  case claimControl =>
    simp only [serve, serveClaimControl]
    split
    all_goals simp only [port_refuse, port_accept]
    exact port_of_base (base_setOwner _ s)
  case setStringEnable =>
    simp only [serve, serveSetStringEnable]
    repeat' split
    all_goals simp only [port_refuse, port_accept]
    · exact port_of_base (base_enableString _ s)
    · exact port_of_base (base_disableString _ s)
  case armGridMonitor =>
    simp only [serve, serveArmGridMonitor]
    repeat' split
    all_goals simp only [port_refuse]
    exact port_of_base (base_armMonitor _ _ _ _ s)
  case setCooling =>
    simp only [serve, serveSetCooling, serveLiquidCooling]
    repeat' split
    all_goals simp only [port_refuse, port_accept, port_acceptClamped, port_modWorking]
    all_goals first
      | exact port_of_base (base_returnFans _ s)
      | exact port_through (base_returnFans _ _) (port_modWorking _ s)
  case setAuxReserves =>
    simp only [serve, serveSetAuxReserves]
    repeat' split
    all_goals simp only [port_refuse, port_acceptClamped]
    rfl
  case setHoist =>
    simp only [serve, serveSetHoist]
    repeat' split
    all_goals simp only [port_refuse, port_accept]
    all_goals rfl
  case setBatteryEnergy =>
    simp only [serve, serveSetBatteryEnergy]
    repeat' split
    all_goals simp only [port_refuse, port_acceptClamped]
    exact port_through (u := writeEnergy _ s) ((base_judgeCharger _).trans (base_judgeMarks _)) rfl
  case yawCommand => exact port_serveYawCommand body s
  case setDriveSlots =>
    simp only [serve, serveSetDriveSlots]
    repeat' split
    all_goals simp only [port_refuse, port_accept]
    exact port_through (base_returnDrives _ _) (port_modWorking _ s)
  case setTwistReference =>
    simp only [serve, serveSetTwistReference]
    repeat' split
    all_goals simp only [port_refuse, port_accept]
    exact port_through (base_setReference _ _ s) rfl
  case setSetting =>
    simp only [serve, serveSetSetting]
    repeat' split
    all_goals simp only [port_refuse, port_serveSetting]
  case ackFault =>
    simp only [serve, serveAckFault]
    repeat' split
    all_goals simp only [port_refuse, port_accept]
    rfl
  all_goals
    simp only [serve, serveRead, serveSetTime, serveRestart, serveEnableSupervision, serveSetPower, serveSetRideThrough,
      serveSetYawPolicy, serveSetNoDwellWindow, serveGetFaults, serveSetFaultClass, serveGetSnapshot,
      serveClearSnapshot, serveClearCounts, serveGetSetting, serveStoreSettings, serveLockSettings]
  all_goals repeat' split
  all_goals rfl

theorem serve_link (k : Kind) (body : List Byte) (s : State) : (serve k body s).2.link = s.link :=
  congrArg (fun p => p.2.2.2) (port_serve k body s)

/-! ## One request at a ready port -/

theorem supervisionReload_link (s : State) : (supervisionReload s).link = s.link := by
  unfold supervisionReload; split <;> rfl

theorem served_link (s : State) : (served s).link = s.link := supervisionReload_link _

/-- A served request leaves the inbound queue alone. -/
theorem serveFrame_inbound (f : Frame) (s : State) : (serveFrame f s).link.inbound = s.link.inbound := by
  have queue (kd tg : Byte) (st : Status) (c : List Byte) (r : Bool) (t : State) :
      (queueReply kd tg st c r t).link.inbound = t.link.inbound := by
    simp only [queueReply]; split <;> rfl
  have marks (k : Kind) (t : State) : (clearMarks k t).link = t.link := by
    unfold clearMarks; split <;> rfl
  simp only [serveFrame]
  split
  · rw [queue, marks, updateMarks_link, serve_link]
  · rw [queue]
  · rfl

/-- A request that arrives at a ready port is served in its event, and nothing else is. -/
theorem request_ready {f : Frame} {s : State} (h : PortReady s) :
    request f s = finish (serveFrame f (served s)) := by
  obtain ⟨hp, hi, hm⟩ := h
  have hl : (served s).link = s.link := served_link s
  have hin : (served s).link.inbound = [] := by rw [hl, hi]
  have hlt : (supervisionReload (beginEvent s)).link.inbound.length < 8 := by
    have : (supervisionReload (beginEvent s)).link.inbound = [] := hin
    simp [this]
  have hmay (x : List Frame) : mayServe (modLink (fun l => { l with inbound := x }) (served s)) = true := by
    simpa [mayServe, modLink, hl] using hm
  have hback : modLink (fun l => { l with inbound := [] })
      (modLink (fun l => { l with inbound := l.inbound ++ [f] }) (served s)) = served s := by
    simp only [modLink]
    rw [← hin]
  have hone : takeFrame f (beginEvent s) = serveFrame f (served s) := by
    simp only [takeFrame, acceptFrame, hlt, if_true]
    have hq : modLink (fun l => { l with inbound := l.inbound ++ [f] }) (supervisionReload (beginEvent s)) =
        modLink (fun l => { l with inbound := [f] }) (served s) := by
      simp only [modLink]
      have : (supervisionReload (beginEvent s)).link.inbound = [] := hin
      rw [this]; rfl
    rw [hq, pumpAll, pump, hmay]
    simp only [if_true, modLink_link]
    have hr : modLink (fun l => { l with inbound := [] }) (modLink (fun l => { l with inbound := [f] }) (served s)) =
        served s := by
      simp only [modLink]; rw [← hin]
    rw [hr]
    have hdone : (serveFrame f (served s)).link.inbound = [] := by rw [serveFrame_inbound, hin]
    rw [pump]
    split
    · rw [hdone]
    · rfl
  simp only [request, event, hp, if_true, hone]

/-! ## The end of an event -/

@[simp] theorem takeModeNotice_pending (s : State) : (takeModeNotice s).pending = s.pending := by
  unfold takeModeNotice; split <;> rfl
@[simp] theorem takeModeNotice_powered (s : State) : (takeModeNotice s).powered = s.powered := by
  unfold takeModeNotice; split <;> rfl
@[simp] theorem takeModeNotice_lines (s : State) : (takeModeNotice s).lines = s.lines := by
  unfold takeModeNotice; split <;> rfl
@[simp] theorem takeModeNotice_clock (s : State) : (takeModeNotice s).clock = s.clock := by
  unfold takeModeNotice; split <;> rfl
@[simp] theorem takeModeNotice_evt (s : State) : (takeModeNotice s).evt = s.evt := by
  unfold takeModeNotice; split <;> rfl
@[simp] theorem takeModeNotice_conv (s : State) : (takeModeNotice s).conv = s.conv := by
  unfold takeModeNotice; split <;> rfl
@[simp] theorem takeModeNotice_grid (s : State) : (takeModeNotice s).grid = s.grid := by
  unfold takeModeNotice; split <;> rfl
@[simp] theorem takeModeNotice_therm (s : State) : (takeModeNotice s).therm = s.therm := by
  unfold takeModeNotice; split <;> rfl
@[simp] theorem takeModeNotice_cool (s : State) : (takeModeNotice s).cool = s.cool := by
  unfold takeModeNotice; split <;> rfl
@[simp] theorem takeModeNotice_aux (s : State) : (takeModeNotice s).aux = s.aux := by
  unfold takeModeNotice; split <;> rfl
@[simp] theorem takeModeNotice_yaw (s : State) : (takeModeNotice s).yaw = s.yaw := by
  unfold takeModeNotice; split <;> rfl
@[simp] theorem takeModeNotice_store (s : State) : (takeModeNotice s).store = s.store := by
  unfold takeModeNotice; split <;> rfl
@[simp] theorem takeModeNotice_retained (s : State) : (takeModeNotice s).retained = s.retained := by
  unfold takeModeNotice; split <;> rfl

@[simp] theorem takeFaultNotice_pending (s : State) : (takeFaultNotice s).pending = s.pending := by
  unfold takeFaultNotice; repeat' split
  all_goals rfl
@[simp] theorem takeFaultNotice_powered (s : State) : (takeFaultNotice s).powered = s.powered := by
  unfold takeFaultNotice; repeat' split
  all_goals rfl
@[simp] theorem takeFaultNotice_lines (s : State) : (takeFaultNotice s).lines = s.lines := by
  unfold takeFaultNotice; repeat' split
  all_goals rfl
@[simp] theorem takeFaultNotice_clock (s : State) : (takeFaultNotice s).clock = s.clock := by
  unfold takeFaultNotice; repeat' split
  all_goals rfl
@[simp] theorem takeFaultNotice_evt (s : State) : (takeFaultNotice s).evt = s.evt := by
  unfold takeFaultNotice; repeat' split
  all_goals rfl
@[simp] theorem takeFaultNotice_conv (s : State) : (takeFaultNotice s).conv = s.conv := by
  unfold takeFaultNotice; repeat' split
  all_goals rfl
@[simp] theorem takeFaultNotice_grid (s : State) : (takeFaultNotice s).grid = s.grid := by
  unfold takeFaultNotice; repeat' split
  all_goals rfl
@[simp] theorem takeFaultNotice_therm (s : State) : (takeFaultNotice s).therm = s.therm := by
  unfold takeFaultNotice; repeat' split
  all_goals rfl
@[simp] theorem takeFaultNotice_cool (s : State) : (takeFaultNotice s).cool = s.cool := by
  unfold takeFaultNotice; repeat' split
  all_goals rfl
@[simp] theorem takeFaultNotice_aux (s : State) : (takeFaultNotice s).aux = s.aux := by
  unfold takeFaultNotice; repeat' split
  all_goals rfl
@[simp] theorem takeFaultNotice_yaw (s : State) : (takeFaultNotice s).yaw = s.yaw := by
  unfold takeFaultNotice; repeat' split
  all_goals rfl
@[simp] theorem takeFaultNotice_store (s : State) : (takeFaultNotice s).store = s.store := by
  unfold takeFaultNotice; repeat' split
  all_goals rfl
@[simp] theorem takeFaultNotice_retained (s : State) : (takeFaultNotice s).retained = s.retained := by
  unfold takeFaultNotice; repeat' split
  all_goals rfl
@[simp] theorem takeFaultNotice_mode (s : State) : (takeFaultNotice s).mode = s.mode := by
  unfold takeFaultNotice; repeat' split
  all_goals rfl

@[simp] theorem takeFaultNotices_pending (n : Nat) (s : State) : (takeFaultNotices n s).pending = s.pending := by
  induction n generalizing s with
  | zero => rfl
  | succ n ih => rw [takeFaultNotices, ih, takeFaultNotice_pending]
@[simp] theorem takeFaultNotices_powered (n : Nat) (s : State) : (takeFaultNotices n s).powered = s.powered := by
  induction n generalizing s with
  | zero => rfl
  | succ n ih => rw [takeFaultNotices, ih, takeFaultNotice_powered]
@[simp] theorem takeFaultNotices_lines (n : Nat) (s : State) : (takeFaultNotices n s).lines = s.lines := by
  induction n generalizing s with
  | zero => rfl
  | succ n ih => rw [takeFaultNotices, ih, takeFaultNotice_lines]
@[simp] theorem takeFaultNotices_clock (n : Nat) (s : State) : (takeFaultNotices n s).clock = s.clock := by
  induction n generalizing s with
  | zero => rfl
  | succ n ih => rw [takeFaultNotices, ih, takeFaultNotice_clock]
@[simp] theorem takeFaultNotices_evt (n : Nat) (s : State) : (takeFaultNotices n s).evt = s.evt := by
  induction n generalizing s with
  | zero => rfl
  | succ n ih => rw [takeFaultNotices, ih, takeFaultNotice_evt]
@[simp] theorem takeFaultNotices_conv (n : Nat) (s : State) : (takeFaultNotices n s).conv = s.conv := by
  induction n generalizing s with
  | zero => rfl
  | succ n ih => rw [takeFaultNotices, ih, takeFaultNotice_conv]
@[simp] theorem takeFaultNotices_grid (n : Nat) (s : State) : (takeFaultNotices n s).grid = s.grid := by
  induction n generalizing s with
  | zero => rfl
  | succ n ih => rw [takeFaultNotices, ih, takeFaultNotice_grid]
@[simp] theorem takeFaultNotices_therm (n : Nat) (s : State) : (takeFaultNotices n s).therm = s.therm := by
  induction n generalizing s with
  | zero => rfl
  | succ n ih => rw [takeFaultNotices, ih, takeFaultNotice_therm]
@[simp] theorem takeFaultNotices_cool (n : Nat) (s : State) : (takeFaultNotices n s).cool = s.cool := by
  induction n generalizing s with
  | zero => rfl
  | succ n ih => rw [takeFaultNotices, ih, takeFaultNotice_cool]
@[simp] theorem takeFaultNotices_aux (n : Nat) (s : State) : (takeFaultNotices n s).aux = s.aux := by
  induction n generalizing s with
  | zero => rfl
  | succ n ih => rw [takeFaultNotices, ih, takeFaultNotice_aux]
@[simp] theorem takeFaultNotices_yaw (n : Nat) (s : State) : (takeFaultNotices n s).yaw = s.yaw := by
  induction n generalizing s with
  | zero => rfl
  | succ n ih => rw [takeFaultNotices, ih, takeFaultNotice_yaw]
@[simp] theorem takeFaultNotices_store (n : Nat) (s : State) : (takeFaultNotices n s).store = s.store := by
  induction n generalizing s with
  | zero => rfl
  | succ n ih => rw [takeFaultNotices, ih, takeFaultNotice_store]
@[simp] theorem takeFaultNotices_retained (n : Nat) (s : State) : (takeFaultNotices n s).retained = s.retained := by
  induction n generalizing s with
  | zero => rfl
  | succ n ih => rw [takeFaultNotices, ih, takeFaultNotice_retained]
@[simp] theorem takeFaultNotices_mode (n : Nat) (s : State) : (takeFaultNotices n s).mode = s.mode := by
  induction n generalizing s with
  | zero => rfl
  | succ n ih => rw [takeFaultNotices, ih, takeFaultNotice_mode]

@[simp] theorem finish_pending (s : State) : (finish s).pending = s.pending := by simp [finish, takeNotices]
@[simp] theorem finish_powered (s : State) : (finish s).powered = s.powered := by simp [finish, takeNotices]
@[simp] theorem finish_lines (s : State) : (finish s).lines = s.lines := by simp [finish, takeNotices]
@[simp] theorem finish_clock (s : State) : (finish s).clock = s.clock := by simp [finish, takeNotices]
@[simp] theorem finish_evt (s : State) : (finish s).evt = s.evt := by simp [finish, takeNotices]
@[simp] theorem finish_conv (s : State) : (finish s).conv = s.conv := by simp [finish, takeNotices]
@[simp] theorem finish_grid (s : State) : (finish s).grid = s.grid := by simp [finish, takeNotices]
@[simp] theorem finish_therm (s : State) : (finish s).therm = s.therm := by simp [finish, takeNotices]
@[simp] theorem finish_cool (s : State) : (finish s).cool = s.cool := by simp [finish, takeNotices]
@[simp] theorem finish_aux (s : State) : (finish s).aux = s.aux := by simp [finish, takeNotices]
@[simp] theorem finish_yaw (s : State) : (finish s).yaw = s.yaw := by simp [finish, takeNotices]
@[simp] theorem finish_store (s : State) : (finish s).store = s.store := by simp [finish, takeNotices]
@[simp] theorem finish_retained (s : State) : (finish s).retained = s.retained := by simp [finish, takeNotices]

theorem takeModeNotice_kept (s : State) : (takeModeNotice s).mode.kept = s.mode.kept := by
  unfold takeModeNotice; split <;> rfl

theorem takeModeNotice_faults (s : State) : (takeModeNotice s).faults = s.faults := by
  unfold takeModeNotice; split <;> rfl

theorem finish_kept (s : State) : (finish s).mode.kept = s.mode.kept := by
  simp only [finish, takeNotices, takeFaultNotices_mode, takeModeNotice_kept]
  rfl

/-- The change marks are settled before the notices are taken. -/
theorem finish_marks (s : State) : (finish s).mode.marks = (updateMarks s).mode.marks := by
  have : (takeModeNotice (updateMarks s)).mode.marks = (updateMarks s).mode.marks := by
    unfold takeModeNotice; split <;> rfl
  simp only [finish, takeNotices, takeFaultNotices_mode, this]

theorem clearPending_row (j i : Nat) (s : State) :
    { rowAt (clearPending j s) i with pending := false } = { rowAt s i with pending := false } := by
  simp only [rowAt, clearPending, updateAt, List.getD_eq_getElem?_getD, List.getElem?_modify]
  cases s.faults.rows[i]? with
  | none => simp
  | some r => by_cases h : j = i <;> simp [h]

theorem takeFaultNotice_row (i : Nat) (s : State) :
    { rowAt (takeFaultNotice s) i with pending := false } = { rowAt s i with pending := false } := by
  unfold takeFaultNotice
  repeat' split
  · exact clearPending_row _ i _
  all_goals rfl

theorem takeFaultNotices_row (n i : Nat) (s : State) :
    { rowAt (takeFaultNotices n s) i with pending := false } = { rowAt s i with pending := false } := by
  induction n generalizing s with
  | zero => rfl
  | succ n ih => rw [takeFaultNotices, ih, takeFaultNotice_row]

/-- The end of an event changes no row but for its pending flag. -/
theorem finish_row (i : Nat) (s : State) :
    { rowAt (finish s) i with pending := false } = { rowAt s i with pending := false } := by
  simp only [finish, takeNotices]
  rw [takeFaultNotices_row]
  simp only [rowAt, takeModeNotice_faults, updateMarks_faults]

/-- The end of an event is quiet. -/
theorem quiet_finish (s : State) : Quiet s (finish s) :=
  ⟨outside_finish s, finish_conv s, finish_cool s, finish_aux s, finish_yaw s, finish_kept s, fun i => finish_row i s⟩

theorem Quiet.trans {s t u : State} (h : Quiet s t) (k : Quiet t u) : Quiet s u := by
  obtain ⟨h1, h2, h3, h4, h5, h6, h7⟩ := h
  obtain ⟨k1, k2, k3, k4, k5, k6, k7⟩ := k
  exact ⟨k1.trans h1, k2.trans h2, k3.trans h3, k4.trans h4, k5.trans h5, k6.trans h6, fun i => (k7 i).trans (h7 i)⟩

theorem Quiet.refl (s : State) : Quiet s s := ⟨rfl, rfl, rfl, rfl, rfl, rfl, fun _ => rfl⟩

theorem takeFaultNotice_outbound (s : State) :
    ∃ ns, (takeFaultNotice s).link.outbound = s.link.outbound ++ ns ∧ ∀ f ∈ ns, f.notice = true := by
  unfold takeFaultNotice
  split
  · split
    · exact ⟨[⟨_, true, false⟩], rfl, by simp⟩
    · exact ⟨[], by simp, by simp⟩
  · exact ⟨[], by simp, by simp⟩

theorem takeFaultNotices_outbound (n : Nat) (s : State) :
    ∃ ns, (takeFaultNotices n s).link.outbound = s.link.outbound ++ ns ∧ ∀ f ∈ ns, f.notice = true := by
  induction n generalizing s with
  | zero => exact ⟨[], by simp [takeFaultNotices], by simp⟩
  | succ n ih =>
    obtain ⟨a, ha, ha'⟩ := takeFaultNotice_outbound s
    obtain ⟨b, hb, hb'⟩ := ih (takeFaultNotice s)
    refine ⟨a ++ b, by rw [takeFaultNotices, hb, ha, List.append_assoc], ?_⟩
    intro f hf
    rcases List.mem_append.mp hf with h | h
    · exact ha' f h
    · exact hb' f h

/-- The end of an event keeps every frame queued and adds notices behind them. -/
theorem finish_outbound (s : State) :
    ∃ ns, (finish s).link.outbound = s.link.outbound ++ ns ∧ ∀ f ∈ ns, f.notice = true := by
  have h1 : ∃ ns, (takeModeNotice (updateMarks s)).link.outbound = s.link.outbound ++ ns ∧
      ∀ f ∈ ns, f.notice = true := by
    unfold takeModeNotice
    split
    · exact ⟨[⟨_, true, false⟩], rfl, by simp⟩
    · exact ⟨[], by simp, by simp⟩
  obtain ⟨a, ha, ha'⟩ := h1
  obtain ⟨b, hb, hb'⟩ := takeFaultNotices_outbound 8 (takeModeNotice (updateMarks s))
  refine ⟨a ++ b, by rw [finish, takeNotices, hb, ha, List.append_assoc], ?_⟩
  intro f hf
  rcases List.mem_append.mp hf with h | h
  · exact ha' f h
  · exact hb' f h

/-- The reply that a request leaves is the first frame behind those already queued. -/
theorem queueReply_outbound (kind tag : Byte) (status : Status) (content : List Byte) (restart : Bool) (s : State) :
    (queueReply kind tag status content restart s).link.outbound =
      s.link.outbound ++ [⟨⟨kind, tag, u8 status.code ++ u8 (linkFlags s) ++ content⟩, false, restart⟩] := by
  simp only [queueReply]; split <;> rfl

theorem answered_finish {s t : State} {kind tag : Byte} {status : Status} {content : List Byte} {restart : Bool}
    (h : t.link.outbound = s.link.outbound) :
    Answered s (finish (queueReply kind tag status content restart t)) kind tag status content := by
  obtain ⟨ns, hn, -⟩ := finish_outbound (queueReply kind tag status content restart t)
  refine ⟨linkFlags t, restart, ?_⟩
  rw [hn, queueReply_outbound, h]
  simp

/-- A request of a kind, with a body that fits and a TAG, arriving at a ready port: the event as its block answers it. -/
theorem request_served {k : Kind} {f : Frame} {s : State} (h : PortReady s) (hk : Kind.ofByte f.kind = some k)
    (hb : k.fits f.body = true) (ht : f.tag ≠ 0) :
    request f s = finish (queueReply (replyKind f.kind) f.tag (serve k f.body (served s)).1
      (replyBody k f.body (serve k f.body (served s)).1 (served s) (updateMarks (serve k f.body (served s)).2))
      (k = .restart && (serve k f.body (served s)).1 = .ok)
      (clearMarks k (updateMarks (serve k f.body (served s)).2))) := by
  rw [request_ready h]
  have hc : portCheck f = none := by
    have ht' : ¬ f.tag = 0#8 := ht
    simp [portCheck, hk, hb, ht']
  simp only [serveFrame, hc, hk]

/-- A reply that starts no restart is quiet but for the flags it reports. -/
theorem quiet_queueReply (kind tag : Byte) (status : Status) (content : List Byte) (s : State) :
    Quiet (replied s) (queueReply kind tag status content false s) := by
  simp only [replied, queueReply, Bool.or_false]
  split
  · exact ⟨rfl, rfl, rfl, rfl, rfl, rfl, fun _ => rfl⟩
  · exact ⟨rfl, rfl, rfl, rfl, rfl, rfl, fun _ => rfl⟩

theorem quiet_updateMarks (s : State) : Quiet s (updateMarks s) :=
  ⟨rfl, rfl, rfl, rfl, rfl, rfl, fun _ => rfl⟩

theorem quiet_clearMarks (k : Kind) (s : State) : Quiet s (clearMarks k s) := by
  unfold clearMarks
  split <;> exact ⟨rfl, rfl, rfl, rfl, rfl, rfl, fun _ => rfl⟩

/-- A state with other change marks and another base of comparison. -/
def withMarks (marks : List Bool) (base : List Nat) (s : State) : State :=
  { s with mode := { s.mode with marks := marks, base := base } }

/-- The change marks are a part of the mode record alone. -/
theorem clearMarks_updateMarks (k : Kind) (s : State) :
    ∃ marks base, clearMarks k (updateMarks s) = withMarks marks base s := by
  unfold clearMarks
  split <;> exact ⟨_, _, rfl⟩

theorem clearFault_withMarks (c : FaultCode) (u : Nat) (marks : List Bool) (base : List Nat) (s : State) :
    clearFault c u (withMarks marks base s) = withMarks marks base (clearFault c u s) := rfl

theorem quiet_replied_marks (k : Kind) (s : State) : Quiet (replied s) (replied (clearMarks k (updateMarks s))) := by
  obtain ⟨marks, base, h⟩ := clearMarks_updateMarks k s
  have hr : replied (withMarks marks base s) = withMarks marks base (replied s) := by
    have hl : (withMarks marks base s).link = s.link := rfl
    simp only [replied, hl]
    split
    · exact clearFault_withMarks _ _ _ _ (modLink (fun l => { l with overrunSeen := false, badSeen := false }) s)
    · rfl
  rw [h, hr]
  exact ⟨rfl, rfl, rfl, rfl, rfl, rfl, fun _ => rfl⟩

/-- A request that arrives at a ready port and starts no restart: it is answered as its block answers it, and the rest of
the event is quiet. -/
theorem request_answered {k : Kind} {f : Frame} {s : State} (h : PortReady s) (hk : Kind.ofByte f.kind = some k)
    (hb : k.fits f.body = true) (ht : f.tag ≠ 0) (hr : k ≠ .restart) {status : Status} {t : State}
    (ha : serve k f.body (served s) = (status, t)) :
    Answered s (request f s) (replyKind f.kind) f.tag status (replyBody k f.body status (served s) (updateMarks t)) ∧
    Quiet (replied t) (request f s) := by
  have hl : t.link = s.link := by
    have := serve_link k f.body (served s)
    rw [ha] at this
    rw [this, served_link]
  have hm : (clearMarks k (updateMarks t)).link = t.link := by unfold clearMarks; split <;> rfl
  have hd : decide (k = Kind.restart) = false := by simpa using hr
  rw [request_served h hk hb ht, ha]
  simp only [hd, Bool.false_and]
  refine ⟨answered_finish (by rw [hm, hl]), ?_⟩
  exact ((quiet_replied_marks k t).trans (quiet_queueReply _ _ _ _ _)).trans (quiet_finish _)

/-- A request that the port itself refuses. -/
theorem request_refused {f : Frame} {s : State} (h : PortReady s) {status : Status} (hc : portCheck f = some status) :
    Answered s (request f s) (replyKind f.kind) f.tag status [] ∧ Quiet (replied (served s)) (request f s) := by
  rw [request_ready h]
  simp only [serveFrame, hc]
  exact ⟨answered_finish (by rw [served_link]), (quiet_queueReply _ _ _ _ _).trans (quiet_finish _)⟩

end Sys2Proof.Machine
end

