-- ==== Sys2Proof/Laws/Settle.lean ====
section
/-! SUPPORT. What passes through the reactions of an event: the mode record when no transition is in flight, a Faulted string, a yaw controller at rest or pressurizing. -/

namespace Sys2Proof.Machine

/-! ## The reactions as turns -/

/-- What every turn and the outputs keep, the reactions keep. -/
theorem settle_keeps {P : State → Prop} (ht : ∀ s, P s → P (turn s)) (ho : ∀ s, P s → P (outputs s)) (s : State)
    (h : P s) : P (settle s) := by
  have : ∀ n s, P s → P (turns n s) := by
    intro n
    induction n with
    | zero => intro s h; exact h
    | succ n ih => intro s h; exact ih _ (ht s h)
  exact ho _ (this 8 s h)

theorem forEach_keeps {α : Type} {P : State → Prop} {f : α → State → State} (hf : ∀ a s, P s → P (f a s))
    (l : List α) (s : State) (h : P s) : P (forEach l f s) := by
  induction l generalizing s with
  | nil => exact h
  | cons a l ih => exact ih _ (hf a s h)

theorem forEach_field {α β : Type} {g : State → β} {f : α → State → State} (hf : ∀ a s, g (f a s) = g s)
    (l : List α) (s : State) : g (forEach l f s) = g s :=
  forEach_keeps (P := fun t => g t = g s) (fun a t h => (hf a t).trans h) l s rfl


/-! ## Operations that leave the mode record, the yaw record or the converter alone -/

@[simp] theorem oweJudgement_mode (l : Liquid) (s : State) : (oweJudgement l s).mode = s.mode := rfl
@[simp] theorem oweJudgement_yaw (l : Liquid) (s : State) : (oweJudgement l s).yaw = s.yaw := rfl
@[simp] theorem oweJudgement_conv (l : Liquid) (s : State) : (oweJudgement l s).conv = s.conv := rfl

@[simp] theorem oweBothJudgements_mode (s : State) : (oweBothJudgements s).mode = s.mode := rfl
@[simp] theorem oweBothJudgements_yaw (s : State) : (oweBothJudgements s).yaw = s.yaw := rfl
@[simp] theorem oweBothJudgements_conv (s : State) : (oweBothJudgements s).conv = s.conv := rfl

@[simp] theorem setStrState_mode (k : StringId) (st : StrState) (s : State) : (setStrState k st s).mode = s.mode := rfl
@[simp] theorem setStrState_yaw (k : StringId) (st : StrState) (s : State) : (setStrState k st s).yaw = s.yaw := rfl

@[simp] theorem emptyQueue_mode (s : State) : (emptyQueue s).mode = s.mode := by
  unfold emptyQueue; (repeat' split) <;> simp
@[simp] theorem emptyQueue_yaw (s : State) : (emptyQueue s).yaw = s.yaw := by
  unfold emptyQueue; (repeat' split) <;> simp

@[simp] theorem testJoin_mode (k : StringId) (s : State) : (testJoin k s).mode = s.mode := by
  unfold testJoin; (repeat' split) <;> simp
@[simp] theorem testJoin_yaw (k : StringId) (s : State) : (testJoin k s).yaw = s.yaw := by
  unfold testJoin; (repeat' split) <;> simp

@[simp] theorem testJoins_mode (l : List StringId) (s : State) : (testJoins l s).mode = s.mode := forEach_field (g := fun t => t.mode) testJoin_mode l s
@[simp] theorem testJoins_yaw (l : List StringId) (s : State) : (testJoins l s).yaw = s.yaw := forEach_field (g := fun t => t.yaw) testJoin_yaw l s

@[simp] theorem stopString_mode (b : Bool) (k : StringId) (s : State) : (stopString b k s).mode = s.mode := rfl
@[simp] theorem stopString_yaw (b : Bool) (k : StringId) (s : State) : (stopString b k s).yaw = s.yaw := rfl

@[simp] theorem stopOne_mode (b : Bool) (k : StringId) (s : State) : (stopOne b k s).mode = s.mode := by
  unfold stopOne; (repeat' split) <;> simp
@[simp] theorem stopOne_yaw (b : Bool) (k : StringId) (s : State) : (stopOne b k s).yaw = s.yaw := by
  unfold stopOne; (repeat' split) <;> simp

@[simp] theorem stopStrings_mode (b : Bool) (s : State) : (stopStrings b s).mode = s.mode := by
  rw [stopStrings, emptyQueue_mode]
  exact forEach_field (g := fun t => t.mode) (stopOne_mode b) _ s
@[simp] theorem stopStrings_yaw (b : Bool) (s : State) : (stopStrings b s).yaw = s.yaw := by
  rw [stopStrings, emptyQueue_yaw]
  exact forEach_field (g := fun t => t.yaw) (stopOne_yaw b) _ s

@[simp] theorem beginPrecharge_mode (s : State) : (beginPrecharge s).mode = s.mode := by
  unfold beginPrecharge; (repeat' split) <;> simp
@[simp] theorem beginPrecharge_yaw (s : State) : (beginPrecharge s).yaw = s.yaw := by
  unfold beginPrecharge; (repeat' split) <;> simp

@[simp] theorem followLoop_mode (k : StringId) (s : State) : (followLoop k s).mode = s.mode := by
  unfold followLoop; (repeat' split) <;> simp
@[simp] theorem followLoop_yaw (k : StringId) (s : State) : (followLoop k s).yaw = s.yaw := by
  unfold followLoop; (repeat' split) <;> simp

@[simp] theorem followPrechargeClaim_mode (s : State) : (followPrechargeClaim s).mode = s.mode := by
  unfold followPrechargeClaim; (repeat' split) <;> simp
@[simp] theorem followPrechargeClaim_yaw (s : State) : (followPrechargeClaim s).yaw = s.yaw := by
  unfold followPrechargeClaim; (repeat' split) <;> simp
@[simp] theorem followPrechargeClaim_conv (s : State) : (followPrechargeClaim s).conv = s.conv := by
  unfold followPrechargeClaim; (repeat' split) <;> simp

@[simp] theorem followPrecharge_mode (s : State) : (followPrecharge s).mode = s.mode := by
  rw [followPrecharge, followPrechargeClaim_mode, forEach_field (g := fun t => t.mode) followLoop_mode,
    beginPrecharge_mode]
@[simp] theorem followPrecharge_yaw (s : State) : (followPrecharge s).yaw = s.yaw := by
  rw [followPrecharge, followPrechargeClaim_yaw, forEach_field (g := fun t => t.yaw) followLoop_yaw,
    beginPrecharge_yaw]

@[simp] theorem abortPrecharge_mode (k : StringId) (s : State) : (abortPrecharge k s).mode = s.mode := by
  unfold abortPrecharge; (repeat' split) <;> simp
@[simp] theorem abortPrecharge_yaw (k : StringId) (s : State) : (abortPrecharge k s).yaw = s.yaw := by
  unfold abortPrecharge; (repeat' split) <;> simp

@[simp] theorem followFanClaim_mode (l : Liquid) (s : State) : (followFanClaim l s).mode = s.mode := by
  simp only [followFanClaim]; (repeat' split) <;> simp
@[simp] theorem followFanClaim_yaw (l : Liquid) (s : State) : (followFanClaim l s).yaw = s.yaw := by
  simp only [followFanClaim]; (repeat' split) <;> simp
@[simp] theorem followFanClaim_conv (l : Liquid) (s : State) : (followFanClaim l s).conv = s.conv := by
  simp only [followFanClaim]; (repeat' split) <;> simp

@[simp] theorem loopOff_mode (l : Liquid) (s : State) : (loopOff l s).mode = s.mode := rfl
@[simp] theorem loopOff_yaw (l : Liquid) (s : State) : (loopOff l s).yaw = s.yaw := rfl
@[simp] theorem loopOff_conv (l : Liquid) (s : State) : (loopOff l s).conv = s.conv := rfl

@[simp] theorem pumpGrantLost_mode (l : Liquid) (s : State) : (pumpGrantLost l s).mode = s.mode := by
  unfold pumpGrantLost; (repeat' split) <;> simp
@[simp] theorem pumpGrantLost_yaw (l : Liquid) (s : State) : (pumpGrantLost l s).yaw = s.yaw := by
  unfold pumpGrantLost; (repeat' split) <;> simp
@[simp] theorem pumpGrantLost_conv (l : Liquid) (s : State) : (pumpGrantLost l s).conv = s.conv := by
  unfold pumpGrantLost; (repeat' split) <;> simp

@[simp] theorem proofSuccess_mode (l : Liquid) (s : State) : (proofSuccess l s).mode = s.mode := by
  simp only [proofSuccess]; (repeat' split) <;> simp
@[simp] theorem proofSuccess_yaw (l : Liquid) (s : State) : (proofSuccess l s).yaw = s.yaw := by
  simp only [proofSuccess]; (repeat' split) <;> simp
@[simp] theorem proofSuccess_conv (l : Liquid) (s : State) : (proofSuccess l s).conv = s.conv := by
  simp only [proofSuccess]; (repeat' split) <;> simp

@[simp] theorem beginTrial_mode (l : Liquid) (p : Pump) (r : PumpRole) (s : State) : (beginTrial l p r s).mode = s.mode := by
  simp only [beginTrial]; (repeat' split) <;> simp
@[simp] theorem beginTrial_yaw (l : Liquid) (p : Pump) (r : PumpRole) (s : State) : (beginTrial l p r s).yaw = s.yaw := by
  simp only [beginTrial]; (repeat' split) <;> simp
@[simp] theorem beginTrial_conv (l : Liquid) (p : Pump) (r : PumpRole) (s : State) : (beginTrial l p r s).conv = s.conv := by
  simp only [beginTrial]; (repeat' split) <;> simp

@[simp] theorem startLoop_mode (l : Liquid) (s : State) : (startLoop l s).mode = s.mode := by
  unfold startLoop; (repeat' split) <;> simp
@[simp] theorem startLoop_yaw (l : Liquid) (s : State) : (startLoop l s).yaw = s.yaw := by
  unfold startLoop; (repeat' split) <;> simp
@[simp] theorem startLoop_conv (l : Liquid) (s : State) : (startLoop l s).conv = s.conv := by
  unfold startLoop; (repeat' split) <;> simp

@[simp] theorem judgeLoop_mode (l : Liquid) (s : State) : (judgeLoop l s).mode = s.mode := by
  simp only [judgeLoop]; (repeat' split) <;> simp
@[simp] theorem judgeLoop_yaw (l : Liquid) (s : State) : (judgeLoop l s).yaw = s.yaw := by
  simp only [judgeLoop]; (repeat' split) <;> simp
@[simp] theorem judgeLoop_conv (l : Liquid) (s : State) : (judgeLoop l s).conv = s.conv := by
  simp only [judgeLoop]; (repeat' split) <;> simp

@[simp] theorem judgeLoops_mode (s : State) : (judgeLoops s).mode = s.mode := by simp [judgeLoops]
@[simp] theorem judgeLoops_yaw (s : State) : (judgeLoops s).yaw = s.yaw := by simp [judgeLoops]
@[simp] theorem judgeLoops_conv (s : State) : (judgeLoops s).conv = s.conv := by simp [judgeLoops]

@[simp] theorem coolOnMode_mode (m : Mode) (s : State) : (coolOnMode m s).mode = s.mode := by
  simp only [coolOnMode]; (repeat' split) <;> simp
@[simp] theorem coolOnMode_yaw (m : Mode) (s : State) : (coolOnMode m s).yaw = s.yaw := by
  simp only [coolOnMode]; (repeat' split) <;> simp
@[simp] theorem coolOnMode_conv (m : Mode) (s : State) : (coolOnMode m s).conv = s.conv := by
  simp only [coolOnMode]; (repeat' split) <;> simp

@[simp] theorem judgeRevoked_mode (c : Claims) (s : State) : (judgeRevoked c s).mode = s.mode := by
  simp only [judgeRevoked]; (repeat' split) <;> simp
@[simp] theorem judgeRevoked_yaw (c : Claims) (s : State) : (judgeRevoked c s).yaw = s.yaw := by
  simp only [judgeRevoked]; (repeat' split) <;> simp
@[simp] theorem judgeRevoked_conv (c : Claims) (s : State) : (judgeRevoked c s).conv = s.conv := by
  simp only [judgeRevoked]; (repeat' split) <;> simp

@[simp] theorem runWalk_mode (s : State) : (runWalk s).mode = s.mode := by simp [runWalk]
@[simp] theorem runWalk_yaw (s : State) : (runWalk s).yaw = s.yaw := by simp [runWalk]
@[simp] theorem runWalk_conv (s : State) : (runWalk s).conv = s.conv := by simp [runWalk]

@[simp] theorem handPump_mode (a b : Claims) (l : Liquid) (s : State) : (handPump a b l s).mode = s.mode := by
  unfold handPump; (repeat' split) <;> simp
@[simp] theorem handPump_yaw (a b : Claims) (l : Liquid) (s : State) : (handPump a b l s).yaw = s.yaw := by
  unfold handPump; (repeat' split) <;> simp
@[simp] theorem handPump_conv (a b : Claims) (l : Liquid) (s : State) : (handPump a b l s).conv = s.conv := by
  unfold handPump; (repeat' split) <;> simp

@[simp] theorem handPrecharge_mode (a b : Claims) (s : State) : (handPrecharge a b s).mode = s.mode := by
  unfold handPrecharge; split
  · exact forEach_field (g := fun t => t.mode) abortPrecharge_mode _ s
  · rfl
@[simp] theorem handPrecharge_yaw (a b : Claims) (s : State) : (handPrecharge a b s).yaw = s.yaw := by
  unfold handPrecharge; split
  · exact forEach_field (g := fun t => t.yaw) abortPrecharge_yaw _ s
  · rfl

@[simp] theorem completeWaiting_mode (s : State) : (completeWaiting s).mode = s.mode := rfl
@[simp] theorem completeWaiting_conv (s : State) : (completeWaiting s).conv = s.conv := rfl

@[simp] theorem beginPressurize_mode (s : State) : (beginPressurize s).mode = s.mode := rfl
@[simp] theorem beginPressurize_conv (s : State) : (beginPressurize s).conv = s.conv := rfl

@[simp] theorem beginRamp_mode (sp : SpeedRef) (s : State) : (beginRamp sp s).mode = s.mode := rfl
@[simp] theorem beginRamp_conv (sp : SpeedRef) (s : State) : (beginRamp sp s).conv = s.conv := rfl

@[simp] theorem setForced_mode (s : State) : (setForced s).mode = s.mode := rfl
@[simp] theorem setForced_conv (s : State) : (setForced s).conv = s.conv := rfl

@[simp] theorem beginVent_mode (s : State) : (beginVent s).mode = s.mode := rfl
@[simp] theorem beginVent_conv (s : State) : (beginVent s).conv = s.conv := rfl

@[simp] theorem setYawMode_mode (m : YawMode) (s : State) : (setYawMode m s).mode = s.mode := rfl
@[simp] theorem setYawMode_conv (m : YawMode) (s : State) : (setYawMode m s).conv = s.conv := rfl

@[simp] theorem runningStop_mode (s : State) : (runningStop s).mode = s.mode := by
  unfold runningStop; (repeat' split) <;> simp
@[simp] theorem runningStop_conv (s : State) : (runningStop s).conv = s.conv := by
  unfold runningStop; (repeat' split) <;> simp

@[simp] theorem modeStop_mode (s : State) : (modeStop s).mode = s.mode := by
  unfold modeStop; split <;> simp
@[simp] theorem modeStop_conv (s : State) : (modeStop s).conv = s.conv := by
  unfold modeStop; split <;> simp

@[simp] theorem stopWaiting_mode (s : State) : (stopWaiting s).mode = s.mode := by
  simp only [stopWaiting, judgeDwell, endClearance]; (repeat' split) <;> simp
@[simp] theorem stopWaiting_conv (s : State) : (stopWaiting s).conv = s.conv := by
  simp only [stopWaiting, judgeDwell, endClearance]; (repeat' split) <;> simp

@[simp] theorem normalStop_mode (s : State) : (normalStop s).mode = s.mode := by
  unfold normalStop; split <;> simp
@[simp] theorem normalStop_conv (s : State) : (normalStop s).conv = s.conv := by
  unfold normalStop; split <;> simp

@[simp] theorem stopKind_mode (k : MoveKind) (s : State) : (stopKind k s).mode = s.mode := by
  unfold stopKind; (repeat' split) <;> simp
@[simp] theorem stopKind_conv (k : MoveKind) (s : State) : (stopKind k s).conv = s.conv := by
  unfold stopKind; (repeat' split) <;> simp

@[simp] theorem forcedStop_mode (s : State) : (forcedStop s).mode = s.mode := by
  unfold forcedStop; (repeat' split) <;> simp
@[simp] theorem forcedStop_conv (s : State) : (forcedStop s).conv = s.conv := by
  unfold forcedStop; (repeat' split) <;> simp

@[simp] theorem yawGrantLost_mode (s : State) : (yawGrantLost s).mode = s.mode := by
  unfold yawGrantLost; (repeat' split) <;> simp
@[simp] theorem yawGrantLost_conv (s : State) : (yawGrantLost s).conv = s.conv := by
  unfold yawGrantLost; (repeat' split) <;> simp

@[simp] theorem takeYawGrant_mode (n : Nat) (s : State) : (takeYawGrant n s).mode = s.mode := by
  unfold takeYawGrant; (repeat' split) <;> simp
@[simp] theorem takeYawGrant_conv (n : Nat) (s : State) : (takeYawGrant n s).conv = s.conv := by
  unfold takeYawGrant; (repeat' split) <;> simp

@[simp] theorem yawGrantChange_mode (a b : Nat) (s : State) : (yawGrantChange a b s).mode = s.mode := by
  unfold yawGrantChange; (repeat' split) <;> simp
@[simp] theorem yawGrantChange_conv (a b : Nat) (s : State) : (yawGrantChange a b s).conv = s.conv := by
  unfold yawGrantChange; (repeat' split) <;> simp

@[simp] theorem yawModeEffect_mode (a b : YawMode) (s : State) : (yawModeEffect a b s).mode = s.mode := by
  unfold yawModeEffect; (repeat' split) <;> simp
@[simp] theorem yawModeEffect_conv (a b : YawMode) (s : State) : (yawModeEffect a b s).conv = s.conv := by
  unfold yawModeEffect; (repeat' split) <;> simp

@[simp] theorem judgeYaw_mode (s : State) : (judgeYaw s).mode = s.mode := by
  simp only [judgeYaw]; (repeat' split) <;> simp
@[simp] theorem judgeYaw_conv (s : State) : (judgeYaw s).conv = s.conv := by
  simp only [judgeYaw]; (repeat' split) <;> simp

@[simp] theorem handYaw_mode (a b : Claims) (s : State) : (handYaw a b s).mode = s.mode := by
  unfold handYaw; (repeat' split) <;> simp
@[simp] theorem handYaw_conv (a b : Claims) (s : State) : (handYaw a b s).conv = s.conv := by
  unfold handYaw; (repeat' split) <;> simp

@[simp] theorem stopUntwistWait_mode (s : State) : (stopUntwistWait s).mode = s.mode := rfl
@[simp] theorem stopUntwistWait_conv (s : State) : (stopUntwistWait s).conv = s.conv := rfl

@[simp] theorem yawOnMode_mode (m : Mode) (s : State) : (yawOnMode m s).mode = s.mode := by
  simp only [yawOnMode]; (repeat' split) <;> simp
@[simp] theorem yawOnMode_conv (m : Mode) (s : State) : (yawOnMode m s).conv = s.conv := by
  simp only [yawOnMode]; (repeat' split) <;> simp

@[simp] theorem outputs_mode (s : State) : (outputs s).mode = s.mode := rfl
@[simp] theorem outputs_conv (s : State) : (outputs s).conv = s.conv := rfl

/-- The walk and the answers of the owners leave the mode record alone. -/
@[simp] theorem walkAndHand_mode (s : State) : (walkAndHand s).mode = s.mode := by
  simp only [walkAndHand, handGrants]; split <;> simp

/-! ## No transition in flight -/

theorem completeTransition_none {s : State} (h : s.mode.target = none) : completeTransition s = s := by
  simp [completeTransition, h]

/-- With no transition in flight the reactions leave the mode record alone. -/
theorem settle_mode {s : State} (h : s.mode.target = none) : (settle s).mode = s.mode := by
  have := settle_keeps (P := fun t => t.mode = s.mode)
    (fun t ht => by
      have hn : t.mode.target = none := by rw [ht, h]
      simp [turn, completeTransition_none hn, ht])
    (fun t ht => by simpa using ht) s rfl
  exact this

/-! ## Strings -/

theorem strOf_modStr_self (k : StringId) (f : StringRec → StringRec) (s : State) :
    strOf (modStr k f s) k = f (strOf s k) := by cases k <;> rfl

theorem strOf_modStr_ne {k j : StringId} (h : k ≠ j) (f : StringRec → StringRec) (s : State) :
    strOf (modStr j f s) k = strOf s k := by
  cases k <;> cases j <;> first | rfl | exact absurd rfl h

theorem strOf_conv {s t : State} (h : t.conv = s.conv) (k : StringId) : strOf t k = strOf s k := by
  simp [strOf, h]

/-- A string is Faulted and waits in no queue. -/
def Stays (k : StringId) (s : State) : Prop := (strOf s k).state = .faulted ∧ k ∉ s.conv.queue

theorem stays_conv {k : StringId} {s t : State} (h : t.conv = s.conv) (hs : Stays k s) : Stays k t := by
  simpa [Stays, strOf, h] using hs

theorem stays_modStr {k j : StringId} {f : StringRec → StringRec} {s : State} (hs : Stays k s)
    (h : k = j → (f (strOf s k)).state = .faulted) : Stays k (modStr j f s) := by
  refine ⟨?_, hs.2⟩
  by_cases e : k = j
  · subst e; rw [strOf_modStr_self]; exact h rfl
  · rw [strOf_modStr_ne e]; exact hs.1

theorem stays_setStrState {k j : StringId} {st : StrState} {s : State} (hs : Stays k s) (h : k ≠ j) :
    Stays k (setStrState j st s) :=
  stays_conv (oweJudgement_conv _ _) (stays_modStr hs fun e => absurd e h)

theorem stays_setQueue {k : StringId} {q : List StringId} {s : State} (hs : Stays k s) (h : k ∉ q) :
    Stays k (setQueue q s) := ⟨hs.1, h⟩

theorem stays_emptyQueue {k : StringId} {s : State} (hs : Stays k s) : Stays k (emptyQueue s) := by
  unfold emptyQueue; split
  · exact hs
  · exact stays_conv (oweBothJudgements_conv _) (stays_setQueue hs (by simp))

theorem stays_testJoin {k j : StringId} {s : State} (hs : Stays k s) : Stays k (testJoin j s) := by
  unfold testJoin; split
  · rename_i h
    refine stays_conv (oweJudgement_conv _ _) (stays_setQueue hs ?_)
    intro hm
    rcases List.mem_append.mp hm with hm | hm
    · exact hs.2 hm
    · have : k = j := by simpa using hm
      subst this
      simp [mayJoin, hs.1] at h
  · exact hs

theorem stays_stopString {k j : StringId} {b : Bool} {s : State} (hs : Stays k s) (h : k ≠ j) :
    Stays k (stopString b j s) := by
  unfold stopString
  exact stays_setStrState (stays_modStr hs fun e => absurd e h) h

theorem stays_stopOne {k j : StringId} {b : Bool} {s : State} (hs : Stays k s) : Stays k (stopOne b j s) := by
  unfold stopOne
  split
  · rename_i h
    refine stays_stopString hs ?_
    intro e; subst e
    simp [hs.1, StrState.stoppable] at h
  · split
    · exact stays_modStr hs fun e => by subst e; exact hs.1
    · exact hs

theorem stays_stopStrings {k : StringId} {b : Bool} {s : State} (hs : Stays k s) : Stays k (stopStrings b s) :=
  stays_emptyQueue (forEach_keeps (fun _ _ h => stays_stopOne h) _ s hs)

theorem stays_testJoins {k : StringId} {l : List StringId} {s : State} (hs : Stays k s) : Stays k (testJoins l s) :=
  forEach_keeps (fun _ _ h => stays_testJoin h) _ s hs

/-- Everything the converter does at a change of the mode record. -/
theorem stringsOnMode_cases (b : Bool) (m : Mode) (t : Option Mode) (s : State) :
    stringsOnMode b m t s = stopStrings false s ∨ stringsOnMode b m t s = stopStrings true s ∨
    stringsOnMode b m t s = testJoins StringId.all s ∨ stringsOnMode b m t s = s := by
  unfold stringsOnMode
  repeat' split
  all_goals simp

theorem stays_stringsOnMode {k : StringId} {b : Bool} {m : Mode} {t : Option Mode} {s : State} (hs : Stays k s) :
    Stays k (stringsOnMode b m t s) := by
  rcases stringsOnMode_cases b m t s with h | h | h | h <;> rw [h]
  · exact stays_stopStrings hs
  · exact stays_stopStrings hs
  · exact stays_testJoins hs
  · exact hs

theorem handMode_conv (a b : Mode) (s : State) : (handMode a b s).conv = s.conv := by
  simp only [handMode]; split <;> simp

theorem stays_changeMode {k : StringId} {m : Mode} {t : Option Mode} {c : Cause} {s : State} (hs : Stays k s) :
    Stays k (changeMode m t c s) := by
  have h : Stays k { s with mode := s.mode.changed s.clock m t c } := hs
  simp only [changeMode]
  split
  · exact hs
  · split
    · exact stays_stringsOnMode h
    · exact stays_conv (handMode_conv _ _ _) (stays_stringsOnMode h)

theorem stays_endTransition {k : StringId} {s : State} (hs : Stays k s) : Stays k (endTransition s) := by
  unfold endTransition
  repeat' split
  all_goals exact stays_changeMode hs

theorem stays_completeTransition {k : StringId} {s : State} (hs : Stays k s) : Stays k (completeTransition s) := by
  unfold completeTransition
  repeat' split
  all_goals first | exact stays_changeMode hs | exact stays_endTransition hs | exact hs

theorem stays_beginPrecharge {k : StringId} {s : State} (hs : Stays k s) : Stays k (beginPrecharge s) := by
  unfold beginPrecharge
  split
  · exact hs
  · rename_i j rest hq
    split
    · exact hs
    · have hk : k ∉ j :: rest := by rw [← hq]; exact hs.2
      have hne : k ≠ j := fun e => hk (by simp [e])
      refine stays_setStrState (stays_modStr (stays_setQueue hs fun hm => hk (by simp [hm])) fun e => absurd e hne) hne

theorem stays_followLoop {k j : StringId} {s : State} (hs : Stays k s) : Stays k (followLoop j s) := by
  unfold followLoop
  split
  · split
    · exact stays_modStr hs fun e => by subst e; exact hs.1
    · exact stays_modStr hs fun e => by subst e; exact hs.1
    · exact hs
  · exact hs

theorem stays_abortPrecharge {k j : StringId} {s : State} (hs : Stays k s) : Stays k (abortPrecharge j s) := by
  unfold abortPrecharge
  split
  · rename_i h
    have hne : k ≠ j := by
      intro e; subst e
      simp [isPrecharging, hs.1] at h
    refine stays_setStrState (stays_modStr (stays_setQueue hs ?_) fun e => absurd e hne) hne
    intro hm
    rcases List.mem_cons.mp hm with hm | hm
    · exact hne hm
    · exact hs.2 hm
  · exact hs

theorem stays_walkAndHand {k : StringId} {s : State} (hs : Stays k s) : Stays k (walkAndHand s) := by
  simp only [walkAndHand, handGrants]
  split
  · refine stays_conv (handYaw_conv _ _ _) ?_
    unfold handPrecharge
    have hb : Stays k (handPump s.aux.claims (runWalk s).aux.claims .l2
        (handPump s.aux.claims (runWalk s).aux.claims .l1 (runWalk s))) := stays_conv (by simp) hs
    split
    · exact forEach_keeps (fun _ _ h => stays_abortPrecharge h) _ _ hb
    · exact hb
  · exact hs

/-- A Faulted string in no queue stays Faulted through the reactions. -/
theorem settle_stays {k : StringId} {s : State} (hs : Stays k s) : Stays k (settle s) := by
  refine settle_keeps (P := Stays k) (fun t ht => ?_) (fun t ht => stays_conv (outputs_conv t) ht) s hs
  refine stays_walkAndHand (stays_conv (judgeYaw_conv _) (stays_conv (judgeLoops_conv _) ?_))
  refine stays_conv (followPrechargeClaim_conv _) ?_
  exact forEach_keeps (fun _ _ h => stays_followLoop h) _ _ (stays_beginPrecharge (stays_completeTransition ht))

/-- Entry to Faulted leaves the string out of the queue. -/
theorem stays_faultString {k : StringId} {s : State} (h : (strOf s k).state ≠ .isolated)
    (h' : (strOf s k).state ≠ .faulted) : Stays k (faultString k s) := by
  unfold faultString
  rw [if_neg (by simp [h, h'])]
  refine ⟨?_, ?_⟩
  · cases k <;> rfl
  · have : (dequeue k (setStrState k .faulted (modStr k (fun r =>
      let r := { r.offCircuit.blocked with blockedStop := none }
      { r with out := { r.out with contactorClosed := false } }) s))).conv.queue = s.conv.queue.filter (· ≠ k) := rfl
    rw [this]
    simp

/-! ## No string runs -/

/-- No string is eligible. -/
def NoneRuns (s : State) : Prop := ∀ k, (strOf s k).state.eligible = false

theorem noneRuns_conv {s t : State} (h : t.conv = s.conv) (hs : NoneRuns s) : NoneRuns t := by
  intro k; rw [strOf_conv h]; exact hs k

theorem noneRuns_modStr {j : StringId} {f : StringRec → StringRec} {s : State} (hs : NoneRuns s)
    (h : (f (strOf s j)).state.eligible = false) : NoneRuns (modStr j f s) := by
  intro k
  by_cases e : k = j
  · subst e; rw [strOf_modStr_self]; exact h
  · rw [strOf_modStr_ne e]; exact hs k

theorem noneRuns_setStrState {j : StringId} {st : StrState} {s : State} (hs : NoneRuns s) (h : st.eligible = false) :
    NoneRuns (setStrState j st s) := noneRuns_conv (oweJudgement_conv _ _) (noneRuns_modStr hs h)

theorem noneRuns_setQueue {q : List StringId} {s : State} (hs : NoneRuns s) : NoneRuns (setQueue q s) := hs

theorem noneRuns_stopOne {j : StringId} {b : Bool} {s : State} (hs : NoneRuns s) : NoneRuns (stopOne b j s) := by
  unfold stopOne
  split
  · unfold stopString
    refine noneRuns_setStrState (noneRuns_modStr hs ?_) rfl
    cases b <;> exact hs j
  · split
    · exact noneRuns_modStr hs (hs j)
    · exact hs

theorem noneRuns_emptyQueue {s : State} (hs : NoneRuns s) : NoneRuns (emptyQueue s) := by
  unfold emptyQueue; split
  · exact hs
  · exact noneRuns_conv (oweBothJudgements_conv _) (noneRuns_setQueue hs)

theorem noneRuns_testJoin {j : StringId} {s : State} (hs : NoneRuns s) : NoneRuns (testJoin j s) := by
  unfold testJoin; split
  · exact noneRuns_conv (oweJudgement_conv _ _) (noneRuns_setQueue hs)
  · exact hs

theorem noneRuns_stringsOnMode {b : Bool} {m : Mode} {t : Option Mode} {s : State} (hs : NoneRuns s) :
    NoneRuns (stringsOnMode b m t s) := by
  have h1 (c : Bool) : NoneRuns (stopStrings c s) :=
    noneRuns_emptyQueue (forEach_keeps (fun _ _ h => noneRuns_stopOne h) _ s hs)
  have h2 : NoneRuns (testJoins StringId.all s) := forEach_keeps (fun _ _ h => noneRuns_testJoin h) _ s hs
  rcases stringsOnMode_cases b m t s with h | h | h | h <;> rw [h]
  · exact h1 false
  · exact h1 true
  · exact h2
  · exact hs

theorem noneRuns_changeMode {m : Mode} {t : Option Mode} {c : Cause} {s : State} (hs : NoneRuns s) :
    NoneRuns (changeMode m t c s) := by
  have h : NoneRuns { s with mode := s.mode.changed s.clock m t c } := hs
  simp only [changeMode]
  split
  · exact hs
  · split
    · exact noneRuns_stringsOnMode h
    · exact noneRuns_conv (handMode_conv _ _ _) (noneRuns_stringsOnMode h)

theorem noneRuns_completeTransition {s : State} (hs : NoneRuns s) : NoneRuns (completeTransition s) := by
  unfold completeTransition endTransition
  repeat' split
  all_goals first | exact noneRuns_changeMode hs | exact hs

theorem noneRuns_beginPrecharge {s : State} (hs : NoneRuns s) : NoneRuns (beginPrecharge s) := by
  unfold beginPrecharge
  repeat' split
  all_goals first | exact hs | skip
  rename_i k rest _ _
  exact noneRuns_setStrState (noneRuns_modStr (noneRuns_setQueue hs) (hs k)) rfl

theorem noneRuns_followLoop {j : StringId} {s : State} (hs : NoneRuns s) : NoneRuns (followLoop j s) := by
  unfold followLoop
  repeat' split
  all_goals first | exact hs | exact noneRuns_modStr hs (hs j)

theorem noneRuns_abortPrecharge {j : StringId} {s : State} (hs : NoneRuns s) : NoneRuns (abortPrecharge j s) := by
  unfold abortPrecharge
  split
  · exact noneRuns_setStrState (noneRuns_modStr (noneRuns_setQueue hs) (hs j)) rfl
  · exact hs

/-- The reactions start no string running. -/
theorem settle_noneRuns {s : State} (hs : NoneRuns s) : NoneRuns (settle s) := by
  refine settle_keeps (P := NoneRuns) (fun t ht => ?_) (fun t ht => noneRuns_conv (outputs_conv t) ht) s hs
  have h1 : NoneRuns (judgeYaw (judgeLoops (followPrecharge (completeTransition t)))) := by
    refine noneRuns_conv (judgeYaw_conv _) (noneRuns_conv (judgeLoops_conv _) (noneRuns_conv (followPrechargeClaim_conv _) ?_))
    exact forEach_keeps (fun _ _ h => noneRuns_followLoop h) _ _ (noneRuns_beginPrecharge (noneRuns_completeTransition ht))
  unfold turn
  generalize judgeYaw (judgeLoops (followPrecharge (completeTransition t))) = r at h1
  simp only [walkAndHand, handGrants]
  split
  · refine noneRuns_conv (handYaw_conv _ _ _) ?_
    unfold handPrecharge
    split
    · exact forEach_keeps (fun _ _ h => noneRuns_abortPrecharge h) _ _ (noneRuns_conv (by simp) h1)
    · exact noneRuns_conv (by simp) h1
  · exact h1

end Sys2Proof.Machine
end

