-- ==== Sys2Proof/Laws/Rest.lean ====
section
/-! SUPPORT. The yaw controller through the reactions of an event: at rest it stays at rest, pressurizing it stays pressurizing, and no reaction submits its claim. -/

namespace Sys2Proof.Machine

/-- The yaw claim is submitted. -/
def yawClaimed (s : State) : Bool := s.aux.claims.yaw.submitted

theorem yawClaimed_eq (s : State) : submitted s .yaw = yawClaimed s := rfl

theorem yawClaimed_aux {s t : State} (h : t.aux = s.aux) : yawClaimed t = yawClaimed s := by simp [yawClaimed, h]

@[simp] theorem yawClaimed_setCeiling (id : ClaimId) (n : Nat) (s : State) :
    yawClaimed (setCeiling id n s) = yawClaimed s := by
  unfold yawClaimed setCeiling
  cases id <;> simp only [Claims.set] <;> split <;> rfl

theorem yawClaimed_submitClaim {id : ClaimId} (h : id ≠ .yaw) (n : Nat) (s : State) :
    yawClaimed (submitClaim id n s) = yawClaimed s := by
  have hc := yawClaimed_setCeiling id n s
  unfold yawClaimed submitClaim at *
  simp only
  split
  · exact hc
  · cases id <;> first | rfl | exact absurd rfl h

theorem yawClaimed_withdrawClaim {id : ClaimId} (h : id ≠ .yaw) (s : State) :
    yawClaimed (withdrawClaim id s) = yawClaimed s := by
  unfold yawClaimed withdrawClaim
  simp only
  split
  · cases id <;> first | rfl | exact absurd rfl h
  · rfl

theorem yawClaimed_withdrawn (s : State) : yawClaimed (withdrawClaim .yaw s) = false := by
  unfold yawClaimed withdrawClaim
  simp only
  split
  · rfl
  · rename_i h
    simpa [claimOf, Claims.get] using h

@[simp] theorem yawClaimed_runWalk (s : State) : yawClaimed (runWalk s) = yawClaimed s := by
  have h := allocate_outside s (walkOrder (placedOrder s)) s.aux.claims (dispatchableInForce s) .yaw
  have hc : ((allocate s (walkOrder (placedOrder s)) s.aux.claims (dispatchableInForce s)).1).yaw.submitted =
      s.aux.claims.yaw.submitted := by
    have := congrArg Claim.submitted h
    exact this
  have hj (c : Claims) (t : State) : (judgeRevoked c t).aux = t.aux := by
    simp only [judgeRevoked]; repeat' split
    all_goals rfl
  simp only [runWalk, yawClaimed, hj]
  exact hc

/-! ## What the reactions of the other blocks leave alone -/

theorem pump_ne_yaw (l : Liquid) : pumpClaim l ≠ .yaw := by cases l <;> decide
theorem fan_ne_yaw (l : Liquid) : fanClaim l ≠ .yaw := by cases l <;> decide

/-- Operations that leave the yaw record and the yaw claim alone. -/
def SameYaw (s t : State) : Prop := t.yaw = s.yaw ∧ yawClaimed t = yawClaimed s

theorem SameYaw.refl (s : State) : SameYaw s s := ⟨rfl, rfl⟩
theorem SameYaw.trans {s t u : State} (h : SameYaw s t) (k : SameYaw t u) : SameYaw s u :=
  ⟨k.1.trans h.1, k.2.trans h.2⟩

theorem sameYaw_of {s t : State} (h : t.yaw = s.yaw) (k : t.aux = s.aux) : SameYaw s t := ⟨h, yawClaimed_aux k⟩

theorem sameYaw_forEach {α : Type} {f : α → State → State} (h : ∀ a s, SameYaw s (f a s)) (l : List α) (s : State) :
    SameYaw s (forEach l f s) := by
  induction l generalizing s with
  | nil => exact .refl s
  | cons a l ih => exact (h a s).trans (ih _)

theorem sameYaw_withdraw {id : ClaimId} (h : id ≠ .yaw) (s : State) : SameYaw s (withdrawClaim id s) :=
  ⟨rfl, yawClaimed_withdrawClaim h s⟩
theorem sameYaw_submit {id : ClaimId} (h : id ≠ .yaw) (n : Nat) (s : State) : SameYaw s (submitClaim id n s) :=
  ⟨rfl, yawClaimed_submitClaim h n s⟩

theorem sameYaw_followFanClaim (l : Liquid) (s : State) : SameYaw s (followFanClaim l s) := by
  simp only [followFanClaim]
  repeat' split
  · exact sameYaw_withdraw (fan_ne_yaw l) s
  · exact ⟨rfl, yawClaimed_setCeiling _ _ s⟩
  · exact sameYaw_submit (fan_ne_yaw l) _ s
  · exact .refl s

theorem sameYaw_modLoop (l : Liquid) (f : LiquidLoop → LiquidLoop) (s : State) : SameYaw s (modLoop l f s) := ⟨rfl, rfl⟩

theorem sameYaw_loopOff (l : Liquid) (s : State) : SameYaw s (loopOff l s) := by
  simp only [loopOff]
  exact (((sameYaw_modLoop l _ s).trans (sameYaw_withdraw (pump_ne_yaw l) _)).trans
    (sameYaw_withdraw (fan_ne_yaw l) _)).trans ⟨rfl, rfl⟩

theorem sameYaw_pumpGrantLost (l : Liquid) (s : State) : SameYaw s (pumpGrantLost l s) := by
  unfold pumpGrantLost
  split
  · exact ((sameYaw_modLoop l _ s).trans (sameYaw_withdraw (fan_ne_yaw l) _)).trans ⟨rfl, rfl⟩
  · exact .refl s

theorem sameYaw_proofSuccess (l : Liquid) (s : State) : SameYaw s (proofSuccess l s) := by
  simp only [proofSuccess]
  split
  · exact sameYaw_modLoop l _ s
  · exact ((sameYaw_modLoop l _ s).trans (sameYaw_modLoop l _ _)).trans (sameYaw_followFanClaim l _)

theorem sameYaw_startLoop (l : Liquid) (s : State) : SameYaw s (startLoop l s) := by
  unfold startLoop
  split
  · simp only [beginTrial]
    split
    · exact (sameYaw_modLoop l _ s).trans (sameYaw_proofSuccess l _)
    · exact sameYaw_modLoop l _ s
  · exact .refl s

theorem sameYaw_judgeLoop (l : Liquid) (s : State) : SameYaw s (judgeLoop l s) := by
  simp only [judgeLoop]
  repeat' split
  all_goals first
    | exact .refl s
    | exact (sameYaw_modLoop l _ s).trans (sameYaw_submit (pump_ne_yaw l) _ _)
    | exact (sameYaw_modLoop l _ s).trans (sameYaw_loopOff l _)

theorem sameYaw_judgeLoops (s : State) : SameYaw s (judgeLoops s) :=
  (sameYaw_judgeLoop .l1 s).trans (sameYaw_judgeLoop .l2 _)

theorem sameYaw_modStr (k : StringId) (f : StringRec → StringRec) (s : State) : SameYaw s (modStr k f s) := ⟨rfl, rfl⟩
theorem sameYaw_setQueue (q : List StringId) (s : State) : SameYaw s (setQueue q s) := ⟨rfl, rfl⟩
theorem sameYaw_setStrState (k : StringId) (st : StrState) (s : State) : SameYaw s (setStrState k st s) := ⟨rfl, rfl⟩
theorem sameYaw_emptyQueue (s : State) : SameYaw s (emptyQueue s) := by
  unfold emptyQueue; split <;> exact ⟨rfl, rfl⟩
theorem sameYaw_testJoins (l : List StringId) (s : State) : SameYaw s (testJoins l s) :=
  sameYaw_forEach (fun k t => by unfold testJoin; split <;> exact ⟨rfl, rfl⟩) l s
theorem sameYaw_stopStrings (b : Bool) (s : State) : SameYaw s (stopStrings b s) :=
  (sameYaw_forEach (fun k t => by
    unfold stopOne
    split
    · exact ⟨rfl, rfl⟩
    · split <;> exact ⟨rfl, rfl⟩) _ s).trans (sameYaw_emptyQueue _)

theorem sameYaw_followPrecharge (s : State) : SameYaw s (followPrecharge s) := by
  have h1 : SameYaw s (beginPrecharge s) := by
    unfold beginPrecharge
    repeat' split
    all_goals exact ⟨rfl, rfl⟩
  have h2 : SameYaw s (forEach StringId.all followLoop (beginPrecharge s)) :=
    h1.trans (sameYaw_forEach (fun k t => by
      unfold followLoop
      repeat' split
      all_goals exact ⟨rfl, rfl⟩) _ _)
  unfold followPrecharge followPrechargeClaim
  split
  · split
    · exact h2
    · exact h2.trans (sameYaw_submit (by decide) _ _)
  · exact h2.trans (sameYaw_withdraw (by decide) _)

theorem sameYaw_stringsOnMode (b : Bool) (m : Mode) (t : Option Mode) (s : State) :
    SameYaw s (stringsOnMode b m t s) := by
  rcases stringsOnMode_cases b m t s with h | h | h | h <;> rw [h]
  · exact sameYaw_stopStrings _ s
  · exact sameYaw_stopStrings _ s
  · exact sameYaw_testJoins _ s
  · exact .refl s

theorem sameYaw_coolOnMode (m : Mode) (s : State) : SameYaw s (coolOnMode m s) := by
  simp only [coolOnMode]
  split
  · split <;> exact ⟨rfl, rfl⟩
  · refine SameYaw.trans ?_ (sameYaw_withdraw (by decide) _)
    split <;> exact ⟨rfl, rfl⟩

theorem sameYaw_handPump (a b : Claims) (l : Liquid) (s : State) : SameYaw s (handPump a b l s) := by
  unfold handPump
  split
  · exact sameYaw_startLoop l s
  · split
    · exact sameYaw_pumpGrantLost l s
    · exact .refl s

theorem sameYaw_handPrecharge (a b : Claims) (s : State) : SameYaw s (handPrecharge a b s) := by
  unfold handPrecharge
  split
  · exact sameYaw_forEach (fun k t => by unfold abortPrecharge; split <;> exact ⟨rfl, rfl⟩) _ s
  · exact .refl s

theorem sameYaw_driveFans (s : State) : SameYaw s (driveFans s) := ⟨rfl, rfl⟩

/-! ## At rest -/

/-- Hold with the yaw claim withdrawn. -/
def AtRest (s : State) : Prop := s.yaw.motion = .hold ∧ yawClaimed s = false

theorem atRest_same {s t : State} (h : SameYaw s t) (hs : AtRest s) : AtRest t := by
  simpa [AtRest, h.1, h.2] using hs

theorem atRest_modYaw {f : Yaw → Yaw} {s : State} (h : (f s.yaw).motion = s.yaw.motion) (hs : AtRest s) :
    AtRest (modYaw f s) := ⟨h.trans hs.1, hs.2⟩

theorem atRest_modeStop {s : State} (hs : AtRest s) : modeStop s = s := by
  have h : submitted s .yaw = false := hs.2
  simp [modeStop, runningStop, waiting, hs.1, h]

theorem atRest_normalStop {s : State} (hs : AtRest s) : normalStop s = s := by
  have h : submitted s .yaw = false := hs.2
  simp [normalStop, runningStop, waiting, hs.1, h]

theorem atRest_forcedStop {s : State} (hs : AtRest s) : forcedStop s = s := by
  have h : submitted s .yaw = false := hs.2
  simp [forcedStop, hs.1, h]

theorem atRest_stopKind {s : State} (k : MoveKind) (hs : AtRest s) : stopKind k s = s := by
  simp [stopKind, atRest_normalStop hs]

theorem atRest_yawGrantChange {a b : Nat} {s : State} (hs : AtRest s) : yawGrantChange a b s = s := by
  have h : submitted s .yaw = false := hs.2
  simp [yawGrantChange, takeYawGrant, yawGrantLost, hs.1, h]

theorem atRest_handYaw {a b : Claims} {s : State} (hs : AtRest s) : handYaw a b s = s := by
  simp [handYaw, atRest_yawGrantChange hs]

theorem atRest_judgeYaw {s : State} (hs : AtRest s) : AtRest (judgeYaw s) := by
  simp only [judgeYaw]
  split
  · exact hs
  · have h : AtRest (setYawMode (yawModeNow s) s) := hs
    unfold yawModeEffect
    repeat' split
    all_goals first
      | (rw [atRest_forcedStop h]; exact h)
      | (rw [atRest_modeStop h]; exact h)
      | exact h

theorem atRest_yawOnMode {m : Mode} {s : State} (hs : AtRest s) : AtRest (yawOnMode m s) := by
  have hc : ∀ c u, AtRest (clearFault c u s) := fun c u => atRest_same (sameYaw_of rfl rfl) hs
  unfold yawOnMode
  split
  · exact hs
  · rw [atRest_forcedStop (hc _ _)]; exact hc _ _
  · rw [atRest_stopKind _ hs]
    simp only
    split
    · exact atRest_same (sameYaw_of rfl rfl) hs
    · exact hs
  all_goals exact hc _ _

theorem atRest_changeMode {m : Mode} {t : Option Mode} {c : Cause} {s : State} (hs : AtRest s) :
    AtRest (changeMode m t c s) := by
  have h : AtRest { s with mode := s.mode.changed s.clock m t c } := hs
  simp only [changeMode]
  split
  · exact hs
  · split
    · exact atRest_same (sameYaw_stringsOnMode _ _ _ _) h
    · have h' := atRest_yawOnMode (m := m) (atRest_same (sameYaw_coolOnMode m _)
        (atRest_same (sameYaw_stringsOnMode (decide (m ≠ s.mode.current)) m t _) h))
      simp only [handMode]
      split
      · exact atRest_same (sameYaw_of rfl rfl) h'
      · exact h'

theorem atRest_completeTransition {s : State} (hs : AtRest s) : AtRest (completeTransition s) := by
  unfold completeTransition endTransition
  repeat' split
  all_goals first | exact atRest_changeMode hs | exact hs

/-- At rest, the yaw controller stays at rest through the reactions. -/
theorem settle_atRest {s : State} (hs : AtRest s) : AtRest (settle s) := by
  refine settle_keeps (P := AtRest) (fun t ht => ?_) (fun t ht => ?_) s hs
  · have h1 : AtRest (judgeYaw (judgeLoops (followPrecharge (completeTransition t)))) :=
      atRest_judgeYaw (atRest_same (sameYaw_judgeLoops _)
        (atRest_same (sameYaw_followPrecharge _) (atRest_completeTransition ht)))
    unfold turn
    generalize judgeYaw (judgeLoops (followPrecharge (completeTransition t))) = r at h1
    simp only [walkAndHand, handGrants]
    split
    · have hw : AtRest (runWalk r) := atRest_same ⟨runWalk_yaw r, yawClaimed_runWalk r⟩ h1
      have hp := atRest_same (sameYaw_handPrecharge r.aux.claims (runWalk r).aux.claims _)
        (atRest_same (sameYaw_handPump r.aux.claims (runWalk r).aux.claims .l2 _)
          (atRest_same (sameYaw_handPump r.aux.claims (runWalk r).aux.claims .l1 _) hw))
      rw [atRest_handYaw hp]
      exact hp
    · exact h1
  · exact ht

/-! ## Pressurizing -/

/-- Both states are Pressurizing, on the settle timer `t`. -/
def Pressing (t : Option Countdown) (s : State) : Prop :=
  s.yaw.motion = .pressurizing ∧ s.yaw.brake = .pressurizing ∧ s.yaw.settle = t

theorem pressing_yaw {t : Option Countdown} {s u : State} (h : u.yaw = s.yaw) (hs : Pressing t s) : Pressing t u := by
  simpa [Pressing, h] using hs

theorem pressing_modeStop {t : Option Countdown} {s : State} (hs : Pressing t s) : modeStop s = s := by
  simp [modeStop, runningStop, waiting, hs.1]

theorem pressing_normalStop {t : Option Countdown} {s : State} (hs : Pressing t s) : normalStop s = s := by
  simp [normalStop, runningStop, waiting, hs.1]

theorem pressing_forcedStop {t : Option Countdown} {s : State} (hs : Pressing t s) : Pressing t (forcedStop s) := by
  simp only [forcedStop, hs.1]; exact hs

theorem pressing_handYaw {t : Option Countdown} {a b : Claims} {s : State} (hs : Pressing t s) : handYaw a b s = s := by
  simp [handYaw, yawGrantChange, takeYawGrant, yawGrantLost, hs.1]

theorem pressing_judgeYaw {t : Option Countdown} {s : State} (hs : Pressing t s) : Pressing t (judgeYaw s) := by
  simp only [judgeYaw]
  split
  · exact hs
  · have h : Pressing t (setYawMode (yawModeNow s) s) := hs
    unfold yawModeEffect
    repeat' split
    all_goals first
      | exact pressing_forcedStop h
      | (rw [pressing_modeStop h]; exact h)
      | exact h

theorem pressing_yawOnMode {t : Option Countdown} {m : Mode} {s : State} (hs : Pressing t s) :
    Pressing t (yawOnMode m s) := by
  unfold yawOnMode
  split
  · exact hs
  · exact pressing_forcedStop hs
  · simp only [stopKind, pressing_normalStop hs, ite_self]
    split <;> exact hs
  all_goals exact hs

theorem pressing_changeMode {t : Option Countdown} {m : Mode} {g : Option Mode} {c : Cause} {s : State}
    (hs : Pressing t s) : Pressing t (changeMode m g c s) := by
  have h : Pressing t { s with mode := s.mode.changed s.clock m g c } := hs
  simp only [changeMode]
  split
  · exact hs
  · split
    · exact pressing_yaw (sameYaw_stringsOnMode _ _ _ _).1 h
    · have h' := pressing_yawOnMode (m := m) (pressing_yaw (sameYaw_coolOnMode m _).1
        (pressing_yaw (sameYaw_stringsOnMode (decide (m ≠ s.mode.current)) m g _).1 h))
      simp only [handMode]
      split
      · exact h'
      · exact h'

theorem pressing_completeTransition {t : Option Countdown} {s : State} (hs : Pressing t s) :
    Pressing t (completeTransition s) := by
  unfold completeTransition endTransition
  repeat' split
  all_goals first | exact pressing_changeMode hs | exact hs

/-- A stop that pressurizes goes on pressurizing through the reactions. -/
theorem settle_pressing {t : Option Countdown} {s : State} (hs : Pressing t s) : Pressing t (settle s) := by
  refine settle_keeps (P := Pressing t) (fun u hu => ?_) (fun u hu => hu) s hs
  have h1 : Pressing t (judgeYaw (judgeLoops (followPrecharge (completeTransition u)))) :=
    pressing_judgeYaw (pressing_yaw (sameYaw_judgeLoops _).1
      (pressing_yaw (sameYaw_followPrecharge _).1 (pressing_completeTransition hu)))
  unfold turn
  generalize judgeYaw (judgeLoops (followPrecharge (completeTransition u))) = r at h1
  simp only [walkAndHand, handGrants]
  split
  · have hp := pressing_yaw (sameYaw_handPrecharge r.aux.claims (runWalk r).aux.claims _).1
      (pressing_yaw (sameYaw_handPump r.aux.claims (runWalk r).aux.claims .l2 _).1
        (pressing_yaw (sameYaw_handPump r.aux.claims (runWalk r).aux.claims .l1 _).1
          (pressing_yaw (runWalk_yaw r) h1)))
    rw [pressing_handYaw hp]
    exact hp
  · exact h1

end Sys2Proof.Machine
end

