-- ==== Sys2Proof/WellFormed.lean ====
section
/-! DEFINITION. Which commands are well-formed: a request command carries a frame that the line can bring (LEN at most 240, R168), UNKNOWN_KIND a KIND outside the kind table (R172). Every other operand is well-formed by its type. -/

namespace Sys2Proof

/-- A body whose LEN the line allows (R168). -/
def bodyFits (body : List Byte) : Bool := body.length ≤ 240

/-- The body that follows a YawCommand's command byte, itself the first byte of the body. -/
def restFits (rest : List Byte) : Bool := rest.length ≤ 239

/-- A well-formed command. -/
def WellFormed : Instr → Bool
  | .coldStart _ | .warmRestart _ => true
  | .ping _ body | .identify _ body | .getStatus _ body | .setTime _ body | .restart _ body
  | .enableSupervision _ body | .setMode _ body | .claimControl _ body
  | .setPower _ body | .setStringEnable _ body | .getConverter _ body | .setRideThrough _ body
  | .armGridMonitor _ body | .getGrid _ body | .setCooling _ body | .getCooling _ body
  | .setAuxReserves _ body | .getBudget _ body | .setHoist _ body | .setYawPolicy _ body => bodyFits body
  | .yawCommandJogCw _ rest | .yawCommandJogCcw _ rest | .yawCommandGoto _ rest | .yawCommandStop _ rest
  | .yawCommandAuto _ rest | .yawCommandUntwist _ rest => restFits rest
  | .setDriveSlots _ body | .setNoDwellWindow _ body | .getYaw _ body | .setTwistReference _ body
  | .getFaults _ body | .ackFault _ body | .setFaultClass _ body | .getSnapshot _ body | .clearSnapshot _ body
  | .clearCounts _ body | .getSetting _ body | .setSetting _ body | .storeSettings _ body | .lockSettings _ body
  | .setBatteryEnergy _ body => bodyFits body
  | .unknownKind kind _ body => (Machine.Kind.ofByte kind).isNone && bodyFits body
  | .byteArrival _ _ | .frameGapTimeout | .frameSent | .takeModeNotice | .takeFaultNotice
  | .linkBreak | .linkBreakEnd | .supervisionTimerExpiry => true
  | .stringReport _ _ _ _ | .prechargeTimeout | .shareInterval => true
  | .gridSample _ | .dipListAging | .rideThroughExceeded | .qHoldEnd | .recoveryTimeout
  | .overvoltageTimeout | .returnDwellComplete => true
  | .thermalInterval _ _ | .inletSubstitute _ => true
  | .flowSwitchChange _ _ | .flowProofTimeout _ | .flowDropTimeout _ | .coolingEvaluation _ _ _ _
  | .airSensorSubstitute | .runOnExpiry _ | .fanFeedbackChange _ _ | .fanMismatchExpiry _ => true
  | .bridgeTimerExpiry | .normalCountExpiry | .batteryAccounting => true
  | .yawSample _ _ _ | .brakeVentExpiry | .brakePressurizeExpiry | .brakeProofChange _ _
  | .brakeProofAbsenceExpiry _ | .rampingExpiry | .manualTimerExpiry | .restTimerExpiry
  | .driveFeedbackChange _ _ | .driveMismatchExpiry _ | .jogButtonPress _ | .jogButtonRelease _
  | .encoderUpdate _ | .untwistWaitExpiry => true
  | .calmTimerExpiry | .idleLimitExpiry | .estopChainOpen | .estopChainClose | .keySwitch _
  | .resetButton | .storeCompletion | .powerFailure => true

end Sys2Proof
end

