-- ==== Sys2Proof/Tests/Slice0.lean ====
section
/-! SUPPORT. Tests: the smoke test of WellFormed, the worked cases of the spec, and for every obligation with hypotheses a state and operands that meet them (the `test_meets_…` theorems). -/

namespace Sys2Proof.Tests
set_option Elab.async false
open Sys2Proof.Machine

/-! ## Helpers -/

/-- The machine right after reset. -/
abbrev rs : State := State.reset

/-- The state a command leaves. -/
def after (c : Instr) (s : State) : State :=
  match exec c s with
  | .next t => t
  | .fault _ | .refused _ => s

/-- The state right after reset with its yaw record changed. -/
def setYaw (f : Yaw → Yaw) : State := { rs with yaw := f rs.yaw }

/-- The state right after reset with its mode record changed. -/
def setMode (f : ModeCtl → ModeCtl) : State := { rs with mode := f rs.mode }

/-- The state right after reset with its grid record changed. -/
def setGrid (f : Grid → Grid) : State := { rs with grid := f rs.grid }

/-- The state right after reset with its budget changed. -/
def setAux (f : Budget → Budget) : State := { rs with aux := f rs.aux }

/-- The state right after reset with its port changed. -/
def setLink (f : Link → Link) : State := { rs with link := f rs.link }

/-- The state right after reset with one string record changed. -/
def setString (k : StringId) (f : StringRec → StringRec) : State := modStr k f rs

/-- The state right after reset with the first loop changed. -/
def setLoop (f : LiquidLoop → LiquidLoop) : State := modLoop .l1 f rs

/-- The state right after reset with row `i` in a state. -/
def setRow (i : Nat) (st : RowState) (ack : Bool) : State :=
  { rs with faults := { rs.faults with rows := rs.faults.rows.set i { FaultRow.blank with state := st, ack := ack } } }

/-- A timer at its end. -/
def up : Option Countdown := some ⟨0, 0⟩

/-! ## WellFormed -/

theorem test_wellformed_refuses_long_body : WellFormed (.ping 1 (List.replicate 241 0)) = false := by decide +kernel
theorem test_wellformed_takes_longest_body : WellFormed (.ping 1 (List.replicate 240 0)) = true := by decide +kernel
theorem test_wellformed_refuses_long_rest : WellFormed (.yawCommandStop 1 (List.replicate 240 0)) = false := by decide +kernel
theorem test_wellformed_refuses_known_kind : WellFormed (.unknownKind 0x01 1 []) = false := by decide +kernel
theorem test_wellformed_takes_unknown_kind : WellFormed (.unknownKind 0x07 1 []) = true := by decide +kernel
theorem test_no_word_spells_a_command : decodeTableWord 16 0x1234 = none := rfl

/-! ## Worked cases of the spec -/

/-- CRC of R168, over the bytes "123456789": the value the family of this generator and start is known by. -/
theorem test_crc_of_nine_digits :
    crc16 [0x31, 0x32, 0x33, 0x34, 0x35, 0x36, 0x37, 0x38, 0x39] = 0x29B1#16 := by decide +kernel

/-- The loss table of R49. -/
theorem test_losses : [0, 120, 430, 480, 600].map lossOf = [0, 2028, 23263, 28848, 44700] := by decide +kernel

/-- The settled rises of R50. -/
theorem test_targets : [23263, 28848, 44700].map targetOf = [465, 576, 894] := by decide +kernel

/-- The minimum step of R51: a difference of 9 at α = 26 closes by one. -/
theorem test_rise_minimum_step :
    riseAfter 456 465 26 = 457 ∧ riseAfter 474 465 26 = 473 ∧ riseAfter 465 465 26 = 465 := by decide +kernel

/-- The limit table of R53. -/
theorem test_limits :
    [1150, 1151, 1179, 1275, 1399, 1400].map (limitAt · 1150 1400) = [480, 479, 439, 300, 122, 0] := by decide +kernel

/-- The curve table of R35. -/
theorem test_curve :
    [100, 150, 600, 700, 720, 820, 910].map (curveValue Settings.defaults.curve) =
      [.ms 150, .ms 150, .ms 1560, .ms 1920, .ms 1992, .ms 2520, .unlimited] := by decide +kernel

/-- Blending across the wrap, the examples of R102. -/
theorem test_blend :
    blend .a (some 1750) (some (-1780)) = some (1785, .blend) ∧
    blend .a (some 1790) (some (-1770)) = some (-1790, .blend) ∧
    blend .b (some 100) (some 251) = some (251, .b) := by decide +kernel

/-- The reference example of R126: θ_ref = −2,500 with a = 400. -/
theorem test_twist_reference :
    referenceRecord (-2500) 400 = ⟨-1, 2900, 400, true, true⟩ := by decide +kernel

/-- R181's example: the soft limit at 8,000 conflicts with a hard limit of 8,500 and not with 9,000. -/
theorem test_linked_limits :
    (Settings.write { Settings.defaults with hardLimit := 8500 } .softLimit 8000).conflicts = true ∧
    (Settings.write { Settings.defaults with hardLimit := 9000 } .softLimit 8000).conflicts = false := by decide +kernel

/-- A string record of the sharing cases. -/
def sharing (st : StrState) (limit : Nat) : StringRec := { StringRec.atStart with state := st, iLim := limit }

/-- A thermal record with an estimate. -/
def estimate (tj : Int) : ThermRec := { ThermRec.atStart with tj := tj }

/-- The state of CONV:EXAMPLE:NORMAL. -/
def sharingNormal : State :=
  { rs with
    conv := { rs.conv with
      strings := ⟨sharing .running 480, sharing .running 480, sharing .running 480, sharing .derated 439,
        sharing .running 480, sharing .isolated 480⟩
      request := ⟨12000, -5000, 100, 7000⟩, granted := ⟨11950, -5000, 12954, .p⟩ }
    therm := { rs.therm with recs := ⟨estimate 784, estimate 810, estimate 769, estimate 1179, estimate 802, estimate 0⟩ } }

/-- The worked case of sharing in Normal (R19 to R23). -/
theorem test_sharing_normal :
    grantedNow sharingNormal = ⟨12000, -5000, 13000, .p⟩ ∧
    sharesFor sharingNormal 13000 = ⟨2645, 2645, 2646, 2419, 2645, 0⟩ ∧
    scale 2645 12000 13000 = 2441 ∧ scale 2645 (-5000) 13000 = -1017 ∧ scale 2419 (-5000) 13000 = -930 := by
  decide +kernel

/-- The state of CONV:EXAMPLE:DIP before interval 2. -/
def sharingDip : State :=
  { sharingNormal with
    conv := { sharingNormal.conv with granted := ⟨7837, 2000, 8088, .q⟩ }
    grid := { rs.grid with state := .dip, volts := 1980, u := 600 } }

/-- The worked case of the second interval of a dip (R20 to R22). -/
theorem test_sharing_dip :
    grantedNow sharingDip = ⟨4053, 7000, 8088, .q⟩ ∧
    sharesFor sharingDip 8088 = ⟨1646, 1646, 1646, 1504, 1646, 0⟩ := by decide +kernel

/-- The claims after cold start leave the dispatchable of 400 less 30 as spare, and the charger off at full (R81, R94). -/
theorem test_cold_start_budget :
    (after (.coldStart 3300) rs).aux.spare = 370 ∧ (after (.coldStart 3300) rs).mode.current = .parked := by decide +kernel

/-- Cold start under 900 thousandths begins Lost, Isolated and on Battery (R45, R99, R150). -/
theorem test_cold_start_lost :
    (after (.coldStart 2969) rs).grid.state = .lost ∧ (after (.coldStart 2969) rs).mode.current = .isolated ∧
    (after (.coldStart 2969) rs).aux.source = .battery ∧ (after (.coldStart 2970) rs).grid.state = .normal := by
  decide +kernel

/-- SetMode Idle from Parked puts every string in the precharge queue, and the head waits for its loop (R7, R8). -/
theorem test_set_mode_idle :
    (after (.setMode 1 [2]) rs).mode.current = .idle ∧
    (strOf (after (.setMode 1 [2]) rs) .s1).state = .precharging ∧
    (after (.setMode 1 [2]) rs).conv.queue = [.s2, .s3, .s4, .s5, .s6] ∧
    (after (.setMode 1 [2]) rs).cool.l1.state = .starting := by decide +kernel

/-- The opening chain faults every string and enters the row of code 28 (R142). -/
theorem test_estop :
    (strOf (after .estopChainOpen rs) .s6).state = .faulted ∧ (rowAt (after .estopChainOpen rs) 73).state = .active := by
  decide +kernel

/-- A snapshot of a Trip raise takes the first empty slot (R160). -/
theorem test_snapshot_slot : (rowAt (after .estopChainOpen rs) 73).slot = some 1 ∧
    (rowAt (after .estopChainOpen rs) 73).firstMark = true := by decide +kernel

/-- A drive mismatch of channel 10 raises the tenth row of its code (R114). -/
theorem test_drive_ten_row :
    (rowAt (after (.driveMismatchExpiry 9) (setYaw fun y => { y with
      channels := y.channels.set 9 ⟨false, true, false, some ⟨0, 0⟩⟩ })) 66).state = .active := by decide +kernel

/-! ## What meets the hypotheses of each statement -/

/-- IdleStepIsOneMillisecond. -/
theorem test_meets_idle_step :
    rs.pending = [] ∧
    rs.powered = true ∧
    ({ rs with powered := false } : State).pending = [] ∧
    ({ rs with powered := false } : State).powered = false := by decide +kernel

/-- WarmRestartKeepsSettings. -/
theorem test_meets_warm_restart :
    rs.powered = true := by decide +kernel

/-- PowerFailureCutsOffTheStore, the store in flight. -/
theorem test_meets_power_failure :
    ({ rs with store := { rs.store with storing := some ⟨.defaults, ⟨0, 200⟩⟩ } } : State).store.storing.isSome = true := by decide +kernel

/-- ReadsAnswerAndChangeNothing, each operand at the end of its range. -/
theorem test_meets_reads :
    PortReady rs ∧
    (255 : Byte) ≠ 0 ∧
    (List.replicate 32 (0 : Byte)).length ≤ 32 ∧
    (List.replicate 33 (0 : Byte)).length > 32 ∧
    rs.link.overrunSeen = false ∧
    (78 : Byte).toNat ≤ 78 ∧
    (1 : Byte).toNat ≤ 1 ∧
    (8 : Byte).toNat ≤ 8 := by
  simp only [PortReady]
  decide +kernel

/-- PortRefusesBeforeTheBlocks: kinds under and over 0x80, a length too long, a length that fits. -/
theorem test_meets_port_refuses :
    PortReady rs ∧
    Kind.ofByte 0x7F = none ∧
    Kind.ofByte 0x80 = none ∧
    Kind.identify.fits [0] = false ∧
    Kind.identify.fits [] = true := by
  simp only [PortReady]
  decide +kernel

/-- OtherOwnersAreRefused, both clauses. -/
theorem test_meets_other_owners :
    PortReady (setMode fun m => { m with owner := .localOwner }) ∧
    (setMode fun m => { m with owner := .localOwner }).mode.owner ≠ .remote ∧
    (setMode fun m => { m with owner := .pendingRemote }).mode.owner ≠ .remote ∧
    Kind.restart ∈ [Kind.restart, .setMode] ∧
    Kind.ping ∈ [Kind.ping, .identify] ∧
    Kind.restart.fits [] = true ∧
    (1 : Byte) ≠ 0 := by
  simp only [PortReady]
  decide +kernel

/-- TimeSupervisionAndOwnership: both values, both owners. -/
theorem test_meets_time_and_ownership :
    PortReady rs ∧
    PortReady (setMode fun m => { m with owner := .pendingRemote }) ∧
    (1 : Byte) ≠ 0 ∧
    (0xFFFFFFFE#32) ≠ 0xFFFFFFFF#32 ∧
    rs.mode.owner ≠ .pendingRemote ∧
    (setMode fun m => { m with owner := .pendingRemote }).mode.owner = .pendingRemote := by
  simp only [PortReady]
  decide +kernel

/-- The state right after reset in Idle, with the first string in a state. -/
def oneString (st : StrState) (enabled : Bool) : State :=
  { setString .s1 (fun r => { r with state := st, enabled := enabled }) with mode := { rs.mode with current := .idle } }

/-- ConverterRequestsAct: the strings of both tables, and a string that joins the queue. -/
theorem test_meets_converter_requests :
    HostReady rs ∧
    (1 : Byte) ≠ 0 ∧
    HostReady (oneString .ready true) ∧
    (strOf (oneString .ready true) .s1).state = .ready ∧
    (strOf (oneString .derated true) .s1).state = .derated ∧
    (oneString .isolated false).mode.current = .idle ∧
    (loopOf (oneString .isolated false) StringId.s1.loop).state ≠ .failed := by
  simp only [HostReady, PortReady]
  decide +kernel

/-- A string Offline and turned off, as a warm restart and a release may leave it, joins the queue when it is turned on (R7). -/
theorem test_enabled_offline_string_joins :
    (enableString .s1 (oneString .offline false)).conv.queue = [.s1] ∧
    (enableString .s1 (oneString .isolated false)).conv.queue = [.s1] ∧
    (strOf (disableString .s1 (oneString .ready true)) .s1).state = .isolated ∧
    (strOf (disableString .s1 (oneString .running true)) .s1).state = .stopping := by decide +kernel

/-- SettingsRequestsWriteTheWorkingSettings, the curve: two points and six. -/
theorem test_meets_ride_through :
    HostReady rs ∧
    rs.store.storing = none ∧
    Kind.setRideThrough.fits (2 :: List.replicate 7 0 ++ [1]) = true ∧
    natAt (2 :: [0, 0, 0, 0, 0, 1, 0, 0]) 0 = 2 ∧
    rs.store.lock = false ∧
    rs.grid.state ≠ .dip ∧
    curveRises (pointsOf [2, 0, 0, 0, 0, 0, 1, 0, 0] 2) = true ∧
    natAt (6 :: List.replicate 24 0) 0 ≤ 6 ∧
    curveRises (pointsOf (6 :: [0, 0, 0, 0, 0, 1, 0, 0, 0, 2, 0, 0, 0, 3, 0, 0, 0, 4, 0, 0, 0, 5, 0, 0]) 6) = true := by
  simp only [HostReady, PortReady]
  decide +kernel

/-- SettingsRequestsWriteTheWorkingSettings, the policy at both ends of every range and past them. -/
theorem test_meets_yaw_policy :
    (1#8).toNat ≤ 1 ∧
    max 5 (min (5#8).toNat 200) < max 50 (min (50#16).toNat 900) ∧
    max 5 (min (5#8).toNat 200) < max 30 (min (30#16).toNat 600) ∧
    max 5 (min (4#8).toNat 200) < max 50 (min (901#16).toNat 900) ∧
    max 5 (min (201#8).toNat 200) < max 30 (min (601#16).toNat 600) ∧
    max 5 (min (200#8).toNat 200) < max 50 (min (900#16).toNat 900) := by decide +kernel

/-- SettingsRequestsWriteTheWorkingSettings, the windows: numbers 1 and 4, a disabled one at both ends, one at the clear limit. -/
theorem test_meets_windows :
    1 ≤ (1#8).toNat ∧
    (4#8).toNat ≤ 4 ∧
    (10800#16).toInt.natAbs ≤ 10800 ∧
    (BitVec.ofInt 16 (-10800)).toInt.natAbs ≤ 10800 ∧
    windowConflicts rs 1 ⟨10800, -10800⟩ = false ∧
    windowConflicts rs 4 ⟨8900, 8900⟩ = false ∧
    windowConflicts rs 4 ⟨8900, 8901⟩ = true := by decide +kernel

/-- An accepted window record is in force from the next update of θ, not before (R115, log 39). -/
theorem test_window_acts_from_next_update :
    windowNow (after (.setNoDwellWindow 1 [1, 0, 0, 0, 10]) (setYaw fun y => { y with encoder := none })) = none ∧
    windowNow (windowsAct { rs with store := { rs.store with working := { rs.store.working with
      windows := [⟨0, 10⟩, ⟨1, 0⟩, ⟨1, 0⟩, ⟨1, 0⟩] } } }) = some 1 := by decide +kernel

/-- SettingsRequestsWriteTheWorkingSettings, the classes. -/
theorem test_meets_fault_class :
    FaultClass.record ∈ FaultCode.strDerate.permitted ∧
    FaultClass.record ≠ classOf rs .strDerate ∧
    codeOfRow 12 = .strDerate ∧
    (12 : Nat) < 79 := by decide +kernel

/-- ArmGridMonitorWritesOneMonitor: in Normal and in Lost, at both ends of the filter; in Dip and Recovering; a direction that is
not the monitor's, and M1 disarmed. -/
theorem test_meets_arm_monitor :
    HostReady rs ∧
    HostReady (setGrid fun g => { g with state := .lost }) ∧
    rs.grid.state = .normal ∧
    (setGrid fun g => { g with state := .lost }).grid.state = .lost ∧
    (0#8).toNat ≠ 1 ∧
    (8#8).toNat ≤ 8 ∧
    (MonitorId.m1 = .m1 → true = true) ∧
    (MonitorId.m3 = .m1 → false = true) ∧
    HostReady (setGrid fun g => { g with state := .dip }) ∧
    (setGrid fun g => { g with state := .dip }).grid.state = .dip ∧
    HostReady (setGrid fun g => { g with state := .recovering }) ∧
    (setGrid fun g => { g with state := .recovering }).grid.state = .recovering ∧
    (1#8).toNat ≤ 1 ∧
    (0#8).toNat ≠ (if MonitorId.m3 = .m3 then 1 else 0) ∧
    (1#8).toNat ≠ (if MonitorId.m1 = .m3 then 1 else 0) ∧
    (MonitorId.m1 = .m1 ∧ false = false) := by
  simp only [HostReady, PortReady]
  decide +kernel

/-- FaultTableRequestsAct: rows and slots at the ends of their ranges, a Latched, an Active and a Clear row. -/
theorem test_meets_fault_table_requests :
    HostReady rs ∧
    Sized rs ∧
    (78#8).toNat ≤ 78 ∧
    (255#8).toNat = 255 ∧
    (8#8).toNat ≤ 8 ∧
    reactiveRow 0 = false ∧
    reactiveRow 78 = false ∧
    HostReady (setRow 0 .latched false) ∧
    (rowAt (setRow 0 .latched false) 0).state = .latched ∧
    (rowAt (setRow 78 .active false) 78).state = .active ∧
    (rowAt rs 78).state = .clear := by
  simp only [HostReady, Sized, PortReady]
  decide +kernel

/-- StoreAndLockAct. -/
theorem test_meets_store_and_lock :
    HostReady rs ∧
    rs.store.storing = none ∧
    rs.powered = true ∧
    ({ rs with store := { rs.store with storing := some ⟨.defaults, ⟨0, 0⟩⟩ } } : State).store.storing = some ⟨.defaults, ⟨0, 0⟩⟩ := by
  simp only [HostReady, PortReady]
  decide +kernel

/-- RestartFollowsItsReply, every clause. -/
theorem test_meets_restart :
    PortReady rs ∧
    rs.mode.owner = .remote ∧
    rs.store.storing = none ∧
    PortReady (setMode fun m => { m with owner := .localOwner }) ∧
    (setMode fun m => { m with owner := .localOwner }).mode.owner ≠ .remote ∧
    PortReady { rs with store := { rs.store with storing := some ⟨.defaults, ⟨0, 200⟩⟩ } } ∧
    ({ rs with store := { rs.store with storing := some ⟨.defaults, ⟨0, 200⟩⟩ } } : State).store.storing.isSome = true ∧
    (setLink fun l => { l with restartQueued := true }).link.restartQueued = true ∧
    (setLink fun l => { l with outbound := [⟨⟨0x85, 1, [0, 0]⟩, false, true⟩] }).link.outbound = ⟨⟨0x85, 1, [0, 0]⟩, false, true⟩ :: [] ∧
    (OutFrame.mk ⟨0x85, 1, [0, 0]⟩ false true).restart = true := by
  simp only [PortReady]
  decide +kernel

/-- The state right after reset with a mode and a target. -/
def inMode (m : Mode) (target : Option Mode) : State := setMode fun c => { c with current := m, target := target }

/-- SetModeTakesTheRequestedPair, from every mode it names. -/
theorem test_meets_set_mode :
    HostReady rs ∧
    rs.mode.target = none ∧
    rs.mode.current = .parked ∧
    nacelleFree rs = true ∧
    (strOf rs .s1).state = .offline ∧
    (strOf rs .s1).enabled = true ∧
    (loopOf rs StringId.s1.loop).state ≠ .failed ∧
    HostReady (setMode fun m => { m with current := .storm }) ∧
    HostReady (setMode fun m => { m with current := .generating }) ∧
    mayGenerate { setString .s1 (fun r => { r with state := .ready }) with mode := { rs.mode with current := .idle } } = true ∧
    HostReady { setString .s1 (fun r => { r with state := .ready }) with mode := { rs.mode with current := .idle } } := by
  simp only [HostReady, PortReady]
  decide +kernel

/-- SetModeTakesTheRequestedPair: a target replaced, the mode or target that stands, BUSY, and each refusal. -/
theorem test_meets_set_mode_in_flight :
    HostReady (inMode .idle (some .generating)) ∧
    HostReady (inMode .generating (some .parked)) ∧
    HostReady (inMode .isolated none) ∧
    (inMode .idle (some .generating)).mode.target.isSome = true ∧
    (inMode .idle (some .generating)).mode.target ≠ some .parked ∧
    (inMode .generating (some .parked)).mode.target ≠ some .storm ∧
    (inMode .generating (some .parked)).mode.target = some .parked ∧
    (inMode .generating none).mode.current ≠ .lockout ∧
    (inMode .generating none).mode.current ≠ .isolated ∧
    (Mode.generating = .idle ∨ Mode.generating = .generating → (inMode .generating none).mode.target = none) ∧
    (inMode .lockout none).mode.current = .lockout ∧
    nacelleFree (setRow 73 .latched false) = false ∧
    (setRow 73 .latched false).mode.current = .parked ∧
    mayGenerate (inMode .idle none) = false ∧
    (inMode .generating none).mode.target = none ∧
    (inMode .storm none).mode.current = .storm ∧
    5 < (6#8).toNat := by
  simp only [HostReady, PortReady]
  decide +kernel

/-- SetCoolingWritesTheLoopSettings. -/
theorem test_meets_set_cooling :
    HostReady rs ∧
    rs.store.storing = none ∧
    (1#8).toNat ≤ 1 := by
  simp only [HostReady, PortReady]
  decide +kernel

/-- BudgetRequestsAct: the reserves at their ends, both sources. -/
theorem test_meets_budget_requests :
    HostReady rs ∧
    rs.store.lock = false ∧
    min (50#8).toNat 50 + min (40#8).toNat 50 ≤ 90 ∧
    min (40#8).toNat 50 + min (255#8).toNat 50 ≤ 90 ∧
    rs.aux.claims.hoist.submitted = false ∧
    rs.aux.source = .grid ∧
    min (648000#32).toNat 648000 ≤ (setAux fun b => { b with source := .battery }).retained.energy ∧
    HostReady (setAux fun b => { b with source := .battery }) := by
  simp only [HostReady, PortReady]
  decide +kernel

/-- DriveSlotsAndTwistReference: channel 10 in a slot, a reference at the hard limit. -/
theorem test_meets_drive_slots :
    HostReady rs ∧
    ([1, 2, 3, 4, 5, 6, 7, 10] : List Byte).length = 8 ∧
    (∀ i, i < 8 → natAt [1, 2, 3, 4, 5, 6, 7, 10] i ≤ 10) ∧
    distinctChannels ((slotsOf [1, 2, 3, 4, 5, 6, 7, 10]).filterMap id) = true ∧
    rs.yaw.motion = .hold ∧
    (9 : Fin 10) ∈ (slotsOf [1, 2, 3, 4, 5, 6, 7, 10]).filterMap id ∧
    HostReady (setYaw fun y => { y with encoder := some (.angle 3599) }) ∧
    (setYaw fun y => { y with encoder := some (.angle 3599) }).yaw.encoder = some (.angle 3599) ∧
    yawIdle (setYaw fun y => { y with encoder := some (.angle 3599) }) = true ∧
    (9000#16).toInt.natAbs ≤ rs.store.working.hardLimit ∧
    (BitVec.ofInt 16 (-9000)).toInt.natAbs ≤ 10800 := by
  simp only [HostReady, PortReady]
  decide +kernel

/-- SetSettingWritesOneSetting: a value at each end, a primary vane, a value to be clamped. -/
theorem test_meets_set_setting :
    HostReady rs ∧
    rs.store.storing = none ∧
    ¬(SettingId.kq.lockable = true ∧ rs.store.lock = true) ∧
    (rs.store.working.write .kq 40).conflicts = false ∧
    (rs.store.working.write .kq 0).conflicts = false ∧
    (rs.store.working.write .softLimit (max 3600 (min 99999 8000))).conflicts = false ∧
    (SettingId.primaryVane = .primaryVane → (1#32) = 0 ∨ (1#32) = 1) ∧
    (rs.store.working.write .primaryVane 1).conflicts = false ∧
    (BitVec.ofInt 32 (-1)).toInt < SettingId.kq.envelope.1 ∧
    SettingId.kq.envelope.2 < (41#32).toInt ∧
    (rs.store.working.write .kq (max SettingId.kq.envelope.1 (min (41#32).toInt SettingId.kq.envelope.2))).conflicts = false := by
  simp only [HostReady, PortReady]
  decide +kernel

/-- The state right after reset in Generating on its way to Storm, a string stopping. -/
def towardStorm : State :=
  { setString .s1 (fun r => { r with state := .stopping }) with
    mode := { rs.mode with current := .generating, target := some .storm } }

/-- YawCommandsSetTheManualMark: at θ = 0 and at a θ to untwist, with no target and on the way to Storm. -/
theorem test_meets_yaw_commands :
    HostReady rs ∧
    ([0, 0] : List Byte).length = 2 ∧
    yawIdle rs = true ∧
    rs.yaw.mode ≠ .disabled ∧
    rs.yaw.mode ≠ .storm ∧
    rs.lines.chainClosed = true ∧
    theta rs = some 0 ∧
    barred rs .cw = false ∧
    barred rs .ccw = false ∧
    (intAt [0x23, 0x28] 0).natAbs ≤ 10800 ∧
    intAt [0x23, 0x28] 0 = 9000 ∧
    targetInWindow rs 9000 = false ∧
    (rs.mode.target = some .storm → (strOf rs .s1).state = .stopping) ∧
    HostReady towardStorm ∧
    yawIdle towardStorm = true ∧
    towardStorm.yaw.mode ≠ .disabled ∧
    towardStorm.yaw.mode ≠ .storm ∧
    towardStorm.mode.target = some .storm ∧
    (strOf towardStorm .s1).state = .stopping ∧
    theta towardStorm = some 0 ∧
    (9000 : Int).natAbs ≤ rs.store.working.hardLimit ∧
    (goToDir 0 9000).any (barred rs) = false ∧
    rs.yaw.untwist.inFlight = false ∧
    theta { rs with retained := { rs.retained with twist := ⟨0, 0, 51, true, true⟩ } } = some 51 := by
  simp only [HostReady, PortReady]
  decide +kernel

/-- BytesMakeRequests: a frame of no body, a held byte. -/
theorem test_meets_bytes :
    rs.powered = true ∧
    ([] : List Byte).length ≤ 240 ∧
    (List.replicate 240 (0 : Byte)).length ≤ 240 ∧
    (setLink fun l => { l with held := (wireBytes ⟨1, 1, []⟩).dropLast.zipIdx.map (fun x => ⟨x.1, 7 + 10 * x.2⟩) }).link.held = (wireBytes ⟨1, 1, []⟩).dropLast.zipIdx.map (fun x => ⟨x.1, 7 + 10 * x.2⟩) ∧
    rs.link.held = [] ∧
    (setLink fun l => { l with held := [⟨0xA5, 0⟩] }).link.held = [⟨0xA5, 0⟩] := by decide +kernel

/-- PortEventsAct, every clause. -/
theorem test_meets_port_events :
    rs.powered = true ∧
    (setLink fun l => { l with outbound := [⟨⟨0x81, 1, [0, 0]⟩, false, false⟩] }).link.outbound = ⟨⟨0x81, 1, [0, 0]⟩, false, false⟩ :: [] ∧
    (OutFrame.mk ⟨0x81, 1, [0, 0]⟩ false false).restart = false ∧
    rs.link.inbound = [] ∧
    mayTakeNotice rs = true ∧
    mayTakeNotice (setLink fun l => { l with outbound := List.replicate 14 ⟨⟨0x81, 1, [0, 0]⟩, false, false⟩ }) = true ∧
    rs.mode.noticeDue = true ∧
    pendingHead (raise .settingsDefault 1 (setMode fun m => { m with noticeDue := false })) = some 78 ∧
    mayTakeNotice (raise .settingsDefault 1 (setMode fun m => { m with noticeDue := false })) = true ∧
    (raise .settingsDefault 1 (setMode fun m => { m with noticeDue := false })).mode.noticeDue = false ∧
    rs.link.restartQueued = false := by decide +kernel

/-- StringEventsTripStrings: each trip at its edge, a string charging alone. -/
theorem test_meets_string_events :
    rs.powered = true ∧
    Sized rs ∧
    (strOf rs .s1).state ≠ .isolated ∧
    (strOf rs .s1).state ≠ .faulted ∧
    min 6211 8000 > 6210 ∧
    (601 : Nat) > 600 ∧
    (strOf (setString .s1 fun r => { r with overrange := 2 }) .s1).overrange ≥ 2 ∧
    (strOf (setString .s6 fun r => { r with state := .precharging, phase := some .charging, precharge := up }) .s6).state = .precharging ∧
    (strOf (setString .s6 fun r => { r with state := .precharging, phase := some .charging, precharge := up }) .s6).phase = some .charging ∧
    (strOf (setString .s6 fun r => { r with state := .precharging, phase := some .charging, precharge := up }) .s6).precharge.isSome = true ∧
    (StringId.all.all fun j => j = .s6 || (strOf (setString .s6 fun r => { r with state := .precharging, phase := some .charging, precharge := up }) j).state ≠ .precharging) = true ∧
    Sized (setString .s6 fun r => { r with state := .precharging, phase := some .charging, precharge := up }) := by
  simp only [Sized]
  decide +kernel

/-- A string charging, its loop flowing or not, with the grant and an empty or waiting queue. -/
def charging (flowing : Bool) (queue : List StringId) : State :=
  { setString .s1 (fun r => { r with state := .precharging, phase := some .charging, precharge := up, overrange := 1 }) with
    cool := { rs.cool with l1 := { rs.cool.l1 with state := if flowing then .running else .off } }
    conv := { (setString .s1 (fun r => { r with
      state := .precharging, phase := some .charging, precharge := up, overrange := 1 })).conv with queue := queue } }

/-- A string at the head of the queue with the precharge granted, its loop flowing or not. -/
def headGranted (flowing : Bool) : State :=
  { rs with
    conv := { rs.conv with queue := [.s1, .s2] }
    cool := { rs.cool with l1 := { rs.cool.l1 with state := if flowing then .running else .off } }
    aux := { rs.aux with claims := { rs.aux.claims with precharge := { rs.aux.claims.precharge with
      submitted := true, grant := 25 } } } }

/-- StringEventsTripStrings: a report at either end of success, a head with its grant, a loop that stops, an abort. -/
theorem test_meets_precharge :
    (charging true []).powered = true ∧
    Sized (charging true []) ∧
    (strOf (charging true []) .s1).state = .precharging ∧
    (strOf (charging true []) .s1).phase = some .charging ∧
    (strOf (charging true []) .s1).precharge.isSome = true ∧
    (600 ≤ 600 ∨ (strOf (charging true []) .s1).overrange < 2) ∧
    (¬601 ≤ 600 ∧ (strOf (charging true []) .s1).overrange < 2) ∧
    4860 ≤ 6210 ∧
    (loopOf (charging false []) StringId.s1.loop).state.flowing = false ∧
    (headGranted true).powered = true ∧
    Sized (headGranted true) ∧
    (headGranted true).conv.queue = .s1 :: [.s2] ∧
    (StringId.all.all fun j => (strOf (headGranted true) j).state ≠ .precharging) = true ∧
    grantOf (headGranted true) .precharge = 25 ∧
    (loopOf (headGranted true) StringId.s1.loop).state.flowing = true ∧
    (loopOf (headGranted false) StringId.s1.loop).state.flowing = false ∧
    rs.conv.queue = [] ∧
    (StringId.all.all fun j => (strOf rs j).state ≠ .precharging) = true := by
  simp only [Sized]
  decide +kernel

/-- A mode and the first string's record, with no Trip row held. -/
def sharingAs (m : Mode) (f : StringRec → StringRec) : State :=
  { setString .s1 f with mode := { rs.mode with current := m } }

/-- ShareIntervalRewritesTheRecord: outside Generating and in it; released, held, stopping and running strings, none silent. -/
theorem test_meets_share_interval :
    rs.powered = true ∧
    rs.mode.current ≠ .generating ∧
    (setMode fun m => { m with current := .generating }).mode.current = .generating ∧
    (strOf rs .s1).state ≠ .isolated ∧
    (strOf (sharingAs .idle fun r => { r with state := .faulted }) .s1).state = .faulted ∧
    stringGated (sharingAs .idle fun r => { r with state := .faulted }) .s1 = false ∧
    fallsSilent (sharingAs .idle fun r => { r with state := .faulted, silence := 1 }) .s1 = false ∧
    fallsSilent (sharingAs .idle fun r => { r with state := .faulted, silence := 2, reported := true }) .s1 = false ∧
    (strOf (sharingAs .idle fun r => { r with state := .faulted }) .s1).enabled = true ∧
    (loopOf (sharingAs .idle fun r => { r with state := .faulted }) StringId.s1.loop).state ≠ .failed ∧
    FaultCode.strGate ∈ stringTrips ∧
    isHeld (raise .strGate 6 (setString .s6 fun r => { r with state := .faulted })) .strGate StringId.s6.num = true ∧
    (strOf (sharingAs .generating fun r => { r with state := .stopping, blockedStop := some true }) .s1).blockedStop =
      some true ∧
    (strOf (sharingAs .generating fun r => { r with state := .stopping, blockedStop := some false, share := 101 }) .s1).share -
      rs.conv.request.rampP ≠ 0 ∧
    (strOf (sharingAs .generating fun r => { r with state := .stopping, blockedStop := some false, share := 100 }) .s1).share -
      rs.conv.request.rampP = 0 ∧
    fallsSilent (sharingAs .generating fun r => { r with state := .stopping }) .s1 = false ∧
    fallsSilent (sharingAs .generating fun r => { r with state := .ready }) .s1 = false ∧
    (strOf (sharingAs .generating fun r => { r with state := .ready }) .s1).state = .ready ∧
    (strOf (sharingAs .parked fun r => { r with state := .ready }) .s1).state = .ready := by decide +kernel

/-- A string released at step 3 joins the queue behind one of a lower number whose stop completes in the same interval (R7). -/
theorem test_share_interval_joins_ascending :
    (shareInterval { modStr .s2 (fun r => { r with state := .faulted })
        (setString .s1 fun r => { r with state := .stopping, blockedStop := some true }) with
      mode := { rs.mode with current := .idle } }).conv.queue = [.s1, .s2] := by decide +kernel

/-- GrantedPowerIsSharedWithinCapacity, at the whole capacity. -/
theorem test_meets_sharing :
    0 ≤ sharingNormal.conv.request.p ∧
    0 ≤ sharingNormal.conv.granted.p ∧
    13481 ≤ capTotal sharingNormal ∧
    eligible sharingNormal .s6 = false := by decide +kernel

/-- GridSampleJudgesTheMonitors: a disarmed monitor, and armed ones at each side of their levels. -/
theorem test_meets_grid_sample :
    rs.powered = true ∧
    (monitorOf (setGrid fun g => { g with m2 := ⟨false, 150, 2, false, 0⟩ }) .m2).armed = false ∧
    (monitorOf rs .m1).armed = true ∧
    (monitorOf rs .m1).beyond = false ∧
    perUnit 2967 < (monitorOf rs .m1).level ∧
    ¬perUnit 2970 < (monitorOf rs .m1).level ∧
    (monitorOf rs .m1).run + 1 < 2 ∧
    (monitorOf (setGrid fun g => { g with m1 := { g.m1 with run := 1 } }) .m1).run + 1 ≥ 2 ∧
    perUnit 3634 > (monitorOf rs .m3).level ∧
    (monitorOf (setGrid fun g => { g with m3 := { g.m3 with run := 3 } }) .m3).run + 1 ≥ 4 ∧
    (monitorOf (setGrid fun g => { g with m3 := { g.m3 with beyond := true, run := 3 } }) .m3).beyond = true ∧
    perUnit 3564 + 20 ≤ (monitorOf rs .m3).level ∧
    perUnit 3036 ≥ (monitorOf rs .m1).level + 20 := by decide +kernel

/-- M1 one sample short of its crossing, in Normal or Recovering, with the number of dips in the list. -/
def nearDip (st : GridState) (dips : Nat) : State :=
  { setGrid (fun g => { g with state := st, m1 := { g.m1 with run := 1 } }) with
    conv := { rs.conv with dips := List.replicate dips ⟨0, 0⟩ } }

/-- CrossingBeginsADip: a first dip and a third, from Normal and from Recovering, with M3 armed as at a cold start. -/
theorem test_meets_dip :
    (nearDip .normal 0).powered = true ∧
    Sized (nearDip .normal 0) ∧
    10 ≤ (nearDip .normal 0).store.working.returnDwell ∧
    (nearDip .normal 0).grid.state = .normal ∧
    (nearDip .recovering 2).grid.state = .recovering ∧
    Sized (nearDip .recovering 2) ∧
    (nearDip .normal 0).aux.source = .grid ∧
    (nearDip .normal 0).grid.m3.armed = true ∧
    (nearDip .normal 0).grid.m3.beyond = false ∧
    ((nearDip .normal 0).grid.m3.sample false (perUnit (min 2967 5000))).2 ≠ .crossing ∧
    ((nearDip .normal 0).grid.m1.sample true (perUnit (min 2967 5000))).2 = .crossing ∧
    (ageDips (takeVoltage 2967 (nearDip .normal 1))).conv.dips.length < 2 ∧
    (ageDips (takeVoltage 2967 (nearDip .recovering 2))).conv.dips.length ≥ 2 := by
  simp only [Sized]
  decide +kernel

/-- DIP_LIST_AGING drops what has reached 10,000 samples and leaves a younger entry (R33). -/
theorem test_dip_list_aging :
    (after .dipListAging { setGrid (fun g => { g with sampleNo := 10001 }) with
      conv := { rs.conv with dips := [⟨0, 1⟩, ⟨1, 2⟩] } }).conv.dips = [⟨1, 2⟩] := by decide +kernel

/-- ExpiriesEnterLost: a dip with an allowance, and an overvoltage. -/
theorem test_meets_lost :
    (setGrid fun g => { g with state := .dip, dip := some ⟨0, 800, .ms 2400⟩ }).powered = true ∧
    Sized (setGrid fun g => { g with state := .dip, dip := some ⟨0, 800, .ms 2400⟩ }) ∧
    (setGrid fun g => { g with state := .dip, dip := some ⟨0, 800, .ms 2400⟩ }).grid.state ≠ .lost ∧
    (setGrid fun g => { g with state := .dip, dip := some ⟨0, 800, .ms 2400⟩ }).grid.dip = some ⟨0, 800, .ms 2400⟩ ∧
    (Allowance.ms 2400) ≠ .unlimited ∧
    (setGrid fun g => { g with m3 := { g.m3 with beyond := true } }).grid.m3.beyond = true ∧
    rs.grid.state ≠ .lost := by
  simp only [Sized]
  decide +kernel

/-- GridExpiriesAct, every clause. -/
theorem test_meets_grid_expiries :
    rs.powered = true ∧
    (setGrid fun g => { g with state := .recovering, recovery := some ⟨0, true⟩ }).grid.recovery = some ⟨0, true⟩ ∧
    (setGrid fun g => { g with state := .recovering, recovery := some ⟨0, true⟩ }).grid.state = .recovering ∧
    ({ setGrid (fun g => { g with state := .recovering }) with aux := { rs.aux with source := .battery } } : State).aux.source = .battery ∧
    (setGrid fun g => { g with state := .lost, dwellStart := some 0 }).grid.state = .lost ∧
    (setGrid fun g => { g with state := .lost, dwellStart := some 0 }).grid.dwellStart.isSome = true ∧
    (setMode fun m => { m with current := .isolated }).mode.current = .isolated := by decide +kernel

/-- CurveIsReadBetweenItsPoints, the default curve at the edges of its parts. -/
theorem test_meets_curve_hyps :
    2 ≤ Settings.defaults.curve.length ∧
    curveRises Settings.defaults.curve = true ∧
    Settings.defaults.curve.head? = some ⟨150, 150⟩ ∧
    (149 : Nat) < 150 ∧
    Settings.defaults.curve = [] ++ ⟨150, 150⟩ :: ⟨500, 1200⟩ :: [⟨750, 2100⟩, ⟨900, 3000⟩] ∧
    (150 : Nat) ≤ 150 ∧
    (499 : Nat) < 500 ∧
    Settings.defaults.curve.getLast? = some ⟨900, 3000⟩ ∧
    (900 : Nat) ≤ 900 ∧
    (⟨750, 2100⟩ : CurvePoint) ∈ Settings.defaults.curve.dropLast ∧
    curveValue Settings.defaults.curve 150 = .ms 150 ∧
    curveValue Settings.defaults.curve 899 = .ms 2994 := by decide +kernel

/-- ThermalIntervalWritesTheRecords, a string over T_x. -/
theorem test_meets_thermal_interval :
    rs.powered = true ∧
    Sized rs ∧
    ((after (.thermalInterval 400 400) { rs with therm := { rs.therm with recs := rs.therm.recs.set .s1 { ThermRec.atStart with tRise := 1800 } } }).therm.recs.get .s1).tj ≥ rs.store.working.tx ∧
    (strOf { rs with therm := { rs.therm with recs := rs.therm.recs.set .s1 { ThermRec.atStart with tRise := 1800 } } } .s1).state ≠ .isolated ∧
    (strOf { rs with therm := { rs.therm with recs := rs.therm.recs.set .s1 { ThermRec.atStart with tRise := 1800 } } } .s1).state ≠ .faulted := by
  simp only [Sized]
  decide +kernel

/-- RiseAndLimitFollowTheirRules. -/
theorem test_meets_rise_and_limit :
    (2000 : Nat) ≤ 2000 ∧
    1 ≤ (256 : Nat) ∧
    (0 : Nat) < 2000 ∧
    (1150 : Int) < 1400 ∧
    (1150 : Int) < 1151 ∧
    (1399 : Int) < 1400 := by decide +kernel

/-- HeldSensorsAreSubstituted. -/
theorem test_meets_held_sensors :
    rs.powered = true ∧
    Sized rs ∧
    (inletOf rs .l1).source = .held ∧
    (inletOf rs .l1).holdStart.isSome = true ∧
    (inletOf rs .l2).source = .held ∧
    rs.cool.l3.air.source = .held ∧
    rs.cool.l3.air.holdStart.isSome = true := by
  simp only [Sized]
  decide +kernel

/-- FlowAndPumpFailures, every clause. -/
theorem test_meets_pumps :
    rs.powered = true ∧
    Sized (setLoop fun r => { r with state := .starting, role := some .duty, proof := up, drop := up }) ∧
    (loopOf (setLoop fun r => { r with state := .starting, role := some .duty, proof := up, drop := up }) .l1).state = .starting ∧
    (loopOf (setLoop fun r => { r with state := .starting, role := some .duty, proof := up, drop := up }) .l1).proof.isSome = true ∧
    (loopOf (setLoop fun r => { r with state := .starting, role := some .duty, proof := up, drop := up }) .l1).flow = false ∧
    (loopOf (setLoop fun r => { r with state := .starting, role := some .duty, proof := up, drop := up }) .l1).role = some .duty ∧
    (loopOf (setLoop fun r => { r with state := .starting, role := some .standby, proof := up, drop := up }) .l1).role = some .standby ∧
    loopFlowing (setLoop fun r => { r with state := .degraded, role := some .standby, proof := up, drop := up }) .l1 = true ∧
    (loopOf (setLoop fun r => { r with state := .degraded, role := some .standby, proof := up, drop := up }) .l1).drop.isSome = true ∧
    loopFlowing (setLoop fun r => { r with state := .running, role := some .duty, proof := up, drop := up }) .l1 = true ∧
    (loopOf (setLoop fun r => { r with state := .running, role := some .duty, proof := up, drop := up }) .l1).flow = false := by
  simp only [Sized]
  decide +kernel

/-- FlowAndPumpFailures: the judgement of an Off loop whose string heads the queue, of one that nothing holds, of a Starting one with
a hot inlet and of a Failed one; a pump grant that rises and one that falls. -/
theorem test_meets_loop_judgements :
    (loopOf (setLoop fun r => { r with judge := true }) .l1).judge = true ∧
    (loopOf (setLoop fun r => { r with judge := true }) .l1).state = .off ∧
    Required (setQueue [.s1] (setLoop fun r => { r with judge := true })) .l1 ∧
    (loopOf (setLoop fun r => { r with judge := true, state := .running }) .l1).state = .running ∧
    ¬Required (setLoop fun r => { r with judge := true, state := .running }) .l1 ∧
    Required (setInlet .l1 { inletOf rs .l1 with inUse := 451 }
      (setLoop fun r => { r with judge := true, state := .starting })) .l1 ∧
    (loopOf (setLoop fun r => { r with judge := true, state := .failed }) .l1).state = .failed ∧
    (Claims.atStart.get (pumpClaim .l1)).grant = 0 ∧
    0 < (claimOf (setAux fun b => { b with claims := b.claims.set .pump1 ⟨true, none, 15, 15, 15⟩ }) (pumpClaim .l1)).grant ∧
    (claimOf (setAux fun b => { b with claims := b.claims.set .pump1 ⟨true, none, 15, 15, 0⟩ }) (pumpClaim .l1)).submitted =
      true := by
  simp only [Required, hotInlet, HoldsLoop]
  decide +kernel

/-- CoolingEvaluationSetsClamps: a loop with its fan claim, one without, a Failed one, a humidity of 85 and of 79 in Parked. -/
theorem test_meets_cooling_evaluation :
    rs.powered = true ∧
    Sized rs ∧
    (loopOf rs .l1).state ≠ .failed ∧
    submitted rs (fanClaim .l1) = false ∧
    submitted (setAux fun b => { b with claims := b.claims.set .fans1 ⟨true, none, 8, 8, 0⟩ }) (fanClaim .l1) = true ∧
    (loopOf (setLoop fun r => { r with state := .failed }) .l1).state = .failed ∧
    (rowAt rs (rowOf .loopFailed 1)).state = .clear ∧
    (rowAt (setRow (rowOf .loopFailed 1) .latched false) (rowOf .loopFailed 1)).state = .latched ∧
    rs.mode.current = .parked ∧ submitted rs .heaters = false ∧
    rs.cool.l3.state = .off ∧ 0 ≤ (85 : Int) ∧ (85 : Int) ≤ 100 := by
  simp only [Sized]
  decide +kernel

/-- R76: a lost air sensor drives L3 to stage 3, in the event of its substitute. -/
theorem test_lost_air_sensor_drives_stage_3 :
    (after .airSensorSubstitute rs).cool.l3.demand = 3 ∧
    (claimOf (after .airSensorSubstitute rs) .fans3).ceiling = 18 := by decide +kernel

/-- R73: a fan claim withdrawn for want of a channel is submitted when the channels return, also at a demand of 0. -/
theorem test_fan_claim_returns_at_demand_0 :
    let s := returnFans .l1 (setLoop fun r => { r with
      state := .degraded, role := some .duty, fansDue := true, fans := r.fans.map fun c => { c with failed := true } })
    submitted s .fans1 = true ∧ (claimOf s .fans1).ceiling = 8 := by decide +kernel

/-- R168, on items that R62 lists: pump running none is 2, a flow not proven is 1. -/
theorem test_listed_values : (loopBody rs .l1).take 8 = [0, 0, 0, 2, 255, 255, 255, 1] := by decide +kernel

/-- R117: a waiting clearance claim that θ has left its window under is withdrawn, and the clearance is due no more. -/
theorem test_waiting_clearance_ends :
    let s := setYaw fun y => { y with kind := some .clearance, clearance := some ⟨1, 0⟩, encoder := some (.angle 0) }
    let t := normalStop { s with
      retained := { s.retained with twist := { s.retained.twist with valid := true } }
      aux := { s.aux with claims := s.aux.claims.set .yaw ⟨true, none, 44, 88, 0⟩ } }
    t.yaw.clearance = none ∧ submitted t .yaw = false := by decide +kernel

/-- FansAndRunOn: run-on timers, the last channel of L3. -/
theorem test_meets_fans :
    rs.powered = true ∧
    (loopOf (setLoop fun r => { r with runOn := up, demand := 1 }) .l1).runOn.isSome = true ∧
    ({ rs with cool := { rs.cool with l3 := { rs.cool.l3 with runOn := up, fans := rs.cool.l3.fans.set 2 ⟨true, false, false, up⟩ } } } : State).cool.l3.runOn.isSome = true ∧
    (fanAt ({ rs with cool := { rs.cool with l3 := { rs.cool.l3 with runOn := up, fans := rs.cool.l3.fans.set 2 ⟨true, false, false, up⟩ } } } : State) (.l3 2)).mismatch.isSome = true := by decide +kernel

/-- WalkHandsOutNoMoreThanItHas, the critical cap among them. -/
theorem test_meets_walk :
    claimList.Nodup ∧
    ClaimId.pump1 ∈ claimList ∧
    ClaimId.hoist ∉ [ClaimId.pump1] ∧
    (setAux fun b => { b with source := .battery, criticalMark := true }).aux.source = .battery ∧
    (setAux fun b => { b with source := .battery, criticalMark := true }).aux.criticalMark = true ∧
    claimClass .precharge = .motion ∧
    ClaimId.precharge ≠ .yaw ∧
    0 < (Claims.atStart.get .precharge).floor := by decide +kernel

/-- SourceAndBatteryExpiries, both clauses. -/
theorem test_meets_source :
    rs.powered = true ∧
    (setAux fun b => { b with source := .bridged, bridge := up }).aux.source = .bridged ∧
    (setAux fun b => { b with source := .bridged, bridge := up }).aux.bridge.isSome = true ∧
    (setAux fun b => { b with source := .battery, normal := up }).aux.source = .battery ∧
    (setAux fun b => { b with source := .battery, normal := up }).aux.normal.isSome = true ∧
    ({ rs with retained := { rs.retained with energy := 647999 } } : State).retained.energy < 648000 := by decide +kernel

/-- EnergyFollowsItsAccounting: at the capacity, on Grid and off it. -/
theorem test_meets_energy :
    rs.powered = true ∧
    rs.retained.energy ≤ 648000 ∧
    rs.aux.source = .grid ∧
    (setAux fun b => { b with source := .battery }).aux.source ≠ .grid ∧
    (setAux fun b => { b with source := .bridged }).aux.source ≠ .grid := by decide +kernel

/-- YawSampleFormsTheMeans: a mean that stands, one that does not. -/
theorem test_meets_yaw_sample :
    rs.powered = true ∧
    (after (.yawSample (.value 0) (.value 0) 80) (setYaw fun y => { y with ring := List.replicate 60 ⟨0, 400, 80, true, some .a, some 0⟩ })).yaw.longMean = some 393 ∧
    (after (.yawSample .bad .bad 80) rs).yaw.longMean = none := by decide +kernel

/-- BrakesFollowTheirProofs, every clause. -/
theorem test_meets_brakes :
    (setYaw (fun y => { y with motion := .venting, brake := .venting, settle := up, fullAbsent := up, residAbsent := up, kind := some .auto })).powered = true ∧
    Sized (setYaw (fun y => { y with motion := .venting, brake := .venting, settle := up, fullAbsent := up, residAbsent := up, kind := some .auto })) ∧
    (setYaw (fun y => { y with motion := .venting, brake := .venting, settle := up, fullAbsent := up, residAbsent := up, kind := some .auto })).yaw.motion = .venting ∧
    (setYaw (fun y => { y with motion := .venting, brake := .venting, settle := up, fullAbsent := up, residAbsent := up, kind := some .auto })).yaw.settle.isSome = true ∧
    ({ (setYaw (fun y => { y with motion := .venting, brake := .venting, settle := up, fullAbsent := up, residAbsent := up, kind := some .auto })) with lines := { rs.lines with residualProof := true } } : State).lines.residualProof = true ∧
    (setYaw (fun y => { y with motion := .venting, brake := .venting, settle := up, fullAbsent := up, residAbsent := up, kind := some .auto })).lines.residualProof = false ∧
    (setYaw (fun y => { y with motion := .pressurizing, brake := .pressurizing, settle := up, fullAbsent := up, residAbsent := up, kind := some .auto })).yaw.motion = .pressurizing ∧
    (setYaw (fun y => { y with motion := .pressurizing, brake := .pressurizing, settle := up, fullAbsent := up, residAbsent := up, kind := some .auto })).yaw.settle.isSome = true ∧
    (setYaw (fun y => { y with motion := .pressurizing, brake := .pressurizing, settle := up, fullAbsent := up, residAbsent := up, kind := some .auto })).lines.fullProof = true ∧
    ({ (setYaw (fun y => { y with motion := .pressurizing, brake := .pressurizing, settle := up, fullAbsent := up, residAbsent := up, kind := some .auto })) with lines := { rs.lines with fullProof := false } } : State).lines.fullProof = false ∧
    (setYaw (fun y => { y with motion := .hold, brake := .full, settle := up, fullAbsent := up, residAbsent := up, kind := some .auto })).yaw.brake = .full ∧
    (setYaw (fun y => { y with motion := .hold, brake := .full, settle := up, fullAbsent := up, residAbsent := up, kind := some .auto })).yaw.fullAbsent.isSome = true ∧
    (setYaw (fun y => { y with motion := .moving, brake := .residual, settle := up, fullAbsent := up, residAbsent := up, kind := some .auto })).yaw.brake = .residual ∧
    (setYaw (fun y => { y with motion := .moving, brake := .residual, settle := up, fullAbsent := up, residAbsent := up, kind := some .auto })).yaw.residAbsent.isSome = true ∧
    (setYaw (fun y => { y with motion := .moving, brake := .residual, settle := up, fullAbsent := up, residAbsent := up, kind := some .auto })).yaw.motion ≠ .hold ∧
    rs.yaw.brake = .full ∧
    rs.yaw.brake ≠ (match BrakeProof.residual with | .full => .full | .residual => .residual) ∧
    Sized (setYaw (fun y => { y with motion := .moving, brake := .residual, settle := up, fullAbsent := up, residAbsent := up, kind := some .auto })) := by
  simp only [Sized]
  decide +kernel

/-- MotionTimersExpire, inside a window and outside. -/
theorem test_meets_motion_timers :
    (setYaw fun y => { y with motion := .ramping, ramp := up }).powered = true ∧
    (setYaw fun y => { y with motion := .ramping, ramp := up }).yaw.motion = .ramping ∧
    (setYaw fun y => { y with motion := .ramping, ramp := up }).yaw.ramp.isSome = true ∧
    (setYaw fun y => { y with motion := .moving, kind := some .manual, manualTimer := up }).yaw.manualTimer.isSome = true ∧
    (setYaw fun y => { y with motion := .moving, kind := some .manual, manualTimer := up }).yaw.kind = some .manual ∧
    (setYaw fun y => { y with motion := .moving, kind := some .manual, manualTimer := up }).yaw.motion = .moving ∧
    (setYaw fun y => { y with motion := .moving, kind := some .manual, manualTimer := up }).yaw.continuing = none ∧
    windowNow (setYaw fun y => { y with motion := .moving, kind := some .manual, manualTimer := up }) = none ∧
    windowNow (setYaw fun y => { y with
      motion := .moving, kind := some .manual, manualTimer := up, windows := [⟨0, 0⟩] }) = some 1 := by decide +kernel

/-- DriveFeedbackAndFailure, the tenth channel. -/
theorem test_meets_drives :
    rs.powered = true ∧
    Sized (setYaw fun y => { y with channels := y.channels.set 9 ⟨false, true, false, up⟩ }) ∧
    (channelAt (setYaw fun y => { y with channels := y.channels.set 9 ⟨false, true, false, up⟩ }) 9).mismatch.isSome = true := by
  simp only [Sized]
  decide +kernel

/-- PanelButtonsJog: a press taken, a release of the held jog. -/
theorem test_meets_panel :
    (setMode fun m => { m with owner := .localOwner }).powered = true ∧
    pressTaken .cw (setMode fun m => { m with owner := .localOwner }) = true ∧
    pressTaken .ccw (setMode fun m => { m with owner := .localOwner }) = true ∧
    submitted (setMode fun m => { m with owner := .localOwner }) .yaw = false ∧
    buttonHeld (setMode fun m => { m with owner := .localOwner }) (Dir.other .cw) = false ∧
    (setYaw fun y => { y with panelJog := some .cw, motion := .moving }).yaw.panelJog = some .cw ∧
    (setYaw fun y => { y with panelJog := some .cw, motion := .moving }).yaw.motion = .moving ∧
    (setYaw fun y => { y with panelJog := some .cw, motion := .moving }).yaw.continuing = none ∧
    windowNow (setYaw fun y => { y with panelJog := some .cw, motion := .moving }) = none := by decide +kernel

/-- The state right after reset at the positive end of the range. -/
def atTheEnd : State := { rs with retained := { rs.retained with twist := ⟨3, 0, 0, true, true⟩ } }

/-- EncoderTracksTheTwist: a move of 1,799 either way, one past each end of the range, an unknown θ, a wait. -/
theorem test_meets_encoder :
    rs.powered = true ∧
    Sized rs ∧
    rs.retained.twist.valid = true ∧
    rs.retained.twist.ref < 3600 ∧
    rs.retained.twist.last < 3600 ∧
    ((1799 : Int) - rs.retained.twist.position).natAbs < 1800 ∧
    ((1799 : Int) + rs.retained.twist.ref) % 3600 = (1799 : Fin 3600) ∧
    ((-1799 : Int) - rs.retained.twist.position).natAbs < 1800 ∧
    ((-1799 : Int) + rs.retained.twist.ref) % 3600 = (1801 : Fin 3600) ∧
    (1799 : Int).natAbs ≤ 10800 ∧
    atTheEnd.powered = true ∧
    Sized atTheEnd ∧
    atTheEnd.retained.twist.valid = true ∧
    ((10800 : Int) - atTheEnd.retained.twist.position).natAbs < 1800 ∧
    ((10801 : Int) - atTheEnd.retained.twist.position).natAbs < 1800 ∧
    ((10801 : Int) + atTheEnd.retained.twist.ref) % 3600 = (1 : Fin 3600) ∧
    10800 < (10801 : Int).natAbs ∧
    10800 < (-10801 : Int).natAbs ∧
    ({ rs with retained := { rs.retained with twist := ⟨0, 0, 0, false, true⟩ } } : State).retained.twist.valid = false ∧
    (setYaw fun y => { y with untwist := ⟨true, up, false, false⟩ }).yaw.untwist.wait.isSome = true ∧
    (setMode fun m => { m with current := .generating }).mode.current = .generating := by
  simp only [Sized]
  decide +kernel

/-- The reading that takes θ past the range writes the turn count and the last angle before TWIST_SENSOR (R124). -/
theorem test_encoder_leaves_range :
    (after (.encoderUpdate (.angle 1799)) { rs with retained := { rs.retained with twist := ⟨3, 0, 0, true, true⟩ } }).retained.twist =
      ⟨3, 0, 1799, false, true⟩ ∧
    (after (.encoderUpdate (.angle 3599)) { rs with retained := { rs.retained with twist := ⟨-3, 0, 0, true, true⟩ } }).retained.twist =
      ⟨-4, 0, 3599, false, true⟩ := by decide +kernel

/-- ModeTimersExpire, every clause. -/
theorem test_meets_mode_timers :
    rs.powered = true ∧
    Sized rs ∧
    (setMode fun m => { m with supEnabled := true, supTimer := up, current := .generating }).mode.supEnabled = true ∧
    (setMode fun m => { m with supEnabled := true, supTimer := up, current := .generating }).mode.supTimer.isSome = true ∧
    rs.mode.supCount = 0 ∧
    (setMode fun m => { m with supCount := 1 }).mode.supCount ≥ 1 ∧
    (setMode fun m => { m with current := .storm, calm := up }).mode.current = .storm ∧
    (setMode fun m => { m with current := .storm, calm := up }).mode.calm.isSome = true ∧
    (setMode fun m => { m with current := .idle, target := some .generating, idleLimit := up }).mode.idleLimit.isSome = true ∧
    risingTarget (setMode fun m => { m with current := .idle, target := some .generating, idleLimit := up }).mode.target = true ∧
    (setMode fun m => { m with current := .idle, target := some .generating, idleLimit := up }).mode.current = .idle ∧
    readyStrings (setMode fun m => { m with current := .idle, target := some .generating, idleLimit := up }) = 0 ∧
    readyStrings ({ setString .s1 (fun r => { r with state := .ready }) with mode := { rs.mode with current := .idle, target := some .generating, idleLimit := up } } : State) ≠ 0 ∧
    mayGenerate ({ setString .s1 (fun r => { r with state := .ready }) with mode := { rs.mode with current := .idle, target := some .generating, idleLimit := up } } : State) = true ∧
    mayGenerate { ({ setString .s1 (fun r => { r with state := .ready }) with mode := { rs.mode with current := .idle, target := some .generating, idleLimit := up } } : State) with grid := { rs.grid with state := .recovering } } = false ∧
    risingTarget (some Mode.idle) = true := by
  simp only [Sized]
  decide +kernel

/-- PanelAndChainAct: a latched Trip row, a key that stood at Lockout. -/
theorem test_meets_panel_and_chain :
    rs.powered = true ∧
    Sized rs ∧
    (strOf rs .s1).state ≠ .isolated ∧
    (strOf rs .s1).state ≠ .faulted ∧
    ({ rs with lines := { rs.lines with key := .lockoutPos } } : State).lines.key = .lockoutPos ∧
    (codeOfRow 73).isTrip = true ∧
    (rowAt (setRow 73 .latched false) 73).state = .latched ∧
    reactiveRow 78 = false ∧
    (codeOfRow 78).isTrip = false := by
  simp only [Sized]
  decide +kernel

/-- RaiseAndClearChangeTheirRow: the last unit of a code; Active rows, acknowledged and not. -/
theorem test_meets_rows :
    rs.faults.rows.length = 79 ∧
    1 ≤ (10 : Nat) ∧
    10 ≤ FaultCode.yawDrive.units ∧
    (rowAt rs (rowOf .yawDrive 10)).state ≠ .active ∧
    (rowAt (setRow 66 .active true) (rowOf .yawDrive 10)).state = .active ∧
    (rowAt (setRow 66 .active true) (rowOf .yawDrive 10)).ack = true ∧
    (rowAt (setRow 66 .active false) (rowOf .yawDrive 10)).ack = false ∧
    classOf rs .yawDrive ≠ .record := by decide +kernel

/-- A snapshot of row `i`. -/
def snapOf (i : Nat) : Option Snapshot := some (snapshotNow rs i)

/-- All eight slots hold row 66's kind of snapshot, in capture order from slot 8 down; row `i` in a state. -/
def fullSlots (i : Nat) (st : RowState) (ack : Bool) : State :=
  { setRow i st ack with faults := { (setRow i st ack).faults with
      slots := List.replicate 8 (snapOf i), capture := [8, 7, 6, 5, 4, 3, 2, 1] } }

/-- RaiseAndClearChangeTheirRow, the snapshot: an own slot, the last empty one, the oldest displaceable one, none. -/
theorem test_meets_snapshots :
    FaultCode.estop.isTrip = true ∧
    (rowAt rs (rowOf .estop 1)).state ≠ .active ∧
    rs.faults.slots.length = 8 ∧
    rs.faults.slots.getD (1 - 1) none = none ∧
    (rowAt rs (rowOf .estop 1)).slot = none ∧
    ({ rs.faults with rows := rs.faults.rows.set 73 { FaultRow.blank with state := .latched, slot := some 8 } }.rows.getD 73
      .blank).slot = some 8 ∧
    (fullSlots 0 .active true).faults.slots.length = 8 ∧
    (fullSlots 0 .active true).faults.rows.length = 79 ∧
    ([1, 2, 3, 4, 5, 6, 7, 8].all fun k => (fullSlots 0 .active true).faults.slots.getD (k - 1) none ≠ none) = true ∧
    (fullSlots 0 .active true).faults.capture = [] ++ 8 :: [7, 6, 5, 4, 3, 2, 1] ∧
    (fullSlots 0 .active true).faults.slots.getD (8 - 1) none = snapOf 0 ∧
    (snapshotNow rs 0).row ≠ rowOf .estop 1 ∧
    ((rowAt (fullSlots 0 .active true) 0).state = .active ∧ (rowAt (fullSlots 0 .active true) 0).ack = true) ∧
    (rowAt (fullSlots 0 .latched false) 0).state ≠ .clear ∧
    (rowAt (fullSlots 0 .active false) 0).ack = false ∧
    (rowAt (fullSlots 0 .active false) (rowOf .estop 1)).slot = none := by decide +kernel

/-- FirstFaultMarkFollowsItsEpisode: an empty table, another Trip row standing, a latched row. -/
theorem test_meets_first_fault :
    rs.faults.rows.length = 79 ∧
    FaultCode.estop.isTrip = true ∧
    1 ≤ FaultCode.estop.units ∧
    (rowAt rs (rowOf .estop 1)).state ≠ .active ∧
    ((List.range 79).all fun j => j = 73 || !(codeOfRow j).isTrip || (rowAt rs j).state = .clear) = true ∧
    (0 : Nat) ≠ rowOf .estop 1 ∧
    (codeOfRow 0).isTrip = true ∧
    (rowAt (setRow 0 .latched false) 0).state ≠ .clear ∧
    (rowAt (setRow 73 .active true) (rowOf .estop 1)).state = .active ∧
    (rowAt (setRow 73 .active true) (rowOf .estop 1)).ack = true ∧
    (rowAt (setRow 73 .latched false) 73).state = .latched := by decide +kernel

/-- LockHoldsUntilColdStart, a command that would change a covered item. -/
theorem test_meets_lock :
    ({ rs with store := { rs.store with lock := true } } : State).store.lock = true ∧
    Instr.setDriveSlots 1 [1, 2, 3, 4, 5, 6, 7, 8] ≠ .powerFailure ∧
    SettingId.hardLimit.lockable = true := by decide +kernel

/-- StepKeepsTheSettingsSound: the state after reset meets it, and its step answers a next state. -/
theorem test_meets_settings_sound : StoreSound rs ∧ step rs = .next (idle rs) := by
  refine ⟨⟨⟨?_, by decide +kernel, by decide +kernel, by decide +kernel, by decide +kernel, by decide +kernel,
    by decide +kernel, ?_⟩, fun _ => ⟨?_, by decide +kernel, by decide +kernel, by decide +kernel, by decide +kernel,
    by decide +kernel, by decide +kernel, ?_⟩, ?_⟩, rfl⟩
  · intro i; cases i <;> decide +kernel
  · intro c; cases c <;> decide +kernel
  · intro i; cases i <;> decide +kernel
  · intro c; cases c <;> decide +kernel
  · intro f h; cases h

/-- StepKeepsTheTwistInRange. -/
theorem test_meets_twist_in_range : TwistSound rs ∧ step rs = .next (idle rs) := by
  refine ⟨⟨by decide +kernel, by decide +kernel, fun _ => by decide +kernel⟩, rfl⟩

/-- StepKeepsSizesAndRoom. -/
theorem test_meets_sizes_and_room : (QueuesSound rs ∧ Sized rs) ∧ step rs = .next (idle rs) := by
  refine ⟨⟨?_, ?_⟩, rfl⟩
  · simp only [QueuesSound]; decide +kernel
  · simp only [Sized]; decide +kernel

/-- StepKeepsDrivesOffTheBrakes. -/
theorem test_meets_drives_off_the_brakes : DrivesSafe rs ∧ step rs = .next (idle rs) := by
  refine ⟨fun _ => by decide +kernel, rfl⟩

/-- StepKeepsFansWithinTheirGrant. -/
theorem test_meets_fans_within_grant : FansSafe rs ∧ step rs = .next (idle rs) := by
  refine ⟨?_, rfl⟩
  simp only [FansSafe]; decide +kernel

/-- StepKeepsEnergyAndPowerInRange. -/
theorem test_meets_energy_and_power : (EnergySound rs ∧ PowerSound rs) ∧ step rs = .next (idle rs) := by
  refine ⟨⟨?_, ?_⟩, rfl⟩
  · simp only [EnergySound]; decide +kernel
  · simp only [PowerSound]; decide +kernel

/-- FirstFaultMarkFollowsItsEpisode, its sound table. -/
theorem test_meets_first_fault_sound : FirstFaultSound rs := by
  have h : ∀ i, rowAt rs i = FaultRow.blank := by
    intro i
    simp only [rowAt, State.reset, FaultTable.atStart, List.getD_eq_getElem?_getD, List.getElem?_replicate]
    split <;> rfl
  refine ⟨by decide +kernel, fun i hi => ?_, fun i _ hi => ?_⟩ <;> (rw [h] at hi; cases hi)

/-! ## Step 5 of the yaw sample -/

/-- The state that step 5 finds at a sample of both vanes at `angle` and the wind. -/
def mid (angle wind : Nat) (s : State) : State :=
  judgeYaw (clearBrakeFault (testCalm (testStormEntry
    (sampleWind (.value angle) (.value angle) (max 0 (min (wind : Int) 700)).toNat (beginEvent s)))))

/-- A ring of one angle and wind, beside a change of the yaw record, with θ at `turns` whole turns. -/
def blowing (angle wind : Nat) (turns : Int) (f : Yaw → Yaw) : State :=
  { rs with
    retained := { rs.retained with twist := ⟨turns, 0, 0, true, true⟩ }
    yaw := f { rs.yaw with ring := List.replicate 60 ⟨0, angle, wind, true, some .a, some (turns * 3600)⟩ } }

/-- YawSampleStartsAndStopsMoves: the means that its starts ask for. -/
theorem test_meets_yaw_starts :
    (blowing 100 80 0 id).powered = true ∧
    Sized (blowing 100 80 0 id) ∧
    (mid 100 80 (blowing 100 80 0 id)).yaw.motion = .hold ∧
    submitted (mid 100 80 (blowing 100 80 0 id)) .yaw = false ∧
    (mid 100 80 (blowing 100 80 0 id)).lines.chainClosed = true ∧
    (mid 100 80 (blowing 100 80 0 id)).yaw.mode = .auto ∧
    (mid 100 80 (blowing 100 80 0 id)).yaw.clearance = none ∧
    (mid 100 80 (blowing 100 80 0 id)).yaw.rest = none ∧
    (mid 100 80 (blowing 100 80 0 id)).yaw.untwist.ready = false ∧
    (mid 100 80 (blowing 100 80 0 id)).yaw.longMean = some 100 ∧
    (mid 100 80 (blowing 100 80 0 id)).yaw.longSpeed = some 80 ∧
    (mid 100 80 (blowing 100 80 0 id)).store.working.startLong ≤ 100 ∧
    barred (mid 100 80 (blowing 100 80 0 id)) .cw = false ∧
    (mid 400 20 (blowing 400 20 0 id)).yaw.longSpeed = some 20 ∧
    (mid 400 20 (blowing 400 20 0 id)).yaw.shortMean = some 400 ∧
    (mid 400 20 (blowing 400 20 0 id)).store.working.startShort ≤ 400 ∧
    (mid 0 80 (blowing 0 80 0 id)).yaw.shortMean = some 0 := by
  simp only [Sized]
  decide +kernel

/-- YawSampleStartsAndStopsMoves: a start that the hard limit bars, and one with Storm's thresholds. -/
theorem test_meets_barred_and_storm_starts :
    barred (mid 100 80 { blowing 100 80 2 id with
      store := { rs.store with working := { rs.store.working with hardLimit := 7200 } } }) .cw = true ∧
    (mid 100 80 { blowing 100 80 2 id with
      store := { rs.store with working := { rs.store.working with hardLimit := 7200 } } }).yaw.mode = .auto ∧
    (mid 300 80 { blowing 300 80 0 id with mode := { rs.mode with current := .storm } }).yaw.mode = .storm ∧
    (mid 300 80 { blowing 300 80 0 id with mode := { rs.mode with current := .storm } }).yaw.longMean = some 300 ∧
    submitted (mid 300 80 { blowing 300 80 0 id with mode := { rs.mode with current := .storm } }) .yaw = false := by
  decide +kernel

/-- YawSampleStartsAndStopsMoves: a wind of 250 over the long ring, from Generating. -/
theorem test_meets_storm_entry :
    (inMode .generating none).mode.current = .generating ∧
    rs.lines.chainClosed = true ∧
    (sampleWind (.value 0) (.value 0) 250 (beginEvent { blowing 0 250 0 id with
      mode := { rs.mode with current := .generating } })).yaw.longSpeed = some 250 := by decide +kernel

/-- YawSampleStartsAndStopsMoves: an untwist ready in calm air, one due in wind, one whose wait is not loaded. -/
theorem test_meets_untwist_start :
    (mid 0 39 (blowing 0 39 2 fun y => { y with untwist := ⟨true, none, true, false⟩ })).yaw.motion = .hold ∧
    (mid 0 39 (blowing 0 39 2 fun y => { y with untwist := ⟨true, none, true, false⟩ })).yaw.mode = .auto ∧
    (mid 0 39 (blowing 0 39 2 fun y => { y with untwist := ⟨true, none, true, false⟩ })).yaw.untwist.ready = true ∧
    (mid 0 39 (blowing 0 39 2 fun y => { y with untwist := ⟨true, none, true, false⟩ })).mode.current = .parked ∧
    theta (mid 0 39 (blowing 0 39 2 fun y => { y with untwist := ⟨true, none, true, false⟩ })) = some 7200 ∧
    (max 0 (min ((39 : Nat) : Int) 700)).toNat < 40 ∧
    40 ≤ (max 0 (min ((40 : Nat) : Int) 700)).toNat ∧
    (mid 0 40 (blowing 0 40 2 fun y => { y with untwist := ⟨true, up, false, false⟩ })).yaw.untwist.due = true ∧
    (mid 0 40 (blowing 0 40 2 fun y => { y with untwist := ⟨true, up, false, false⟩ })).yaw.untwist.inFlight = false ∧
    (mid 0 39 (blowing 0 39 2 fun y => { y with untwist := ⟨true, none, false, false⟩ })).yaw.untwist.wait = none := by
  decide +kernel

/-- A move under way in Moving. -/
def underWay (k : MoveKind) (y : Yaw) : Yaw :=
  { y with
    motion := .moving, brake := .residual, kind := some k, direction := some .cw, driveCount := 6
    untwist := { y.untwist with inFlight := k = .untwist }, mode := if k = .untwist then .untwist else .auto }

/-- YawSampleStartsAndStopsMoves: moves that reach their stop, and one that goes on. -/
theorem test_meets_yaw_stops :
    (mid 5 80 (blowing 5 80 0 (underWay .auto))).yaw.motion = .moving ∧
    (mid 5 80 (blowing 5 80 0 (underWay .auto))).yaw.continuing = none ∧
    (mid 5 80 (blowing 5 80 0 (underWay .auto))).yaw.kind = some .auto ∧
    (mid 5 80 (blowing 5 80 0 (underWay .auto))).yaw.shortMean = some 5 ∧
    (5 : Int).natAbs ≤ rs.store.working.stop ∧
    (mid 100 80 (blowing 100 80 0 (underWay .auto))).yaw.shortMean = some 100 ∧
    rs.store.working.stop < (100 : Int).natAbs ∧
    (mid 100 80 (blowing 100 80 0 (underWay .auto))).yaw.direction = some .cw ∧
    (mid 0 80 (blowing 0 80 2 (underWay .untwist))).yaw.motion = .moving ∧
    (mid 0 80 (blowing 0 80 2 (underWay .untwist))).yaw.kind = some .untwist ∧
    (mid 0 80 (blowing 0 80 2 (underWay .untwist))).yaw.shortSpeed = some 80 ∧
    (mid 0 79 (blowing 0 79 2 (underWay .untwist))).yaw.shortSpeed = some 79 ∧
    (mid 0 79 (blowing 0 79 2 (underWay .untwist))).yaw.motion = .moving := by decide +kernel

/-- A due clearance in a window around θ = 0, or outside it. -/
def dueClearance (window : Window) (f : Yaw → Yaw) : State :=
  blowing 0 10 0 fun y => f { y with clearance := some ⟨1, window.limit⟩, windows := [window, ⟨1, 0⟩, ⟨1, 0⟩, ⟨1, 0⟩] }

/-- YawSampleStartsAndStopsMoves: a clearance that starts, one outside its window, and one that waits. -/
theorem test_meets_clearance :
    (mid 0 10 (dueClearance ⟨-10, 10⟩ id)).yaw.clearance.isSome = true ∧
    (mid 0 10 (dueClearance ⟨-10, 10⟩ id)).yaw.manualMark = false ∧
    (mid 0 10 (dueClearance ⟨-10, 10⟩ id)).yaw.mode = .auto ∧
    (mid 0 10 (dueClearance ⟨-10, 10⟩ id)).yaw.motion = .hold ∧
    submitted (mid 0 10 (dueClearance ⟨-10, 10⟩ id)) .yaw = false ∧
    theta (mid 0 10 (dueClearance ⟨-10, 10⟩ id)) = some 0 ∧
    windowAt (mid 0 10 (dueClearance ⟨-10, 10⟩ id)) 0 = some 1 ∧
    barred (mid 0 10 (dueClearance ⟨-10, 10⟩ id)) .ccw = false ∧
    windowAt (mid 0 10 (dueClearance ⟨10, 20⟩ id)) 0 = none ∧
    (mid 0 10 (dueClearance ⟨10, 20⟩ id)).yaw.clearance.isSome = true ∧
    (mid 0 10 (dueClearance ⟨10, 20⟩ (underWay .clearance))).yaw.kind = some .clearance ∧
    (mid 0 10 (dueClearance ⟨10, 20⟩ (underWay .clearance))).yaw.motion ≠ .hold ∧
    (mid 0 10 (dueClearance ⟨10, 20⟩ fun y => { y with manualMark := true })).yaw.manualMark = true := by decide +kernel

/-- A due clearance at θ = 7200, under a hard limit of 7200, in a window whose nearer edge lies outward. -/
def barredClearance : State :=
  { blowing 0 10 2 fun y => { y with clearance := some ⟨1, 7200⟩, windows := [⟨7100, 7200⟩, ⟨1, 0⟩, ⟨1, 0⟩, ⟨1, 0⟩] } with
    store := { rs.store with working := { rs.store.working with hardLimit := 7200 } } }

/-- YawSampleStartsAndStopsMoves: a clearance that the hard limit bars. -/
theorem test_meets_barred_clearance :
    (mid 0 10 barredClearance).yaw.clearance.isSome = true ∧
    (mid 0 10 barredClearance).yaw.manualMark = false ∧
    (mid 0 10 barredClearance).yaw.mode = .auto ∧
    (mid 0 10 barredClearance).yaw.motion = .hold ∧
    submitted (mid 0 10 barredClearance) .yaw = false ∧
    theta (mid 0 10 barredClearance) = some 7200 ∧
    windowAt (mid 0 10 barredClearance) 7200 = some 1 ∧
    (7200 : Int) - 7100 > 7200 - 7200 ∧
    barred (mid 0 10 barredClearance) .cw = true := by decide +kernel

/-- R128: it starts with a hard limit above θ, and does not under one at θ. -/
theorem test_barred_clearance_does_not_start :
    (after (.yawSample (.value 0) (.value 0) 10) barredClearance).yaw.kind = none ∧
    (after (.yawSample (.value 0) (.value 0) 10) { barredClearance with store := rs.store }).yaw.kind = some .clearance := by
  decide +kernel

/-- R108: a drive that fails while a move ramps down leaves the count of those still commanded. -/
theorem test_ramping_count :
    let s := driveYaw (setYaw fun y => { underWay .auto y with driveCount := 4 })
    let t := { s with yaw := { s.yaw with
      motion := .ramping, ramp := up, speed := .falling
      channels := updateAt s.yaw.channels 0 fun d => { d with mismatch := up } } }
    t.yaw.driveCount = 4 ∧ (after (.driveMismatchExpiry 0) t).yaw.driveCount = 3 := by decide +kernel

/-- R160, R166: the snapshot of a warm restart shows the mode and the currents before it. -/
theorem test_snapshot_of_warm_restart :
    let s := { setString .s1 (fun r => { r with iMeas := 430 }) with
      lines := { rs.lines with chainClosed := false }, mode := { rs.mode with current := .idle } }
    let t := after (.warmRestart 3300) s
    ((t.faults.slots.getD 0 none).map fun p => (p.mode, p.iMeas.s1)) = some (.idle, 430) ∧
    (strOf t .s1).iMeas = 0 := by decide +kernel

/-- YAW:EXAMPLE:DWELL: while the clearance move runs, a sample outside the window leaves the clearance due; so does one in
Manual (R117, R118). -/
theorem test_clearance_stays_due :
    (after (.yawSample (.value 0) (.value 0) 10) (dueClearance ⟨10, 20⟩ (underWay .clearance))).yaw.clearance = some ⟨1, 20⟩ ∧
    (after (.yawSample (.value 0) (.value 0) 10) (dueClearance ⟨10, 20⟩ fun y => { y with manualMark := true })).yaw.clearance =
      some ⟨1, 20⟩ ∧
    (after (.yawSample (.value 0) (.value 0) 10) (dueClearance ⟨10, 20⟩ id)).yaw.clearance = none := by decide +kernel

end Sys2Proof.Tests
end

/-! SUPPORT. The arithmetic of power sharing: the integer square root, a grant within its capacity, and a remainder handed out exactly (R19 to R22). -/

namespace Sys2Proof.Machine

/-! ## The integer square root (ABOUT:CONV) -/

/-- `r` is the largest integer whose square does not exceed `x`. -/
def IsRoot (x r : Nat) : Prop := r * r ≤ x ∧ x < (r + 1) * (r + 1)

/-- Each digit halves the gap between a root that fits and one that is too large. -/
theorem isqrtFrom_isRoot (x : Nat) : ∀ (digits root : Nat), root * root ≤ x →
    x < (root + 2 ^ digits) * (root + 2 ^ digits) → IsRoot x (isqrtFrom x digits root)
  | 0, _, hlow, hhigh => ⟨hlow, hhigh⟩
  | digits + 1, root, hlow, hhigh => by
    rw [isqrtFrom]
    split
    · next h =>
      refine isqrtFrom_isRoot x digits _ h ?_
      rwa [Nat.add_assoc, ← Nat.two_mul, ← Nat.pow_succ']
    · next h => exact isqrtFrom_isRoot x digits _ hlow (Nat.lt_of_not_le h)

theorem isqrt_isRoot (x : Nat) : IsRoot x (isqrt x) := by
  refine isqrtFrom_isRoot x _ 0 (Nat.zero_le x) ?_
  have hx : x < 2 ^ (Nat.log2 x + 1) := Nat.lt_log2_self
  have hd : Nat.log2 x + 1 ≤ (Nat.log2 x / 2 + 1) + (Nat.log2 x / 2 + 1) := by omega
  calc x < 2 ^ (Nat.log2 x + 1) := hx
    _ ≤ 2 ^ ((Nat.log2 x / 2 + 1) + (Nat.log2 x / 2 + 1)) := Nat.pow_le_pow_right (by decide) hd
    _ = _ := by rw [Nat.zero_add, Nat.pow_add]

theorem isqrt_sq_le (x : Nat) : isqrt x * isqrt x ≤ x := (isqrt_isRoot x).1

/-- What stays within the square of a capacity has a root within the capacity. -/
theorem isqrt_le_of_le_sq {x n : Nat} (h : x ≤ n * n) : isqrt x ≤ n :=
  Nat.mul_self_le_mul_self_iff.mp ((isqrt_sq_le x).trans h)

/-! ## The granted power (R20, R21) -/

/-- Moving between two values that are not negative gives one that is not negative. -/
theorem moveToward_nonneg {value target : Int} (step : Nat) (hv : 0 ≤ value) (ht : 0 ≤ target) :
    0 ≤ moveToward value target step := by
  unfold moveToward
  split
  · exact ht
  · split <;> omega

theorem limitMagnitude_natAbs (x : Int) (limit : Nat) : (limitMagnitude x limit).natAbs ≤ limit := by
  unfold limitMagnitude; split <;> omega

/-- A part within the capacity and another within what is left beside it make an apparent power within the capacity. -/
theorem apparent_le_of_besides {p q : Int} {capacity : Nat} (hp : p.natAbs ≤ capacity)
    (hq : q.natAbs ≤ besides capacity p) : apparent p q ≤ capacity := by
  refine isqrt_le_of_le_sq ?_
  have hleft : q.natAbs * q.natAbs ≤ capacity * capacity - p.natAbs * p.natAbs :=
    (Nat.mul_self_le_mul_self hq).trans (isqrt_sq_le _)
  have hsq : p.natAbs * p.natAbs ≤ capacity * capacity := Nat.mul_self_le_mul_self hp
  omega

theorem apparent_comm (p q : Int) : apparent p q = apparent q p := by
  rw [apparent, apparent, Nat.add_comm]

/-- Dropping the active part leaves no more apparent power. -/
theorem apparent_zero_le {p q : Int} {n : Nat} (h : apparent p q ≤ n) : apparent 0 q ≤ n := by
  refine isqrt_le_of_le_sq ?_
  have hlt : p.natAbs * p.natAbs + q.natAbs * q.natAbs < (n + 1) * (n + 1) :=
    (isqrt_isRoot _).2.trans_le (Nat.mul_self_le_mul_self (Nat.succ_le_succ h))
  have hq : q.natAbs < n + 1 := Nat.mul_self_lt_mul_self_iff.mp (by omega)
  simpa using Nat.mul_self_le_mul_self (Nat.le_of_lt_succ hq)

/-- Under either priority the grant lies within the capacity, and an active power asked for is not turned round. -/
theorem grantPQ_within {pr : Int} (hp : 0 ≤ pr) (qr : Int) (capacity : Nat) (prio : Priority) :
    apparent (grantPQ pr qr capacity prio).1 (grantPQ pr qr capacity prio).2 ≤ capacity ∧
    0 ≤ (grantPQ pr qr capacity prio).1 := by
  unfold grantPQ
  split
  · next h => exact ⟨h, hp⟩
  · cases prio with
    | p =>
      have hpart : (min pr (capacity : Int)).natAbs ≤ capacity := by omega
      exact ⟨apparent_le_of_besides hpart (limitMagnitude_natAbs _ _), by simp only; omega⟩
    | q =>
      have hpart : (min pr (besides capacity (limitMagnitude qr capacity) : Int)).natAbs ≤
          besides capacity (limitMagnitude qr capacity) := by omega
      refine ⟨?_, by simp only; omega⟩
      rw [apparent_comm]
      exact apparent_le_of_besides (limitMagnitude_natAbs _ _) hpart

/-- The granted record lies within the effective capacity, whether or not M2 is beyond (R19, R21). -/
theorem grantedNow_within {s : State} (hr : 0 ≤ s.conv.request.p) (hg : 0 ≤ s.conv.granted.p) :
    (grantedNow s).s ≤ capEff s ∧ 0 ≤ (grantedNow s).p := by
  obtain ⟨hcap, hpos⟩ := grantPQ_within (moveToward_nonneg (rampP s) hg hr) (rampedQ s) (capEff s) (priorityNow s)
  simp only [grantedNow]
  split
  · exact ⟨apparent_zero_le hcap, le_rfl⟩
  · exact ⟨hcap, hpos⟩

/-! ## Six strings, one entry each -/

theorem six_get_set_self {α : Type} (x : Six α) (k : StringId) (a : α) : (x.set k a).get k = a := by cases k <;> rfl

theorem six_get_set_ne {α : Type} {j k : StringId} (h : j ≠ k) (x : Six α) (a : α) : (x.set k a).get j = x.get j := by
  cases j <;> cases k <;> first | rfl | exact absurd rfl h

theorem six_get_map {α β : Type} (f : StringId → α → β) (x : Six α) (k : StringId) :
    (x.map f).get k = f k (x.get k) := by cases k <;> rfl

theorem mem_all (k : StringId) : k ∈ StringId.all := by cases k <;> decide

theorem sumOver_le {f g : StringId → Nat} (h : ∀ k, f k ≤ g k) : sumOver f ≤ sumOver g :=
  List.sum_le_sum fun k _ => h k

theorem sumOver_add (f g : StringId → Nat) : sumOver (fun k => f k + g k) = sumOver f + sumOver g :=
  List.sum_map_add

theorem sumOver_mul_left (c : Nat) (f : StringId → Nat) : sumOver (fun k => c * f k) = c * sumOver f :=
  List.sum_map_mul_left StringId.all f c

/-- One kVA more for one string is one kVA more in all. -/
theorem sumOver_set_succ (x : Six Nat) (k : StringId) :
    sumOver (x.set k (x.get k + 1)).get = sumOver x.get + 1 := by
  cases k <;> simp [sumOver, StringId.all, Six.get, Six.set] <;> omega

/-! ## The order of the remainder (R22) -/

theorem insertByTj_perm (s : State) (k : StringId) (l : List StringId) : (insertByTj s k l).Perm (k :: l) := by
  induction l with
  | nil => exact .refl _
  | cons m rest ih =>
    rw [insertByTj]
    split
    · exact .refl _
    · exact (ih.cons m).trans (.swap k m rest)

/-- Ordering by junction temperature loses and repeats no eligible string. -/
theorem byTj_perm (s : State) : (byTj s).Perm (StringId.all.filter (eligible s)) := by
  unfold byTj
  induction StringId.all.filter (eligible s) with
  | nil => exact .refl _
  | cons k l ih => exact (insertByTj_perm s k _).trans (ih.cons k)

theorem byTj_nodup (s : State) : (byTj s).Nodup :=
  (byTj_perm s).nodup_iff.mpr ((by decide : StringId.all.Nodup).filter _)

/-! ## The remainder handed out (R22) -/

/-- The string has a share below its capacity. -/
def hasRoom (s : State) (shares : Six Nat) (k : StringId) : Bool := shares.get k < capOf s k

theorem handOut_le_cap (s : State) (l : List StringId) (n : Nat) (shares : Six Nat)
    (h : ∀ k, shares.get k ≤ capOf s k) (k : StringId) : (handOut s l n shares).get k ≤ capOf s k := by
  induction l generalizing n shares with
  | nil => exact h k
  | cons m rest ih =>
    cases n with
    | zero => exact h k
    | succ n =>
      rw [handOut]
      split
      · next hm =>
        refine ih n _ fun j => ?_
        by_cases e : j = m
        · subst e; rw [six_get_set_self]; exact hm
        · rw [six_get_set_ne e]; exact h j
      · exact ih (n + 1) _ h

/-- A remainder that as many strings have room for is handed out in full. -/
theorem sumOver_handOut (s : State) (l : List StringId) (n : Nat) (shares : Six Nat) (hl : l.Nodup)
    (h : n ≤ l.countP (hasRoom s shares)) : sumOver (handOut s l n shares).get = sumOver shares.get + n := by
  induction l generalizing n shares with
  | nil => simp at h; simp [handOut, h]
  | cons m rest ih =>
    obtain ⟨hm, hrest⟩ := List.nodup_cons.mp hl
    cases n with
    | zero => rfl
    | succ n =>
      rw [handOut]
      rw [List.countP_cons] at h
      split
      · next hroom =>
        have hsame : rest.countP (hasRoom s (shares.set m (shares.get m + 1))) = rest.countP (hasRoom s shares) :=
          List.countP_congr fun j hj => by
            have hne : j ≠ m := fun e => hm (e ▸ hj)
            simp [hasRoom, six_get_set_ne hne]
        have hn : n ≤ rest.countP (hasRoom s (shares.set m (shares.get m + 1))) := by
          rw [hsame]; split at h <;> omega
        rw [ih n _ hrest hn, sumOver_set_succ]
        omega
      · next hroom =>
        have hfull : hasRoom s shares m = false := by simpa [hasRoom] using hroom
        exact ih (n + 1) shares hrest (by simpa [hfull] using h)

/-! ## The shares (R22) -/

/-- The shares before the remainder. -/
def baseShares (s : State) (total : Nat) : Six Nat :=
  ⟨baseShare s total .s1, baseShare s total .s2, baseShare s total .s3,
    baseShare s total .s4, baseShare s total .s5, baseShare s total .s6⟩

theorem sharesFor_eq (s : State) (total : Nat) :
    sharesFor s total = handOut s (byTj s) (total - sumOver (baseShares s total).get) (baseShares s total) := rfl

theorem baseShares_get (s : State) (total : Nat) (k : StringId) :
    (baseShares s total).get k = baseShare s total k := by cases k <;> rfl

theorem baseShare_le_cap {s : State} {total : Nat} (h : total ≤ capTotal s) (k : StringId) :
    baseShare s total k ≤ capOf s k := by
  refine Nat.div_le_of_le_mul ?_
  exact Nat.mul_le_mul_right _ h

theorem capOf_not_eligible {s : State} {k : StringId} (h : eligible s k = false) : capOf s k = 0 := by
  simp [capOf, h]

/-- What rounding down leaves of a string's share stays below the whole capacity, and is nothing for a string without room. -/
theorem share_rounding {s : State} {total : Nat} (h : total ≤ capTotal s) (k : StringId) :
    total * capOf s k ≤ capTotal s * (baseShare s total k + bit (hasRoom s (baseShares s total) k)) := by
  have hroom : hasRoom s (baseShares s total) k = decide (baseShare s total k < capOf s k) := by
    rw [hasRoom, baseShares_get]
  rw [hroom]
  by_cases hlt : baseShare s total k < capOf s k
  · have hpos : 0 < capTotal s := by
      rcases Nat.eq_zero_or_pos (capTotal s) with h0 | h0
      · have : capOf s k ≤ capTotal s := List.le_sum_of_mem (List.mem_map_of_mem (mem_all k))
        omega
      · exact h0
    simp only [hlt, decide_true, bit, if_true, Nat.mul_add, Nat.mul_one]
    have := Nat.div_add_mod (total * capOf s k) (capTotal s)
    have := Nat.mod_lt (total * capOf s k) hpos
    simp only [baseShare]
    omega
  · have he : baseShare s total k = capOf s k := Nat.le_antisymm (baseShare_le_cap h k) (Nat.le_of_not_lt hlt)
    rw [he]
    exact Nat.mul_le_mul_right _ h |>.trans (Nat.mul_le_mul_left _ (Nat.le_add_right _ _))

/-- The base shares never exceed the power to be shared. -/
theorem sumOver_base_le (s : State) (total : Nat) : sumOver (baseShare s total) ≤ total := by
  rcases Nat.eq_zero_or_pos (capTotal s) with h0 | h0
  · have : baseShare s total = fun _ => 0 := by funext k; simp [baseShare, h0]
    simp [this, sumOver, StringId.all]
  · refine Nat.le_of_mul_le_mul_left (c := capTotal s) ?_ h0
    calc capTotal s * sumOver (baseShare s total) = sumOver fun k => capTotal s * baseShare s total k :=
          (sumOver_mul_left _ _).symm
      _ ≤ sumOver fun k => total * capOf s k := sumOver_le fun k => Nat.mul_div_le _ _
      _ = total * capTotal s := sumOver_mul_left _ _
      _ = capTotal s * total := Nat.mul_comm _ _

/-- Only eligible strings have room, so counting them along the order of the remainder counts them all. -/
theorem countP_byTj (s : State) (shares : Six Nat) :
    (byTj s).countP (hasRoom s shares) = sumOver fun k => bit (hasRoom s shares k) := by
  have hall : (StringId.all.filter (eligible s)).countP (hasRoom s shares) =
      StringId.all.countP (hasRoom s shares) := by
    rw [List.countP_filter]
    refine List.countP_congr fun k _ => ?_
    have hel : hasRoom s shares k = true → eligible s k = true := by
      intro h
      by_contra he
      simp [hasRoom, capOf_not_eligible (by simpa using he)] at h
    simpa using hel
  rw [(byTj_perm s).countP_eq, hall, sumOver]
  simp only [StringId.all, List.countP_cons, List.countP_nil, List.map_cons, List.map_nil, List.sum_cons, List.sum_nil, bit]
  omega

/-- The remainder is no larger than the number of strings with room for it. -/
theorem remainder_le {s : State} {total : Nat} (h : total ≤ capTotal s) :
    total - sumOver (baseShares s total).get ≤ (byTj s).countP (hasRoom s (baseShares s total)) := by
  have hbase : sumOver (baseShares s total).get = sumOver (baseShare s total) := rfl
  rw [hbase, countP_byTj]
  rcases Nat.eq_zero_or_pos (capTotal s) with h0 | h0
  · omega
  · refine Nat.sub_le_of_le_add (Nat.le_of_mul_le_mul_left (c := capTotal s) ?_ h0)
    calc capTotal s * total = total * capTotal s := Nat.mul_comm _ _
      _ = sumOver fun k => total * capOf s k := (sumOver_mul_left _ _).symm
      _ ≤ sumOver fun k => capTotal s * (baseShare s total k + bit (hasRoom s (baseShares s total) k)) :=
          sumOver_le (share_rounding h)
      _ = capTotal s * ((sumOver fun k => bit (hasRoom s (baseShares s total) k)) + sumOver (baseShare s total)) := by
          rw [sumOver_mul_left, sumOver_add, Nat.add_comm]

theorem sumOver_sharesFor {s : State} {total : Nat} (h : total ≤ capTotal s) :
    sumOver (sharesFor s total).get = total := by
  rw [sharesFor_eq, sumOver_handOut s _ _ _ (byTj_nodup s) (remainder_le h)]
  have : sumOver (baseShares s total).get ≤ total := sumOver_base_le s total
  omega

theorem sharesFor_le_cap {s : State} {total : Nat} (h : total ≤ capTotal s) (k : StringId) :
    (sharesFor s total).get k ≤ capOf s k :=
  handOut_le_cap s _ _ _ (fun j => (baseShares_get s total j).trans_le (baseShare_le_cap h j)) k

/-- Settles O27: the root by its digits, the grant by the two priorities, the shares by counting the strings with room for the
remainder that rounding leaves. -/
theorem grantedPowerIsSharedWithinCapacity : Obligations.GrantedPowerIsSharedWithinCapacity := by
  unfold Obligations.GrantedPowerIsSharedWithinCapacity
  refine ⟨isqrt_isRoot, fun s hr hg => ?_, fun s total h => ⟨sumOver_sharesFor h, sharesFor_le_cap h, fun k hk => ?_⟩⟩
  · obtain ⟨hcap, hpos⟩ := grantedNow_within hr hg
    exact ⟨hcap, hpos, rfl⟩
  · have := sharesFor_le_cap h k
    rw [capOf_not_eligible hk] at this
    exact Nat.le_zero.mp this

end Sys2Proof.Machine

/-! SUPPORT. The reads and Ping: the content of a read is that of the state as the request found it, and a reported table without an overrun leaves no change mark (R148, R171). -/

namespace Sys2Proof.Machine

theorem kind_ofByte_code (k : Kind) : Kind.ofByte k.code = some k := by cases k <;> rfl

/-- A read, answered by the port and its block: OK with the content of a taken request, and nothing else but the port's flags. -/
theorem read_answered {k : Kind} {tag : Byte} {body : List Byte} {s : State} (h : PortReady s) (ht : tag ≠ 0)
    (hb : k.fits body = true) (hr : k ≠ .restart) (ha : serve k body (served s) = (.ok, served s)) :
    Quiet (replied (served s)) (request ⟨k.code, tag, body⟩ s) ∧
    Answered s (request ⟨k.code, tag, body⟩ s) (replyKind k.code) tag .ok
      (takenBody k body (served s) (updateMarks (served s))) :=
  (request_answered (f := ⟨k.code, tag, body⟩) h (kind_ofByte_code k) hb ht hr ha).symm

/-- The command of a read whose content is known in another form. -/
theorem exec_read {i : Instr} {k : Kind} {tag : Byte} {body : List Byte} {s : State} (h : PortReady s) (ht : tag ≠ 0)
    (hx : exec i s = .next (request ⟨k.code, tag, body⟩ s))
    (hb : k.fits body = true) (hr : k ≠ .restart) (ha : serve k body (served s) = (.ok, served s)) {content : List Byte}
    (hc : takenBody k body (served s) (updateMarks (served s)) = content) :
    ∃ t, exec i s = .next t ∧ Quiet (replied (served s)) t ∧ Answered s t (replyKind k.code) tag .ok content := by
  obtain ⟨hquiet, hans⟩ := read_answered h ht hb hr ha
  exact ⟨_, hx, hquiet, hc ▸ hans⟩

/-- A request being served shows the state of its arrival in all but the event order, the mode record and the fault rows. -/
theorem updateMarks_served (s : State) :
    ∃ e m rows, updateMarks (served s) = { s with evt := e, mode := m, faults := { s.faults with rows := rows } } := by
  unfold served supervisionReload
  split <;> exact ⟨_, _, _, rfl⟩

/-- A body that reads neither the event order, the mode record nor the fault rows is that of the state of arrival. -/
theorem body_served {body : State → List Byte} (s : State)
    (h : ∀ e m rows, body { s with evt := e, mode := m, faults := { s.faults with rows := rows } } = body s) :
    body (updateMarks (served s)) = body s := by
  obtain ⟨e, m, rows, heq⟩ := updateMarks_served s
  rw [heq, h]

/-! ## Change marks (R148) -/

theorem marksAfter_clear (marks : List Bool) (items : List Nat) (h : ∀ m ∈ marks, m = false) :
    ∀ m ∈ marksAfter marks items items, m = false := by
  induction marks generalizing items with
  | nil => simp [marksAfter]
  | cons a marks ih =>
    cases items with
    | nil => exact h
    | cons x items =>
      obtain ⟨ha, hrest⟩ := List.forall_mem_cons.mp h
      simp only [marksAfter, List.forall_mem_cons]
      exact ⟨by simp [ha], ih items hrest⟩

/-- Once marked and cleared, an event that changes no item further ends without a mark. -/
theorem clearMarks_updateMarks_clear (s : State) :
    ∀ m ∈ (updateMarks (clearMarks .getStatus (updateMarks s))).mode.marks, m = false := by
  refine marksAfter_clear _ (statusItems s) ?_
  intro m hm
  have : m ∈ (updateMarks s).mode.marks.map fun _ => false := hm
  obtain ⟨-, -, rfl⟩ := List.mem_map.mp this
  rfl

/-- Without a reported overrun a reply writes the port's record alone. -/
theorem queueReply_of_no_overrun {s : State} (h : s.link.overrunSeen = false) (kind tag : Byte) (status : Status)
    (content : List Byte) (restart : Bool) :
    ∃ l, queueReply kind tag status content restart s = modLink l s := by
  simp only [queueReply, h, Bool.false_eq_true, if_false]
  exact ⟨fun l => { l with
    outbound := l.outbound ++ [⟨⟨kind, tag, u8 status.code ++ u8 (linkFlags s) ++ content⟩, false, restart⟩]
    overrunSeen := false, badSeen := false, restartQueued := l.restartQueued || restart }, rfl⟩

theorem getStatus_marks {s : State} {tag : Byte} (h : PortReady s) (ht : tag ≠ 0) (ho : s.link.overrunSeen = false) :
    ∀ m ∈ (request ⟨Kind.getStatus.code, tag, []⟩ s).mode.marks, m = false := by
  rw [request_served (k := .getStatus) h rfl rfl ht]
  have hl : (clearMarks .getStatus (updateMarks (served s))).link.overrunSeen = false := by
    have := served_link s
    simpa [clearMarks, this] using ho
  have ha : serve .getStatus [] (served s) = (.ok, served s) := rfl
  obtain ⟨l, hq⟩ := queueReply_of_no_overrun hl (replyKind Kind.getStatus.code) tag .ok
    (replyBody .getStatus [] .ok (served s) (updateMarks (served s)))
    (decide (Kind.getStatus = Kind.restart) && decide (Status.ok = Status.ok))
  rw [ha, finish_marks, hq]
  exact clearMarks_updateMarks_clear (served s)

theorem settingId_ofCode_code (i : SettingId) : SettingId.ofCode (wordAt (u16 i.code) 0) = some i := by
  cases i <;> decide

/-- Settles O7: every read runs through `read_answered`, with the body its chapter gives. -/
theorem readsAnswerAndChangeNothing : Obligations.ReadsAnswerAndChangeNothing := by
  unfold Obligations.ReadsAnswerAndChangeNothing
  intro s tag h ht
  have hlink : (served s).link = s.link := served_link s
  refine ⟨fun body hb => ?_, fun body hb => ?_, ?_, ?_, ?_, ?_, ?_, ?_, ?_, fun start filter hs hf => ?_,
    fun slot hs => ?_, fun i => ?_⟩
  · refine exec_read (k := .ping) h ht rfl (by simpa [Kind.fits] using hb) (by decide) rfl ?_
    simp [takenBody, pingBody, hlink]
  · have hc : portCheck ⟨Kind.ping.code, tag, body⟩ = some .badLength := by
      have hfit : Kind.ping.fits body = false := by simpa [Kind.fits] using hb
      simp [portCheck, kind_ofByte_code, hfit]
    obtain ⟨hans, hquiet⟩ := request_refused h hc
    exact ⟨_, rfl, hquiet, hans⟩
  · exact exec_read (k := .identify) h ht rfl rfl (by decide) rfl (body_served s fun _ _ _ => rfl)
  · obtain ⟨hquiet, hans⟩ := read_answered (k := .getStatus) (body := []) h ht rfl (by decide) rfl
    exact ⟨_, rfl, hquiet, hans, getStatus_marks h ht⟩
  · exact exec_read (k := .getConverter) h ht rfl rfl (by decide) rfl (body_served s fun _ _ _ => rfl)
  · exact exec_read (k := .getGrid) h ht rfl rfl (by decide) rfl (body_served s fun _ _ _ => rfl)
  · exact exec_read (k := .getCooling) h ht rfl rfl (by decide) rfl (body_served s fun _ _ _ => rfl)
  · exact exec_read (k := .getBudget) h ht rfl rfl (by decide) rfl (body_served s fun _ _ _ => rfl)
  · exact exec_read (k := .getYaw) h ht rfl rfl (by decide) rfl (body_served s fun _ _ _ => rfl)
  · have hin : ¬(natAt [start, filter] 0 > 78 ∨ natAt [start, filter] 1 > 1) := by
      simp only [natAt, byteAt, List.getD_cons_zero, List.getD_cons_succ]; omega
    exact exec_read (k := .getFaults) h ht rfl rfl (by decide) (if_neg hin) rfl
  · have hin : ¬natAt [slot] 0 > 8 := by simp only [natAt, byteAt, List.getD_cons_zero]; omega
    exact exec_read (k := .getSnapshot) h ht rfl rfl (by decide) (if_neg hin) (body_served s fun _ _ _ => rfl)
  · have hin : ¬(SettingId.ofCode (wordAt (u16 i.code) 0)).isNone = true := by simp [settingId_ofCode_code]
    exact exec_read (k := .getSetting) h ht rfl rfl (by decide) (if_neg hin) (body_served s fun _ _ _ => rfl)

end Sys2Proof.Machine

/-! SUPPORT. The operations on one string: what they leave alone around it, what they write to its record, and what they do to its Trip rows (R1 to R14). -/

namespace Sys2Proof.Machine

/-! ## Fault rows by index -/

theorem getD_updateAt_ne {α : Type} {i j : Nat} (h : i ≠ j) (l : List α) (f : α → α) (d : α) :
    (updateAt l i f).getD j d = l.getD j d := by
  simp [updateAt, h]

theorem getD_updateAt_self {α : Type} {i : Nat} {l : List α} (h : i < l.length) (f : α → α) (d : α) :
    (updateAt l i f).getD i d = f (l.getD i d) := by
  simp [updateAt, h]

/-- Taking a slot from a row leaves its state. -/
theorem detachSlot_state (rows : List FaultRow) (k i : Nat) :
    ((detachSlot rows k).getD i .blank).state = (rows.getD i .blank).state := by
  simp only [detachSlot, List.getD_eq_getElem?_getD, List.getElem?_map]
  cases rows[i]? with
  | none => rfl
  | some r => simp only [Option.map_some, Option.getD_some]; split <;> rfl

theorem updateAt_state {rows : List FaultRow} {i : Nat} {f : FaultRow → FaultRow} (h : ∀ r, (f r).state = r.state)
    (j : Nat) :
    ((updateAt rows i f).getD j .blank).state = (rows.getD j .blank).state := by
  simp only [updateAt, List.getD_eq_getElem?_getD, List.getElem?_modify]
  cases rows[j]? with
  | none => rfl
  | some r => simp only [Option.getD_some]; split <;> simp [h]

/-- A capture writes slots, not states. -/
theorem capture_state (t : FaultTable) (i : Nat) (snap : Snapshot) (j : Nat) :
    ((capture t i snap).rows.getD j .blank).state = (t.rows.getD j .blank).state := by
  unfold capture
  split
  · exact updateAt_state (by intro _; rfl) j
  · exact (updateAt_state (by intro _; rfl) j).trans (detachSlot_state _ _ j)

/-- A raise of a row that is not Active makes it Active; every other state stays. -/
theorem raise_rows_state (c : FaultCode) (u : Nat) (s : State) (h : (rowAt s (rowOf c u)).state ≠ .active) (j : Nat) :
    (rowAt (raise c u s) j).state =
      ((updateAt s.faults.rows (rowOf c u) (enterActive s (rowOf c u))).getD j .blank).state := by
  simp only [raise, rowAt, raiseIn] at h ⊢
  rw [if_neg h]
  split
  · exact capture_state _ _ _ j
  · rfl

theorem raise_state_ne {c : FaultCode} {u j : Nat} (h : rowOf c u ≠ j) (s : State) :
    (rowAt (raise c u s) j).state = (rowAt s j).state := by
  by_cases ha : (rowAt s (rowOf c u)).state = .active
  · have hs : raise c u s = s := by simp only [raise, raiseIn, ha, if_true]
    rw [hs]
  · rw [raise_rows_state c u s ha, getD_updateAt_ne h]; rfl

theorem raise_state_self {c : FaultCode} {u : Nat} {s : State} (h : rowOf c u < s.faults.rows.length) :
    (rowAt (raise c u s) (rowOf c u)).state = .active := by
  by_cases ha : (rowAt s (rowOf c u)).state = .active
  · have hs : raise c u s = s := by simp only [raise, raiseIn, ha, if_true]
    rw [hs, ha]
  · rw [raise_rows_state c u s ha, getD_updateAt_self h]; rfl

theorem clearFault_state_ne {c : FaultCode} {u j : Nat} (h : rowOf c u ≠ j) (s : State) :
    (rowAt (clearFault c u s) j).state = (rowAt s j).state := by
  simp only [rowAt, clearFault, getD_updateAt_ne h]

/-- A row outside the table shows nothing held. -/
theorem lt_length_of_held {s : State} {i : Nat} (h : (rowAt s i).state ≠ .clear) : i < s.faults.rows.length := by
  by_contra hi
  have : rowAt s i = .blank := List.getD_eq_default _ _ (Nat.le_of_not_lt hi)
  exact h (by rw [this]; rfl)

@[simp] theorem raise_rows_length (c : FaultCode) (u : Nat) (s : State) :
    (raise c u s).faults.rows.length = s.faults.rows.length := by
  simp only [raise, raiseIn, capture]
  repeat' split
  all_goals simp [updateAt, detachSlot]

@[simp] theorem clearFault_rows_length (c : FaultCode) (u : Nat) (s : State) :
    (clearFault c u s).faults.rows.length = s.faults.rows.length := by
  simp [clearFault, updateAt]

/-! ## The Trip rows of the strings -/

theorem stringNum_bounds (k : StringId) : 1 ≤ k.num ∧ k.num ≤ 6 := by cases k <;> decide

theorem stringNum_injective {j k : StringId} (h : j.num = k.num) : j = k := by
  revert h; cases j <;> cases k <;> decide

/-- Each Trip code of the strings has six rows from a multiple of six on, up to row 35 (R151). -/
theorem tripFirstRow : ∀ c ∈ stringTrips, 6 ∣ c.firstRow ∧ c.firstRow ≤ 30 := by decide

theorem tripFirstRow_injective : ∀ c ∈ stringTrips, ∀ d ∈ stringTrips, c.firstRow = d.firstRow → c = d := by decide

/-- No two of the strings' Trip rows share an index. -/
theorem tripRow_injective {c d : FaultCode} (hc : c ∈ stringTrips) (hd : d ∈ stringTrips) {j k : StringId}
    (h : rowOf c j.num = rowOf d k.num) : c = d ∧ j = k := by
  obtain ⟨hc6, -⟩ := tripFirstRow c hc
  obtain ⟨hd6, -⟩ := tripFirstRow d hd
  have hj := stringNum_bounds j
  have hk := stringNum_bounds k
  simp only [rowOf] at h
  exact ⟨tripFirstRow_injective c hc d hd (by omega), stringNum_injective (by omega)⟩

theorem tripRow_lt {c : FaultCode} (hc : c ∈ stringTrips) (k : StringId) : rowOf c k.num < 36 := by
  obtain ⟨-, hlast⟩ := tripFirstRow c hc
  have hk := stringNum_bounds k
  simp only [rowOf]
  omega

/-! ## Around one string

What no operation on a string writes: the clock, the mode record, the grid, the thermal records, the power request, the dip
list, and the state and clamp of both loops. -/

def context (s : State) :
    Nat × ModeCtl × Grid × Thermal × PowerRequest × List DipEntry × (Liquid → LoopState × Nat) :=
  (s.clock, s.mode, s.grid, s.therm, s.conv.request, s.conv.dips,
    fun l => ((loopOf s l).state, (loopOf s l).clamp))

theorem context_loop {s t : State} (h : context t = context s) (l : Liquid) :
    (loopOf t l).state = (loopOf s l).state ∧ (loopOf t l).clamp = (loopOf s l).clamp := by
  simp only [context, Prod.mk.injEq] at h
  obtain ⟨-, -, -, -, -, -, hl⟩ := h
  have := congrFun hl l
  simpa using this

theorem context_clock {s t : State} (h : context t = context s) : t.clock = s.clock := congrArg (·.1) h
theorem context_mode {s t : State} (h : context t = context s) : t.mode = s.mode := congrArg (·.2.1) h
theorem context_grid {s t : State} (h : context t = context s) : t.grid = s.grid := congrArg (·.2.2.1) h
theorem context_therm {s t : State} (h : context t = context s) : t.therm = s.therm := congrArg (·.2.2.2.1) h
theorem context_request {s t : State} (h : context t = context s) : t.conv.request = s.conv.request :=
  congrArg (·.2.2.2.2.1) h
theorem context_dips {s t : State} (h : context t = context s) : t.conv.dips = s.conv.dips :=
  congrArg (·.2.2.2.2.2.1) h

/-- `t` shows string `k` what `s` shows it: its context, its record and the states of its Trip rows. -/
structure SameFor (k : StringId) (s t : State) : Prop where
  context : context t = context s
  record : strOf t k = strOf s k
  rows : ∀ c ∈ stringTrips, faultState t c k.num = faultState s c k.num

theorem SameFor.refl (k : StringId) (s : State) : SameFor k s s := ⟨rfl, rfl, fun _ _ => rfl⟩

theorem SameFor.trans {k : StringId} {s t u : State} (h : SameFor k s t) (h' : SameFor k t u) : SameFor k s u where
  context := h'.context.trans h.context
  record := h'.record.trans h.record
  rows c hc := (h'.rows c hc).trans (h.rows c hc)

/-- `t` is `s` after operations on string `k` alone: its context stands, and all that the other strings see. -/
structure Touches (k : StringId) (s t : State) : Prop where
  context : context t = context s
  others : ∀ j, j ≠ k → SameFor j s t

theorem Touches.refl (k : StringId) (s : State) : Touches k s s := ⟨rfl, fun _ _ => .refl _ s⟩

theorem Touches.trans {k : StringId} {s t u : State} (h : Touches k s t) (h' : Touches k t u) : Touches k s u :=
  ⟨h'.context.trans h.context, fun j hj => (h.others j hj).trans (h'.others j hj)⟩

theorem Touches.record {k : StringId} {s t : State} (h : Touches k s t) (j : StringId) (hj : j ≠ k) :
    strOf t j = strOf s j := (h.others j hj).record

/-- What holds before an operation on string `k`, and after it, holds around it in a run over all strings, where the
operations on the others keep both. -/
theorem forEach_once {P Q : State → Prop} {f : StringId → State → State} (k : StringId)
    (hP : ∀ j, j ≠ k → ∀ t, P t → P (f j t)) (hk : ∀ t, P t → Q (f k t))
    (hQ : ∀ j, j ≠ k → ∀ t, Q t → Q (f j t)) {s : State} (h : P s) : Q (forEach StringId.all f s) := by
  have run {R : State → Prop} (hR : ∀ j, j ≠ k → ∀ t, R t → R (f j t)) (l : List StringId) (hl : k ∉ l) (t : State)
      (ht : R t) : R (forEach l f t) := by
    induction l generalizing t with
    | nil => exact ht
    | cons j l ih =>
      obtain ⟨hj, hl⟩ := not_or.mp (List.mem_cons.not.mp hl)
      exact ih hl _ (hR j (Ne.symm hj) t ht)
  obtain ⟨before, after, hall, hb, ha⟩ : ∃ before after,
      StringId.all = before ++ k :: after ∧ k ∉ before ∧ k ∉ after := by
    cases k
    · exact ⟨[], _, rfl, by decide, by decide⟩
    · exact ⟨[_], _, rfl, by decide, by decide⟩
    · exact ⟨[_, _], _, rfl, by decide, by decide⟩
    · exact ⟨[_, _, _], _, rfl, by decide, by decide⟩
    · exact ⟨[_, _, _, _], _, rfl, by decide, by decide⟩
    · exact ⟨[_, _, _, _, _], _, rfl, by decide, by decide⟩
  have happend : forEach StringId.all f s = forEach after f (f k (forEach before f s)) := by
    rw [hall, forEach, List.foldl_append]; rfl
  rw [happend]
  exact run hQ after ha _ (hk _ (run hP before hb s h))

/-- In a run over all strings a string is treated in a state that shows it what the first state shows it, and keeps what
that leaves it. -/
theorem forEach_sameFor {f : StringId → State → State} (hf : ∀ j t, Touches j t (f j t)) (k : StringId) (s : State) :
    ∃ u, SameFor k s u ∧ SameFor k (f k u) (forEach StringId.all f s) := by
  refine forEach_once (P := fun t => SameFor k s t) (Q := fun t => ∃ u, SameFor k s u ∧ SameFor k (f k u) t) k ?_ ?_ ?_
    (SameFor.refl k s)
  · exact fun j hj t ht => ht.trans ((hf j t).others k hj.symm)
  · exact fun t ht => ⟨t, ht, .refl k _⟩
  · rintro j hj t ⟨u, hu, ht⟩
    exact ⟨u, hu, ht.trans ((hf j t).others k hj.symm)⟩

theorem context_forEach {α : Type} {f : α → State → State} (h : ∀ a s, context (f a s) = context s) (l : List α)
    (s : State) : context (forEach l f s) = context s := forEach_field h l s

/-- Operations that change nothing around their one string leave a run over all strings to that string. -/
theorem forEach_only {f : StringId → State → State} {k : StringId} {s : State} (hs : ∀ j, j ≠ k → f j s = s)
    (hk : ∀ j, j ≠ k → f j (f k s) = f k s) : forEach StringId.all f s = f k s := by
  refine forEach_once (P := fun t => t = s) (Q := fun t => t = f k s) k ?_ ?_ ?_ rfl
  · rintro j hj t rfl; exact hs j hj
  · rintro t rfl; rfl
  · rintro j hj t rfl; exact hk j hj

/-! ## What each operation touches -/

theorem touches_modStr (k : StringId) (f : StringRec → StringRec) (s : State) : Touches k s (modStr k f s) :=
  ⟨rfl, fun _ h => ⟨rfl, strOf_modStr_ne h f s, fun _ _ => rfl⟩⟩

theorem touches_setQueue (k : StringId) (q : List StringId) (s : State) : Touches k s (setQueue q s) :=
  ⟨rfl, fun _ _ => ⟨rfl, rfl, fun _ _ => rfl⟩⟩

theorem context_oweJudgement (l : Liquid) (s : State) : context (oweJudgement l s) = context s := by
  have h : ∀ m, (loopOf (oweJudgement l s) m).state = (loopOf s m).state ∧
      (loopOf (oweJudgement l s) m).clamp = (loopOf s m).clamp := by
    intro m; cases l <;> cases m <;> exact ⟨rfl, rfl⟩
  simp only [context, h]
  rfl

theorem touches_oweJudgement (k : StringId) (l : Liquid) (s : State) : Touches k s (oweJudgement l s) :=
  ⟨context_oweJudgement l s, fun _ _ => ⟨context_oweJudgement l s, rfl, fun _ _ => rfl⟩⟩

theorem touches_setStrState (k : StringId) (st : StrState) (s : State) : Touches k s (setStrState k st s) :=
  (touches_modStr k _ s).trans (touches_oweJudgement k _ _)

theorem touches_dequeue (k : StringId) (s : State) : Touches k s (dequeue k s) :=
  (touches_setQueue k _ s).trans (touches_oweJudgement k _ _)

theorem touches_testJoin (k : StringId) (s : State) : Touches k s (testJoin k s) := by
  unfold testJoin
  split
  · exact (touches_setQueue k _ s).trans (touches_oweJudgement k _ _)
  · exact .refl k s

theorem touches_raise {c : FaultCode} (hc : c ∈ stringTrips) (k : StringId) (s : State) : Touches k s (raise c k.num s) :=
  ⟨rfl, fun _ hj => ⟨rfl, rfl, fun _ hd =>
    raise_state_ne (fun e => hj (tripRow_injective hc hd e).2.symm) s⟩⟩

theorem touches_clearFault {c : FaultCode} (hc : c ∈ stringTrips) (k : StringId) (s : State) :
    Touches k s (clearFault c k.num s) :=
  ⟨rfl, fun _ hj => ⟨rfl, rfl, fun _ hd =>
    clearFault_state_ne (fun e => hj (tripRow_injective hc hd e).2.symm) s⟩⟩

theorem touches_stopString (b : Bool) (k : StringId) (s : State) : Touches k s (stopString b k s) :=
  (touches_modStr k _ s).trans (touches_setStrState k _ _)

theorem touches_faultString (k : StringId) (s : State) : Touches k s (faultString k s) := by
  unfold faultString
  split
  · exact .refl k s
  · exact ((touches_modStr k _ s).trans (touches_setStrState k _ _)).trans (touches_dequeue k _)

theorem touches_tripString {c : FaultCode} (hc : c ∈ stringTrips) (k : StringId) (s : State) :
    Touches k s (tripString c k s) := (touches_raise hc k s).trans (touches_faultString k _)

/-! ## The record of the string -/

@[simp] theorem strOf_dequeue (j : StringId) (s : State) (k : StringId) : strOf (dequeue j s) k = strOf s k := rfl
@[simp] theorem strOf_raise (c : FaultCode) (u : Nat) (s : State) (k : StringId) : strOf (raise c u s) k = strOf s k := rfl
@[simp] theorem strOf_clearFault (c : FaultCode) (u : Nat) (s : State) (k : StringId) :
    strOf (clearFault c u s) k = strOf s k := rfl
@[simp] theorem strOf_beginEvent (s : State) (k : StringId) : strOf (beginEvent s) k = strOf s k := rfl
@[simp] theorem strOf_finish (s : State) (k : StringId) : strOf (finish s) k = strOf s k :=
  strOf_conv (finish_conv s) k

@[simp] theorem strOf_testJoin (j : StringId) (s : State) (k : StringId) : strOf (testJoin j s) k = strOf s k := by
  unfold testJoin; split <;> rfl

@[simp] theorem strOf_setStrState_self (k : StringId) (st : StrState) (s : State) :
    strOf (setStrState k st s) k = { strOf s k with state := st } :=
  strOf_modStr_self k (fun r => { r with state := st }) s

/-- The record of a string as it enters Faulted (R5). -/
def StringRec.tripped (r : StringRec) : StringRec :=
  { r.offCircuit.blocked with
    blockedStop := none, state := .faulted, out := { r.offCircuit.blocked.out with contactorClosed := false } }

/-- The record of a string at a trip: an Isolated and a Faulted one stand (R5). -/
def StringRec.faulting (r : StringRec) : StringRec := if r.state = .isolated ∨ r.state = .faulted then r else r.tripped

theorem faulting_outside (r : StringRec) : r.faulting.outside = r.outside := by
  unfold StringRec.faulting; split <;> rfl

theorem strOf_faultString_self (k : StringId) (s : State) : strOf (faultString k s) k = (strOf s k).faulting := by
  unfold faultString StringRec.faulting
  split
  · rfl
  · rw [strOf_dequeue, strOf_setStrState_self, strOf_modStr_self]; rfl

theorem strOf_tripString_self (c : FaultCode) (k : StringId) (s : State) :
    strOf (tripString c k s) k = (strOf s k).faulting := strOf_faultString_self k _

/-! ## The queue -/

@[simp] theorem modStr_queue (k : StringId) (f : StringRec → StringRec) (s : State) :
    (modStr k f s).conv.queue = s.conv.queue := rfl

theorem testJoin_queue (k : StringId) (s : State) :
    (testJoin k s).conv.queue = if mayJoin s k then s.conv.queue ++ [k] else s.conv.queue := by
  unfold testJoin; split <;> rfl

/-! ## Outside one record -/

theorem outside_strOf {s t : State} (h : outside t = outside s) (k : StringId) :
    (strOf t k).outside = (strOf s k).outside := by
  have hs : (outside t).conv.strings.get k = (outside s).conv.strings.get k := by rw [h]
  cases k <;> exact hs

/-- A field that `outside` shows. -/
theorem outside_field {β : Type} {f : State → β} (hf : ∀ s, f (outside s) = f s) {s t : State}
    (h : outside t = outside s) : f t = f s := by
  rw [← hf t, ← hf s, h]

/-- The state of a row that no reaction moves shows outside. -/
theorem outside_rowState {s t : State} (h : outside t = outside s) {i : Nat} (hi : reactiveRow i = false) :
    (rowAt t i).state = (rowAt s i).state := by
  have hrows : t.faults.rows.mapIdx rowOutside = s.faults.rows.mapIdx rowOutside :=
    congrArg (fun u : State => u.faults.rows) h
  have hrow : (t.faults.rows[i]?).map (rowOutside i) = (s.faults.rows[i]?).map (rowOutside i) := by
    rw [← List.getElem?_mapIdx, ← List.getElem?_mapIdx, hrows]
  simp only [rowAt, List.getD_eq_getElem?_getD]
  cases ht : t.faults.rows[i]? <;> cases hs : s.faults.rows[i]? <;> simp only [ht, hs, Option.map_some, Option.map_none] at hrow
  · rfl
  · cases hrow
  · cases hrow
  · simpa [rowOutside, hi] using congrArg FaultRow.state (Option.some.inj hrow)

theorem tripRow_not_reactive {c : FaultCode} (hc : c ∈ stringTrips) (k : StringId) :
    reactiveRow (rowOf c k.num) = false := by
  have := tripRow_lt hc k
  simp [reactiveRow]
  omega

/-- A string's Trip row as its own operation leaves it stands through the reactions and the end of the event. -/
theorem outside_isActive {s t : State} (h : outside t = outside s) {c : FaultCode} (hc : c ∈ stringTrips) (k : StringId) :
    isActive t c k.num = isActive s c k.num := by
  have hrow : faultState t c k.num = faultState s c k.num := outside_rowState h (tripRow_not_reactive hc k)
  exact congrArg (fun x : RowState => decide (x = .active)) hrow

end Sys2Proof.Machine

/-! SUPPORT. The converter's two requests: the numbers of a SetPower body, the record that SetStringEnable leaves, and the reply over it (R7, R14, R15). -/

namespace Sys2Proof.Machine

/-! ## The state a request is served in -/

theorem served_conv (s : State) : (served s).conv = s.conv := by unfold served supervisionReload; split <;> rfl
theorem served_cool (s : State) : (served s).cool = s.cool := by unfold served supervisionReload; split <;> rfl
theorem served_current (s : State) : (served s).mode.current = s.mode.current := by
  unfold served supervisionReload; split <;> rfl
theorem served_target (s : State) : (served s).mode.target = s.mode.target := by
  unfold served supervisionReload; split <;> rfl
theorem served_owner (s : State) : (served s).mode.owner = s.mode.owner := by
  unfold served supervisionReload; split <;> rfl

theorem served_loop (s : State) (l : Liquid) : loopOf (served s) l = loopOf s l := by
  cases l <;> simp only [loopOf, served_cool]

theorem notRemote_served {s : State} (h : HostReady s) : notRemote (served s) = false := by
  simp [notRemote, served_owner, h.2]

/-! ## A reply over a state known outside -/

theorem mapIdx_clearRow_congr {rows rows' : List FaultRow} (h : rows.mapIdx rowOutside = rows'.mapIdx rowOutside)
    (i : Nat) (b : Bool) :
    (updateAt rows i (clearRow b)).mapIdx rowOutside = (updateAt rows' i (clearRow b)).mapIdx rowOutside := by
  have hclear (r : FaultRow) (n : Nat) : rowOutside n (clearRow b r) = rowOutside n (clearRow b (rowOutside n r)) := by
    by_cases hn : reactiveRow n = true
    · simp [rowOutside, hn]
    · by_cases ha : r.state = .active <;> cases hk : r.ack <;> simp [rowOutside, hn, clearRow, ha, hk]
  have hentry (l : List FaultRow) (n : Nat) : ((updateAt l i (clearRow b)).mapIdx rowOutside)[n]? =
      ((l.mapIdx rowOutside)[n]?).map fun r => if i = n then rowOutside n (clearRow b r) else r := by
    simp only [updateAt, List.getElem?_mapIdx, List.getElem?_modify]
    cases l[n]? with
    | none => rfl
    | some r =>
      by_cases e : i = n
      · simp [e, hclear r n]
      · simp [e]
  apply List.ext_getElem?
  intro n
  rw [hentry, hentry, h]

/-- A clear of a row shows outside as it would over any state that agrees outside. -/
theorem outside_clearFault_faults {s t : State} (h : outside t = outside s) (c : FaultCode) (u : Nat) :
    (clearFault c u t).faults.outside = (clearFault c u s).faults.outside := by
  have hfaults : t.faults.outside = s.faults.outside := congrArg State.faults h
  obtain ⟨hrows, hslots, hcapture⟩ := FaultTable.mk.inj hfaults
  have hclass : classOf t c = classOf s c := by
    simp only [classOf, outside_field (f := State.store) (fun _ => rfl) h]
  simp only [FaultTable.outside, clearFault, hclass, mapIdx_clearRow_congr hrows, hslots, hcapture]

/-- What a reply writes: the seen flags, and the row of a reported overrun. -/
theorem replied_eq (s : State) :
    replied s = { s with
      link := { s.link with overrunSeen := false, badSeen := false }
      faults := if s.link.overrunSeen then (clearFault .linkOverrun 1 s).faults else s.faults } := by
  simp only [replied]
  split <;> rfl

/-- A reply shows outside as it would over any state that agrees outside. -/
theorem outside_replied {s t : State} (h : outside t = outside s) : outside (replied t) = outside (replied s) := by
  have hseen : t.link.overrunSeen = s.link.overrunSeen := outside_field (f := fun u => u.link.overrunSeen) (fun _ => rfl) h
  have hfaults : (if t.link.overrunSeen then (clearFault .linkOverrun 1 t).faults else t.faults).outside =
      (if s.link.overrunSeen then (clearFault .linkOverrun 1 s).faults else s.faults).outside := by
    rw [hseen]
    split
    · exact outside_clearFault_faults h _ _
    · exact congrArg State.faults h
  have hout (u : State) : outside (replied u) = { outside u with
      link := { (outside u).link with overrunSeen := false, badSeen := false }
      faults := (if u.link.overrunSeen then (clearFault .linkOverrun 1 u).faults else u.faults).outside } := by
    rw [replied_eq]; rfl
  rw [hout, hout, h, hfaults]

/-! ## SetPower (R15) -/

theorem append_halves (x : BitVec 16) : x.extractLsb' 8 8 ++ x.extractLsb' 0 8 = x := by
  apply BitVec.eq_of_getLsbD_eq
  intro i hi
  simp only [BitVec.getLsbD_append, BitVec.getLsbD_extractLsb']
  by_cases h : i < 8
  · simp [h]
  · have hsub : 8 + (i - 8) = i := by omega
    simp [h, hsub]
    omega

/-- The four numbers of a SetPower body. -/
theorem numbers_of_pairs (p q a b : BitVec 16) :
    let body := pair p ++ pair q ++ pair a ++ pair b
    wordAt body 0 = p.toNat ∧ intAt body 2 = q.toInt ∧ wordAt body 4 = a.toNat ∧ wordAt body 6 = b.toNat :=
  ⟨congrArg BitVec.toNat (append_halves p), congrArg BitVec.toInt (append_halves q),
    congrArg BitVec.toNat (append_halves a), congrArg BitVec.toNat (append_halves b)⟩

/-- The four numbers of a SetPower body, clamped. -/
theorem requestOf_pairs (p q a b : BitVec 16) :
    requestOf (pair p ++ pair q ++ pair a ++ pair b) =
      ⟨max 0 (min (p.toNat : Int) 15000), max (-7000) (min q.toInt 7000),
        max 1 (min a.toNat 1500), max 1 (min b.toNat 7000)⟩ := by
  obtain ⟨hp, hq, ha, hb⟩ := numbers_of_pairs p q a b
  simp only [requestOf, hp, hq, ha, hb]
  rfl

/-- The status of a SetPower: clamped where a number lies out of its range. -/
def powerStatus (p q a b : BitVec 16) : Status :=
  if p.toNat ≤ 15000 ∧ -7000 ≤ q.toInt ∧ q.toInt ≤ 7000 ∧ 1 ≤ a.toNat ∧ a.toNat ≤ 1500 ∧ 1 ≤ b.toNat ∧ b.toNat ≤ 7000
  then .ok else .okClamped

theorem serve_setPower {s : State} (h : notRemote s = false) (p q a b : BitVec 16) :
    serve .setPower (pair p ++ pair q ++ pair a ++ pair b) s =
      (powerStatus p q a b, { s with conv := { s.conv with
        request := requestOf (pair p ++ pair q ++ pair a ++ pair b) } }) := by
  obtain ⟨hp, hq, ha, hb⟩ := numbers_of_pairs p q a b
  simp only [serve, serveSetPower, h, hp, hq, ha, hb, requestOf_pairs, Bool.false_eq_true, if_false, powerStatus,
    clampedIf, Prod.mk.injEq, and_true, Bool.or_eq_true, decide_eq_true_eq]
  refine (if_congr ?_ rfl rfl).trans (ite_not _ _ _)
  omega

theorem setPower_answered {s : State} {tag : Byte} (h : HostReady s) (ht : tag ≠ 0) (p q a b : BitVec 16) :
    ∃ t, exec (.setPower tag (pair p ++ pair q ++ pair a ++ pair b)) s = .next t ∧
      t.conv.request = requestOf (pair p ++ pair q ++ pair a ++ pair b) ∧
      Answered s t 0xA0 tag (powerStatus p q a b) [] ∧
      Quiet (replied { served s with conv := { s.conv with request := t.conv.request } }) t := by
  obtain ⟨hans, hquiet⟩ := request_answered (k := .setPower)
    (f := ⟨Kind.setPower.code, tag, pair p ++ pair q ++ pair a ++ pair b⟩) h.1 rfl rfl ht (by decide)
    (serve_setPower (notRemote_served h) p q a b)
  rw [served_conv] at hquiet
  have hreq := congrArg Converter.request hquiet.2.1
  simp only [replied_eq] at hreq
  refine ⟨_, rfl, hreq, ?_, hreq ▸ hquiet⟩
  have hbody : ∀ st x y, replyBody .setPower x st (served s) y = [] := by
    intro st x y; cases st <;> rfl
  simp only [hbody] at hans
  exact hans

/-! ## SetStringEnable (R14) -/

theorem mayJoin_iff (s : State) (k : StringId) :
    mayJoin s k = true ↔ (strOf s k).state = .offline ∧ (s.mode.current = .idle ∨ s.mode.current = .generating) ∧
      s.mode.target ≠ some .parked ∧ s.mode.target ≠ some .storm ∧ (strOf s k).enabled = true ∧
      k ∉ s.conv.queue ∧ (loopOf s k.loop).state ≠ .failed := by
  simp [mayJoin, and_assoc]

/-- The string record that turning the string off leaves. -/
def StringRec.turnedOff (r : StringRec) : StringRec :=
  let t : StringRec := match r.state with
    | .running | .derated => { r.offCircuit with isolateOnEnd := true, blockedStop := some false, state := .stopping }
    | .stopping | .faulted => { r with isolateOnEnd := true }
    | .ready | .precharging => { r.opened with state := .isolated }
    | .offline => { r with state := .isolated }
    | .isolated => r
  { t with enabled := false }

/-- The string record that turning the string on leaves. -/
def StringRec.turnedOn (r : StringRec) : StringRec :=
  let t : StringRec := match r.state with
    | .isolated => { r with state := .offline }
    | .stopping | .faulted => { r with isolateOnEnd := false }
    | .offline | .precharging | .ready | .running | .derated => r
  { t with enabled := true }

theorem strOf_disableString_self (k : StringId) (s : State) :
    strOf (disableString k s) k = (strOf s k).turnedOff := by
  unfold disableString StringRec.turnedOff
  cases h : (strOf s k).state <;>
    simp only [stopString, strOf_modStr_self, strOf_setStrState_self, strOf_dequeue, h] <;> rfl

theorem touches_disableString (k : StringId) (s : State) : Touches k s (disableString k s) := by
  unfold disableString
  refine Touches.trans ?_ (touches_modStr k _ _)
  split
  · exact (touches_modStr k _ s).trans (touches_stopString false k _)
  · exact (touches_modStr k _ s).trans (touches_stopString false k _)
  · exact touches_modStr k _ s
  · exact touches_modStr k _ s
  · exact (touches_modStr k _ s).trans (touches_setStrState k _ _)
  · exact (touches_modStr k _ s).trans (touches_setStrState k _ _)
  · exact (touches_setStrState k _ s).trans (touches_dequeue k _)
  · exact .refl k s

/-- Turning a string off takes an Offline one out of the queue. -/
theorem disableString_queue (k : StringId) (s : State) :
    (disableString k s).conv.queue =
      if (strOf s k).state = .offline then s.conv.queue.filter (· ≠ k) else s.conv.queue := by
  unfold disableString
  cases h : (strOf s k).state <;> rfl

/-- The state in which a string turned on tests R7. -/
def beforeJoin (k : StringId) (s : State) : State :=
  let t := modStr k (fun r => { r with enabled := true }) s
  match (strOf s k).state with
  | .isolated => setStrState k .offline t
  | .stopping | .faulted => modStr k (fun r => { r with isolateOnEnd := false }) t
  | .offline | .precharging | .ready | .running | .derated => t

theorem enableString_eq (k : StringId) (s : State) : enableString k s = testJoin k (beforeJoin k s) := by
  unfold enableString beforeJoin
  rfl

theorem strOf_beforeJoin_self (k : StringId) (s : State) : strOf (beforeJoin k s) k = (strOf s k).turnedOn := by
  unfold beforeJoin StringRec.turnedOn
  cases h : (strOf s k).state <;> simp only [strOf_modStr_self, strOf_setStrState_self, h]

theorem touches_beforeJoin (k : StringId) (s : State) : Touches k s (beforeJoin k s) := by
  unfold beforeJoin
  simp only
  split
  · exact (touches_modStr k _ s).trans (touches_setStrState k _ _)
  · exact (touches_modStr k _ s).trans (touches_modStr k _ _)
  · exact (touches_modStr k _ s).trans (touches_modStr k _ _)
  all_goals exact touches_modStr k _ s

theorem beforeJoin_queue (k : StringId) (s : State) : (beforeJoin k s).conv.queue = s.conv.queue := by
  unfold beforeJoin
  cases h : (strOf s k).state <;> rfl

/-- Turning a string on makes it join the queue where it is then Offline and R7 lets it. -/
theorem enableString_queue (k : StringId) (s : State) :
    (enableString k s).conv.queue =
      if ((strOf s k).state = .offline ∨ (strOf s k).state = .isolated) ∧
          k ∉ s.conv.queue ∧ (s.mode.current = .idle ∨ s.mode.current = .generating) ∧
          s.mode.target ≠ some .parked ∧ s.mode.target ≠ some .storm ∧ (loopOf s k.loop).state ≠ .failed
      then s.conv.queue ++ [k] else s.conv.queue := by
  have hoff : (strOf s k).turnedOn.state = .offline ↔ (strOf s k).state = .offline ∨ (strOf s k).state = .isolated := by
    unfold StringRec.turnedOn
    cases h : (strOf s k).state <;> simp [h]
  have hon : (strOf s k).turnedOn.enabled = true := rfl
  have hc := (touches_beforeJoin k s).context
  rw [enableString_eq, testJoin_queue, beforeJoin_queue]
  refine if_congr ?_ rfl rfl
  rw [mayJoin_iff, strOf_beforeJoin_self, context_mode hc, beforeJoin_queue, (context_loop hc k.loop).1, hoff]
  tauto

/-! ### Outside -/

/-- `beside s` with one string's record blanked too. -/
def besideBut (k : StringId) (s : State) : State := modStr k (fun _ => StringRec.atStart) (beside s)

theorem besideBut_modStr (k : StringId) (f : StringRec → StringRec) (s : State) :
    besideBut k (modStr k f s) = besideBut k s := by cases k <;> rfl

theorem besideBut_of_beside {s t : State} (h : beside t = beside s) (k : StringId) : besideBut k t = besideBut k s := by
  simp only [besideBut, h]

/-- What changes one record alone is, outside, that change. -/
theorem beside_eq_modStr {k : StringId} {f : StringRec → StringRec} {s t : State} (h : besideBut k t = besideBut k s)
    (hr : (strOf t k).outside = (f (strOf s k)).outside) : beside t = beside (modStr k f s) := by
  have hput (u : State) : beside u = modStr k (fun _ => (strOf u k).outside) (besideBut k u) := by cases k <;> rfl
  rw [hput t, hput (modStr k f s), h, besideBut_modStr, strOf_modStr_self, hr]

/-- The enabled field and the Isolated-on-end mark as SetStringEnable writes them. -/
def StringRec.enabledAs (on : Bool) (r : StringRec) : StringRec :=
  { r with
    enabled := on
    isolateOnEnd :=
      match r.state with
      | .stopping | .faulted => !on
      | .running | .derated => r.isolateOnEnd || !on
      | .offline | .precharging | .ready | .isolated => r.isolateOnEnd }

theorem turnedOff_outside (r : StringRec) : r.turnedOff.outside = (r.enabledAs false).outside := by
  unfold StringRec.turnedOff StringRec.enabledAs
  cases h : r.state <;> simp [StringRec.outside, StringRec.opened, StringRec.offCircuit]

theorem turnedOn_outside (r : StringRec) : r.turnedOn.outside = (r.enabledAs true).outside := by
  unfold StringRec.turnedOn StringRec.enabledAs
  cases h : r.state <;> simp [StringRec.outside]

theorem beside_disableString (k : StringId) (s : State) :
    beside (disableString k s) = beside (modStr k (·.enabledAs false) s) := by
  refine beside_eq_modStr ?_ (by rw [strOf_disableString_self, turnedOff_outside])
  unfold disableString
  rw [besideBut_modStr]
  split
  · exact (besideBut_of_beside (beside_stopString _ _ _) k).trans (besideBut_modStr k _ s)
  · exact (besideBut_of_beside (beside_stopString _ _ _) k).trans (besideBut_modStr k _ s)
  · exact besideBut_modStr k _ s
  · exact besideBut_modStr k _ s
  · exact (besideBut_of_beside (beside_setStrState _ _ _) k).trans (besideBut_modStr k _ s)
  · exact (besideBut_of_beside (beside_setStrState _ _ _) k).trans (besideBut_modStr k _ s)
  · exact besideBut_of_beside ((beside_oweJudgement _ _).trans (beside_setStrState k _ s)) k
  · rfl

theorem beside_enableString (k : StringId) (s : State) :
    beside (enableString k s) = beside (modStr k (·.enabledAs true) s) := by
  rw [enableString_eq, beside_testJoin]
  refine beside_eq_modStr ?_ (by rw [strOf_beforeJoin_self, turnedOn_outside])
  unfold beforeJoin
  simp only
  split
  · exact (besideBut_of_beside (beside_setStrState _ _ _) k).trans (besideBut_modStr k _ s)
  · exact (besideBut_modStr k _ _).trans (besideBut_modStr k _ s)
  · exact (besideBut_modStr k _ _).trans (besideBut_modStr k _ s)
  all_goals exact besideBut_modStr k _ s

/-! ### The request -/

/-- The string turned on or off. -/
def turnString (on : Bool) (k : StringId) (s : State) : State := if on then enableString k s else disableString k s

theorem serve_setStringEnable {s : State} (h : notRemote s = false) (k : StringId) (on : Bool) :
    serve .setStringEnable (u8 k.num ++ u8 (bit on)) s = (.ok, settle (turnString on k s)) := by
  have hk : StringId.ofNum (natAt (u8 k.num ++ u8 (bit on)) 0) = some k := by cases k <;> rfl
  have hon : flagOf (byteAt (u8 k.num ++ u8 (bit on)) 1) = on := by cases on <;> rfl
  simp only [serve, serveSetStringEnable, h, hk, hon, accept, turnString, Bool.false_eq_true, if_false]

theorem beside_turnString (on : Bool) (k : StringId) (s : State) :
    beside (turnString on k s) = beside (modStr k (·.enabledAs on) s) := by
  cases on
  · exact beside_disableString k s
  · exact beside_enableString k s

theorem strOf_turnString_self (on : Bool) (k : StringId) (s : State) :
    strOf (turnString on k s) k = if on then (strOf s k).turnedOn else (strOf s k).turnedOff := by
  cases on
  · exact strOf_disableString_self k s
  · simp only [turnString, if_true, enableString_eq, strOf_testJoin, strOf_beforeJoin_self]

theorem touches_turnString (on : Bool) (k : StringId) (s : State) : Touches k s (turnString on k s) := by
  cases on
  · exact touches_disableString k s
  · simp only [turnString, if_true, enableString_eq]
    exact (touches_beforeJoin k s).trans (touches_testJoin k _)

theorem setStringEnable_answered {s : State} {tag : Byte} (h : HostReady s) (ht : tag ≠ 0) (k : StringId) (on : Bool) :
    ∃ t, exec (.setStringEnable tag (u8 k.num ++ u8 (bit on))) s = .next t ∧ Answered s t 0xA1 tag .ok [] ∧
      (strOf t k).enabled = on ∧ Beyond (replied (modStr k (·.enabledAs on) (served s))) t := by
  obtain ⟨hans, hquiet⟩ := request_answered (k := .setStringEnable)
    (f := ⟨Kind.setStringEnable.code, tag, u8 k.num ++ u8 (bit on)⟩) h.1 rfl rfl ht (by decide)
    (serve_setStringEnable (notRemote_served h) k on)
  have hbeyond : Beyond (replied (modStr k (·.enabledAs on) (served s)))
      (request ⟨Kind.setStringEnable.code, tag, u8 k.num ++ u8 (bit on)⟩ s) :=
    hquiet.1.trans (outside_replied ((outside_settle _).trans (outside_of_beside (beside_turnString on k _))))
  have hrec := outside_strOf hbeyond k
  have hconv : strOf (replied (modStr k (·.enabledAs on) (served s))) k = (strOf (served s) k).enabledAs on := by
    rw [replied_eq]; exact strOf_modStr_self k _ _
  rw [hconv] at hrec
  exact ⟨_, rfl, hans, congrArg StringRec.enabled hrec, hbeyond⟩

/-- Settles O11: the requests are answered over their blocks' effect, and the record of a string turned on or off is read off its
eight states. -/
theorem converterRequestsAct : Obligations.ConverterRequestsAct := by
  unfold Obligations.ConverterRequestsAct
  intro s tag h ht
  refine ⟨fun p q a b => ?_, fun k on => ?_⟩
  · obtain ⟨t, hx, hreq, hans, hquiet⟩ := setPower_answered h ht p q a b
    exact ⟨t, hx, hreq.trans (requestOf_pairs p q a b), hans, hquiet⟩
  · obtain ⟨t, hx, hans, hen, hbeyond⟩ := setStringEnable_answered h ht k on
    refine ⟨t, hx, hans, hen, hbeyond, turnString on k (served s), serve_setStringEnable (notRemote_served h) k on, ?_⟩
    have hserved : ∀ j, strOf (served s) j = strOf s j := strOf_conv (served_conv s)
    have hqueue : (served s).conv.queue = s.conv.queue := congrArg Converter.queue (served_conv s)
    rw [strOf_turnString_self, hserved]
    refine ⟨?_, ?_, ?_, fun j hj => ((touches_turnString on k _).record j hj).trans (hserved j), ?_⟩
    · cases on <;> cases hst : (strOf s k).state <;> simp [StringRec.turnedOn, StringRec.turnedOff, hst]
    · rintro rfl (hst | hst) <;> simp [StringRec.turnedOff, StringRec.opened, StringRec.offCircuit, hst]
    · rintro rfl (hst | hst) <;> simp [StringRec.turnedOff, hst]
    · cases on
      · rw [turnString, if_neg (by decide), disableString_queue, hserved, hqueue]
        cases hst : (strOf s k).state <;> simp
      · rw [turnString, if_pos rfl, enableString_queue, hserved, hqueue, served_current, served_target, served_loop]
        cases hst : (strOf s k).state <;> simp

end Sys2Proof.Machine

/-! SUPPORT. String reports, the precharge timer and the precharge itself: what each test does to its string's record, queue and Trip rows (R2, R5, R8 to R10). -/

namespace Sys2Proof.Machine

/-! ## Trips -/

/-- A string that a trip takes to Faulted and out of the queue: not Isolated, and not Faulted in the queue. -/
def MayTrip (k : StringId) (s : State) : Prop :=
  (strOf s k).state ≠ .isolated ∧ ((strOf s k).state = .faulted → k ∉ s.conv.queue)

theorem Stays.mayTrip {k : StringId} {s : State} (h : Stays k s) : MayTrip k s :=
  ⟨by rw [h.1]; decide, fun _ => h.2⟩

theorem stays_tripString {k : StringId} {s : State} (h : MayTrip k s) (c : FaultCode) : Stays k (tripString c k s) := by
  by_cases hf : (strOf s k).state = .faulted
  · have hs : tripString c k s = raise c k.num s := by
      simp only [tripString, faultString, strOf_raise, hf, or_true, if_true]
    rw [hs]
    exact ⟨hf, h.2 hf⟩
  · exact stays_faultString (s := raise c k.num s) h.1 hf

theorem faultString_faults (k : StringId) (s : State) : (faultString k s).faults = s.faults := by
  unfold faultString; split <;> rfl

@[simp] theorem tripString_rows_length (c : FaultCode) (k : StringId) (s : State) :
    (tripString c k s).faults.rows.length = s.faults.rows.length := by
  rw [tripString, faultString_faults, raise_rows_length]

theorem faultState_tripString (c : FaultCode) (k : StringId) (s : State) (d : FaultCode) :
    faultState (tripString c k s) d k.num = faultState (raise c k.num s) d k.num := by
  simp only [faultState, rowAt, tripString, faultString_faults]

theorem isActive_iff {s : State} {c : FaultCode} {u : Nat} : isActive s c u = true ↔ faultState s c u = .active := by
  simp [isActive]

/-- A trip makes its row Active. -/
theorem active_tripString {c : FaultCode} (hc : c ∈ stringTrips) (k : StringId) {s : State}
    (hl : s.faults.rows.length = 79) : faultState (tripString c k s) c k.num = .active := by
  rw [faultState_tripString]
  have := tripRow_lt hc k
  exact raise_state_self (by omega)

/-- A trip leaves the string's other Trip rows as they are. -/
theorem faultState_tripString_ne {c d : FaultCode} (hc : c ∈ stringTrips) (hd : d ∈ stringTrips) (h : c ≠ d)
    (k : StringId) (s : State) : faultState (tripString c k s) d k.num = faultState s d k.num := by
  rw [faultState_tripString]
  exact raise_state_ne (fun e => h (tripRow_injective hc hd e).1) s

theorem faultState_clearFault_ne {c d : FaultCode} (hc : c ∈ stringTrips) (hd : d ∈ stringTrips) (h : c ≠ d)
    (k : StringId) (s : State) : faultState (clearFault c k.num s) d k.num = faultState s d k.num :=
  clearFault_state_ne (fun e => h (tripRow_injective hc hd e).1) s

/-! ## The current test -/

/-- The record with its overcurrent run counted (R2). -/
def StringRec.ranged (current : Nat) (r : StringRec) : StringRec :=
  { r with overrange := if current > 600 then min 3 (r.overrange + 1) else 0 }

/-- The current test trips on a third overcurrent in a row, and else counts or ends the run. -/
theorem testCurrent_cases (k : StringId) (current : Nat) (s : State) :
    (current > 600 ∧ (strOf s k).overrange ≥ 2 ∧
      testCurrent k current s = tripString .strOc k (modStr k (·.ranged current) s)) ∨
    (¬(current > 600 ∧ (strOf s k).overrange ≥ 2) ∧
      (testCurrent k current s = modStr k (·.ranged current) s ∨
       testCurrent k current s = clearFault .strOc k.num (modStr k (·.ranged current) s))) := by
  unfold testCurrent
  simp only [strOf_modStr_self]
  by_cases hi : current > 600
  · have hr : (fun r : StringRec => { r with overrange := min 3 (r.overrange + 1) }) = (·.ranged current) := by
      funext r; simp only [StringRec.ranged, hi, if_true]
    simp only [hi, if_true, hr]
    by_cases ho : (strOf s k).overrange ≥ 2
    · have h3 : min 3 ((strOf s k).overrange + 1) = 3 := by omega
      exact .inl ⟨trivial, ho, by rw [if_pos h3]⟩
    · have h3 : ¬min 3 ((strOf s k).overrange + 1) = 3 := by omega
      exact .inr ⟨by simp [ho], .inl (if_neg h3)⟩
  · have hr : (fun r : StringRec => { r with overrange := 0 }) = (·.ranged current) := by
      funext r; simp only [StringRec.ranged, hi, if_false]
    simp only [hi, if_false, hr, false_and, not_false_eq_true, true_and, or_true]

theorem testDcLink_cases (k : StringId) (s : State) :
    ((strOf s k).uDc > 6210 ∧ testDcLink k s = tripString .strDclinkOv k s) ∨
    ((strOf s k).uDc ≤ 6210 ∧ (testDcLink k s = s ∨ testDcLink k s = clearFault .strDclinkOv k.num s)) := by
  unfold testDcLink
  split
  · next h => exact .inl ⟨h, rfl⟩
  · next h => refine .inr ⟨Nat.le_of_not_lt h, ?_⟩; split <;> simp

theorem mem_strOc : FaultCode.strOc ∈ stringTrips := by decide
theorem mem_strDclinkOv : FaultCode.strDclinkOv ∈ stringTrips := by decide
theorem mem_strGate : FaultCode.strGate ∈ stringTrips := by decide
theorem mem_strPrecharge : FaultCode.strPrecharge ∈ stringTrips := by decide

/-! ## Each test as an operation on its string -/

/-- `t` is `s` after a test of string `k`: it touches that string alone, leaves outside what `out` says of its record, keeps the
table's size, and keeps a string that has tripped, or that a trip would take out of the queue, as it is. -/
structure Tests (k : StringId) (out : StringRec → StringRec) (s t : State) : Prop where
  touches : Touches k s t
  outside : (strOf t k).outside = (out (strOf s k)).outside
  length : t.faults.rows.length = s.faults.rows.length
  stays : Stays k s → Stays k t
  mayTrip : MayTrip k s → MayTrip k t

theorem tests_tripString {c : FaultCode} (hc : c ∈ stringTrips) (k : StringId) (s : State) :
    Tests k id s (tripString c k s) where
  touches := touches_tripString hc k s
  outside := by rw [strOf_tripString_self, faulting_outside]; rfl
  length := tripString_rows_length c k s
  stays h := stays_tripString h.mayTrip c
  mayTrip h := (stays_tripString h c).mayTrip

theorem tests_clearFault {c : FaultCode} (hc : c ∈ stringTrips) (k : StringId) (s : State) :
    Tests k id s (clearFault c k.num s) where
  touches := touches_clearFault hc k s
  outside := rfl
  length := clearFault_rows_length c k.num s
  stays h := h
  mayTrip h := h

theorem tests_refl (k : StringId) (s : State) : Tests k id s s := ⟨.refl k s, rfl, rfl, id, id⟩

theorem tests_modStr {f : StringRec → StringRec} (hf : ∀ r, (f r).state = r.state) (k : StringId) (s : State) :
    Tests k f s (modStr k f s) where
  touches := touches_modStr k f s
  outside := by rw [strOf_modStr_self]
  length := rfl
  stays h := stays_modStr h fun _ => (hf _).trans h.1
  mayTrip h := by simpa only [MayTrip, strOf_modStr_self, hf, modStr_queue] using h

theorem Tests.then {k : StringId} {out : StringRec → StringRec} {s t u : State} (h : Tests k out s t)
    (h' : Tests k id t u) : Tests k out s u where
  touches := h.touches.trans h'.touches
  outside := h'.outside.trans h.outside
  length := h'.length.trans h.length
  stays x := h'.stays (h.stays x)
  mayTrip x := h'.mayTrip (h.mayTrip x)

theorem tests_testCurrent (k : StringId) (current : Nat) (s : State) :
    Tests k (·.ranged current) s (testCurrent k current s) := by
  have hm : Tests k (·.ranged current) s (modStr k (·.ranged current) s) :=
    tests_modStr (f := (·.ranged current)) (fun _ => rfl) k s
  rcases testCurrent_cases k current s with ⟨-, -, h⟩ | ⟨-, h | h⟩ <;> rw [h]
  · exact hm.then (tests_tripString mem_strOc k _)
  · exact hm
  · exact hm.then (tests_clearFault mem_strOc k _)

theorem tests_testDcLink (k : StringId) (s : State) : Tests k id s (testDcLink k s) := by
  rcases testDcLink_cases k s with ⟨-, h⟩ | ⟨-, h | h⟩ <;> rw [h]
  · exact tests_tripString mem_strDclinkOv k s
  · exact tests_refl k s
  · exact tests_clearFault mem_strDclinkOv k s

theorem tests_testGate (k : StringId) (bad : Bool) (s : State) : Tests k id s (testGate k bad s) := by
  cases bad
  · exact tests_clearFault mem_strGate k s
  · exact tests_tripString mem_strGate k s

/-- The record of a string that has charged (R9). -/
def StringRec.charged (r : StringRec) : StringRec :=
  { r.offCircuit with out := { r.offCircuit.out with contactorClosed := true }, state := .ready }

/-- A string that charges, and whose report shows the voltage reached (R9). -/
def Charged (r : StringRec) : Prop :=
  r.state = .precharging ∧ r.phase = some .charging ∧ r.precharge.isSome = true ∧ r.uDc ≥ 4860

theorem chargeSuccess_of_charged {k : StringId} {s : State} (h : Charged (strOf s k)) :
    chargeSuccess k s = setStrState k .ready (modStr k (fun r =>
      { r.offCircuit with out := { r.offCircuit.out with contactorClosed := true } }) s) := by
  obtain ⟨hst, hph, hpc, hu⟩ := h
  simp [chargeSuccess, isPrecharging, hst, hph, hpc, hu]

theorem chargeSuccess_of_not {k : StringId} {s : State} (h : ¬Charged (strOf s k)) : chargeSuccess k s = s := by
  refine if_neg fun hc => h ?_
  simpa [isPrecharging, Charged, and_assoc] using hc

theorem strOf_chargeSuccess_self {k : StringId} {s : State} (h : Charged (strOf s k)) :
    strOf (chargeSuccess k s) k = (strOf s k).charged := by
  rw [chargeSuccess_of_charged h, strOf_setStrState_self, strOf_modStr_self]; rfl

theorem faultState_chargeSuccess (k : StringId) (s : State) (c : FaultCode) (u : Nat) :
    faultState (chargeSuccess k s) c u = faultState s c u := by
  unfold chargeSuccess; split <;> rfl

theorem tests_chargeSuccess (k : StringId) (s : State) : Tests k id s (chargeSuccess k s) := by
  by_cases h : Charged (strOf s k)
  · have hne : (strOf s k).state ≠ .faulted := by rw [h.1]; decide
    refine ⟨?_, ?_, ?_, fun hs => absurd hs.1 hne, fun _ => ⟨?_, ?_⟩⟩
    · rw [chargeSuccess_of_charged h]; exact (touches_modStr k _ s).trans (touches_setStrState k _ _)
    · rw [strOf_chargeSuccess_self h]; rfl
    · rw [chargeSuccess_of_charged h]; rfl
    · rw [strOf_chargeSuccess_self h]; exact StrState.noConfusion
    · rw [strOf_chargeSuccess_self h]; exact StrState.noConfusion
  · rw [chargeSuccess_of_not h]; exact tests_refl k s

/-! ## A report (R2) -/

/-- The record as a report measures it. -/
def StringRec.measured (current uDc : Nat) (r : StringRec) : StringRec :=
  { r with iMeas := min current 600, uDc := min uDc 8000, silence := 0, reported := true }

/-- The tests of a report, in order. -/
def afterTests (k : StringId) (current uDc : Nat) (bad : Bool) (s : State) : State :=
  testGate k bad (testDcLink k (testCurrent k current (modStr k (·.measured current uDc) s)))

theorem takeReport_eq {k : StringId} {s : State} (h : (strOf s k).state ≠ .isolated) (current uDc : Nat) (bad : Bool) :
    takeReport k current uDc bad s = chargeSuccess k (afterTests k current uDc bad s) := by
  simp only [takeReport, if_neg h]; rfl

/-- A report of a string that is not Isolated, as one test: measured, and its overcurrent run counted. -/
theorem takeReport_tests {k : StringId} {s : State} (hi : (strOf s k).state ≠ .isolated) (current uDc : Nat) (bad : Bool) :
    Tests k (fun r => (r.measured current uDc).ranged current) s (takeReport k current uDc bad s) := by
  rw [takeReport_eq hi]
  have hm : Tests k (·.measured current uDc) s (modStr k (·.measured current uDc) s) :=
    tests_modStr (f := (·.measured current uDc)) (fun _ => rfl) k s
  have hc := tests_testCurrent k current (modStr k (·.measured current uDc) s)
  have h1 : Tests k (fun r => (r.measured current uDc).ranged current) s
      (testCurrent k current (modStr k (·.measured current uDc) s)) :=
    ⟨hm.touches.trans hc.touches, by rw [hc.outside, strOf_modStr_self], hc.length.trans hm.length,
      fun x => hc.stays (hm.stays x), fun x => hc.mayTrip (hm.mayTrip x)⟩
  exact ((h1.then (tests_testDcLink k _)).then (tests_testGate k bad _)).then (tests_chargeSuccess k _)

theorem faultState_testDcLink {c : FaultCode} (hc : c ∈ stringTrips) (hne : FaultCode.strDclinkOv ≠ c) (k : StringId)
    (s : State) : faultState (testDcLink k s) c k.num = faultState s c k.num := by
  rcases testDcLink_cases k s with ⟨-, h⟩ | ⟨-, h | h⟩ <;> rw [h]
  · exact faultState_tripString_ne mem_strDclinkOv hc hne k s
  · exact faultState_clearFault_ne mem_strDclinkOv hc hne k s

theorem faultState_testGate {c : FaultCode} (hc : c ∈ stringTrips) (hne : FaultCode.strGate ≠ c) (k : StringId) (bad : Bool)
    (s : State) : faultState (testGate k bad s) c k.num = faultState s c k.num := by
  cases bad
  · exact faultState_clearFault_ne mem_strGate hc hne k s
  · exact faultState_tripString_ne mem_strGate hc hne k s

/-- A report that shows a third overcurrent in a row, an overvoltage or a module fault leaves its string tripped and out of the
queue, and the row of what it shows Active (R2, R5). -/
theorem takeReport_trips {k : StringId} {s : State} (hm : MayTrip k s) (hl : s.faults.rows.length = 79)
    (current uDc : Nat) (bad : Bool) :
    let t := takeReport k current uDc bad s
    (current > 600 → (strOf s k).overrange ≥ 2 → Stays k t ∧ isActive t .strOc k.num = true) ∧
    (min uDc 8000 > 6210 → Stays k t ∧ isActive t .strDclinkOv k.num = true) ∧
    (bad = true → Stays k t ∧ isActive t .strGate k.num = true) := by
  simp only [takeReport_eq hm.1, isActive_iff, faultState_chargeSuccess, afterTests]
  have h0 : Tests k (·.measured current uDc) s (modStr k (·.measured current uDc) s) :=
    tests_modStr (f := (·.measured current uDc)) (fun _ => rfl) k s
  have hr0 : strOf (modStr k (·.measured current uDc) s) k = (strOf s k).measured current uDc := strOf_modStr_self k _ s
  generalize modStr k (·.measured current uDc) s = s0 at h0 hr0
  have h1 := tests_testCurrent k current s0
  have h2 := tests_testDcLink k (testCurrent k current s0)
  have h3 := tests_testGate k bad (testDcLink k (testCurrent k current s0))
  have h4 := tests_chargeSuccess k (testGate k bad (testDcLink k (testCurrent k current s0)))
  have hm1 := h1.mayTrip (h0.mayTrip hm)
  have hl1 := (h1.length.trans h0.length).trans hl
  refine ⟨fun hi ho => ?_, fun hu => ?_, fun hb => ?_⟩
  · have ho' : (strOf s0 k).overrange ≥ 2 := by rw [hr0]; exact ho
    rcases testCurrent_cases k current s0 with ⟨-, -, h⟩ | ⟨h, -⟩
    · refine ⟨h4.stays (h3.stays (h2.stays ?_)), ?_⟩
      · rw [h]
        refine stays_tripString ?_ _
        simpa only [MayTrip, strOf_modStr_self, modStr_queue, StringRec.ranged] using h0.mayTrip hm
      · rw [faultState_testGate mem_strOc (by decide), faultState_testDcLink mem_strOc (by decide), h]
        exact active_tripString mem_strOc k (h0.length.trans hl)
    · exact absurd ⟨hi, ho'⟩ h
  · have hu' : (strOf (testCurrent k current s0) k).uDc = min uDc 8000 := by
      have := congrArg StringRec.uDc h1.outside
      rw [hr0] at this
      exact this
    rcases testDcLink_cases k (testCurrent k current s0) with ⟨-, h⟩ | ⟨h, -⟩
    · refine ⟨h4.stays (h3.stays ?_), ?_⟩
      · rw [h]; exact stays_tripString hm1 _
      · rw [faultState_testGate mem_strDclinkOv (by decide), h]
        exact active_tripString mem_strDclinkOv k hl1
    · omega
  · subst hb
    exact ⟨h4.stays (stays_tripString (h2.mayTrip hm1) _), active_tripString mem_strGate k (h2.length.trans hl1)⟩

/-! ## Through the reactions and the end of the event -/

theorem react_eq {s : State} (h : s.powered = true) (f : State → State) : react f s = finish (settle (f (beginEvent s))) := by
  simp [react, event, h]

/-- What neither a string's operation nor the reactions write stands at the end of the event. -/
theorem react_frame {s : State} (hp : s.powered = true) {f : State → State}
    (hc : context (f (beginEvent s)) = context s) (hb : base (f (beginEvent s)) = base s) :
    (react f s).grid = s.grid ∧ (react f s).therm = s.therm ∧ (react f s).store = s.store ∧
    (react f s).retained = s.retained ∧ (react f s).lines = s.lines ∧ (react f s).clock = s.clock := by
  have ht := outside_react (f := f) hp
  simp only [base, Prod.mk.injEq] at hb
  obtain ⟨-, -, hlines, hclock, -, hstore, hretained⟩ := hb
  exact ⟨(outside_field (f := State.grid) (fun _ => rfl) ht).trans (context_grid hc),
    (outside_field (f := State.therm) (fun _ => rfl) ht).trans (context_therm hc),
    (outside_field (f := State.store) (fun _ => rfl) ht).trans hstore,
    (outside_field (f := State.retained) (fun _ => rfl) ht).trans hretained,
    (outside_field (f := State.lines) (fun _ => rfl) ht).trans hlines,
    (outside_field (f := State.clock) (fun _ => rfl) ht).trans hclock⟩

/-- A string tripped by its own operation is Faulted at the end of the event, with the row Active. -/
theorem react_tripped {s : State} (hp : s.powered = true) {f : State → State} {k : StringId} {c : FaultCode}
    (hc : c ∈ stringTrips) (h : Stays k (f (beginEvent s)) ∧ isActive (f (beginEvent s)) c k.num = true) :
    (strOf (react f s) k).state = .faulted ∧ isActive (react f s) c k.num = true := by
  refine ⟨?_, by rw [outside_isActive (outside_react hp) hc]; exact h.2⟩
  rw [react_eq hp, strOf_finish]
  exact (settle_stays h.1).1

/-- A report of a string that is neither Isolated nor Faulted, at the end of its event. -/
theorem stringReport_event {s : State} {k : StringId} (hp : s.powered = true) (hl : s.faults.rows.length = 79)
    (hi : (strOf s k).state ≠ .isolated) (hf : (strOf s k).state ≠ .faulted) (current uDc : Nat) (bad : Bool) :
    ∃ t, exec (.stringReport k current uDc bad) s = .next t ∧
      (strOf t k).iMeas = min current 600 ∧ (strOf t k).uDc = min uDc 8000 ∧ (strOf t k).silence = 0 ∧
      (strOf t k).overrange = (if current > 600 then min 3 ((strOf s k).overrange + 1) else 0) ∧
      (∀ j, j ≠ k → (strOf t j).outside = (strOf s j).outside) ∧
      (bad = true → (strOf t k).state = .faulted ∧ isActive t .strGate k.num = true) ∧
      (min uDc 8000 > 6210 → (strOf t k).state = .faulted ∧ isActive t .strDclinkOv k.num = true) ∧
      (current > 600 → (strOf s k).overrange ≥ 2 → (strOf t k).state = .faulted ∧ isActive t .strOc k.num = true) ∧
      t.grid = s.grid ∧ t.therm = s.therm ∧ t.store = s.store ∧ t.retained = s.retained ∧ t.lines = s.lines ∧
      t.clock = s.clock := by
  have ht : outside (react (takeReport k current uDc bad) s) = outside (takeReport k current uDc bad (beginEvent s)) :=
    outside_react hp
  have htests := takeReport_tests (s := beginEvent s) hi current uDc bad
  obtain ⟨hoc, hov, hgate⟩ := takeReport_trips (s := beginEvent s) ⟨hi, fun e => absurd e hf⟩ hl current uDc bad
  have hrec := (outside_strOf ht k).trans htests.outside
  refine ⟨_, rfl, congrArg StringRec.iMeas hrec, congrArg StringRec.uDc hrec, congrArg StringRec.silence hrec,
    congrArg StringRec.overrange hrec, fun j hj => ?_, fun hb => react_tripped hp mem_strGate (hgate hb),
    fun hu => react_tripped hp mem_strDclinkOv (hov hu), fun hc ho => react_tripped hp mem_strOc (hoc hc ho),
    react_frame hp htests.touches.context (base_takeReport ..)⟩
  rw [outside_strOf ht j, htests.touches.record j hj, strOf_beginEvent]

/-! ## The precharge timer (R9) -/

theorem timeoutPrecharge_of_not {k : StringId} {s : State} (h : (strOf s k).state ≠ .precharging) :
    timeoutPrecharge k s = s := by
  simp [timeoutPrecharge, isPrecharging, h]

/-- Of the strings only the one that charges is faulted by the timer. -/
theorem timeoutPrecharge_only {k : StringId} {s : State} (hst : (strOf s k).state = .precharging)
    (hph : (strOf s k).phase = some .charging) (hpc : (strOf s k).precharge.isSome = true)
    (hothers : ∀ j, j ≠ k → (strOf s j).state ≠ .precharging) :
    forEach StringId.all timeoutPrecharge s = tripString .strPrecharge k s := by
  have hk : timeoutPrecharge k s = tripString .strPrecharge k s := by
    simp [timeoutPrecharge, isPrecharging, hst, hph, hpc]
  rw [← hk]
  refine forEach_only (fun j hj => timeoutPrecharge_of_not (hothers j hj)) fun j hj => timeoutPrecharge_of_not ?_
  rw [hk, (touches_tripString mem_strPrecharge k s).record j hj]
  exact hothers j hj

/-- The timer at the end of its event. -/
theorem prechargeTimeout_event {s : State} {k : StringId} (hp : s.powered = true) (hl : s.faults.rows.length = 79)
    (hst : (strOf s k).state = .precharging) (hph : (strOf s k).phase = some .charging)
    (hpc : (strOf s k).precharge.isSome = true) (hothers : ∀ j, j ≠ k → (strOf s j).state ≠ .precharging) :
    ∃ t, exec .prechargeTimeout s = .next t ∧ (strOf t k).state = .faulted ∧ isActive t .strPrecharge k.num = true ∧
      (∀ j, (strOf t j).outside = (strOf s j).outside) ∧ t.grid = s.grid ∧ t.therm = s.therm ∧ t.store = s.store ∧
      t.retained = s.retained := by
  have hrun := timeoutPrecharge_only (s := beginEvent s) hst hph hpc hothers
  have htests := tests_tripString mem_strPrecharge k (beginEvent s)
  rw [← hrun] at htests
  have hmay : MayTrip k (beginEvent s) := by
    simp only [MayTrip, strOf_beginEvent, hst]; exact ⟨StrState.noConfusion, StrState.noConfusion⟩
  have htrip : Stays k (forEach StringId.all timeoutPrecharge (beginEvent s)) ∧
      isActive (forEach StringId.all timeoutPrecharge (beginEvent s)) .strPrecharge k.num = true := by
    rw [hrun]
    exact ⟨stays_tripString hmay _, isActive_iff.mpr (active_tripString mem_strPrecharge k hl)⟩
  obtain ⟨hfaulted, hactive⟩ := react_tripped hp mem_strPrecharge htrip
  obtain ⟨hgrid, htherm, hstore, hretained, -, -⟩ :=
    react_frame hp (f := forEach StringId.all timeoutPrecharge) htests.touches.context
      (base_forEach base_timeoutPrecharge _ _)
  refine ⟨_, rfl, hfaulted, hactive, fun j => ?_, hgrid, htherm, hstore, hretained⟩
  rw [outside_strOf (outside_react hp) j]
  by_cases hj : j = k
  · subst hj; exact htests.outside
  · rw [htests.touches.record j hj, strOf_beginEvent]

/-! ## Success (R9) -/

/-- A report without an overcurrent run of three, an overvoltage or a module fault leaves the record as it measures it. -/
theorem strOf_afterTests_of_sound {k : StringId} {s : State} {current uDc : Nat}
    (hc : current ≤ 600 ∨ (strOf s k).overrange < 2) (hu : min uDc 8000 ≤ 6210) :
    strOf (afterTests k current uDc false s) k = ((strOf s k).measured current uDc).ranged current := by
  have hcur : strOf (testCurrent k current (modStr k (·.measured current uDc) s)) k =
      ((strOf s k).measured current uDc).ranged current := by
    rcases testCurrent_cases k current (modStr k (·.measured current uDc) s) with ⟨hi, ho, -⟩ | ⟨-, h | h⟩
    · rw [strOf_modStr_self] at ho
      change (strOf s k).overrange ≥ 2 at ho
      omega
    · rw [h, strOf_modStr_self, strOf_modStr_self]
    · rw [h, strOf_clearFault, strOf_modStr_self, strOf_modStr_self]
  have hdc : strOf (testDcLink k (testCurrent k current (modStr k (·.measured current uDc) s))) k =
      strOf (testCurrent k current (modStr k (·.measured current uDc) s)) k := by
    rcases testDcLink_cases k (testCurrent k current (modStr k (·.measured current uDc) s)) with ⟨h, -⟩ | ⟨-, h | h⟩
    · rw [hcur] at h
      change min uDc 8000 > 6210 at h
      omega
    · rw [h]
    · rw [h, strOf_clearFault]
  rw [← hcur, ← hdc]
  rfl

/-- A Charging string whose report shows the voltage reached is Ready before the reactions. -/
theorem strOf_takeReport_of_charging {k : StringId} {s : State} {current uDc : Nat} (hst : (strOf s k).state = .precharging)
    (hph : (strOf s k).phase = some .charging) (hpc : (strOf s k).precharge.isSome = true)
    (hc : current ≤ 600 ∨ (strOf s k).overrange < 2) (hlow : 4860 ≤ uDc) (hhigh : uDc ≤ 6210) :
    strOf (takeReport k current uDc false s) k = (((strOf s k).measured current uDc).ranged current).charged := by
  have hrec := strOf_afterTests_of_sound (k := k) (s := s) (current := current) (uDc := uDc) hc (by omega)
  have hu : ((strOf s k).measured current uDc).uDc ≥ 4860 := by
    change min uDc 8000 ≥ 4860
    omega
  rw [takeReport_eq (by rw [hst]; decide), strOf_chargeSuccess_self (by rw [hrec]; exact ⟨hst, hph, hpc, hu⟩), hrec]

/-! ## The precharge inside an event (R8, R10) -/

theorem followLoop_of_not {k : StringId} {s : State} (h : (strOf s k).state ≠ .precharging) : followLoop k s = s := by
  simp [followLoop, isPrecharging, h]

/-- The record of a Precharging string as it follows its loop. -/
def StringRec.followed (clock : Nat) (flowing : Bool) (r : StringRec) : StringRec :=
  match r.phase, flowing with
  | some .loopWait, true =>
    { r with phase := some .charging, precharge := startTimer clock 4000, out := { r.out with prechargeOn := true } }
  | some .charging, false => { r.offCircuit with phase := some .loopWait }
  | _, _ => r

theorem strOf_followLoop_self {k : StringId} {s : State} (h : (strOf s k).state = .precharging) :
    strOf (followLoop k s) k = (strOf s k).followed s.clock (loopFlowing s k.loop) := by
  have hp : isPrecharging s k = true := by simp [isPrecharging, h]
  simp only [followLoop, hp, if_true, StringRec.followed]
  cases (strOf s k).phase with
  | none => rfl
  | some phase =>
    cases phase <;> cases loopFlowing s k.loop
    · rfl
    · exact strOf_modStr_self k _ s
    · exact strOf_modStr_self k _ s
    · rfl

theorem touches_followLoop (k : StringId) (s : State) : Touches k s (followLoop k s) := by
  unfold followLoop
  split
  · split
    · exact touches_modStr k _ s
    · exact touches_modStr k _ s
    · exact .refl k s
  · exact .refl k s

theorem followLoop_queue (k : StringId) (s : State) : (followLoop k s).conv.queue = s.conv.queue := by
  unfold followLoop
  repeat' split
  all_goals rfl

theorem context_beginPrecharge (s : State) : context (beginPrecharge s) = context s := by
  unfold beginPrecharge
  split
  · rfl
  · split
    · rfl
    · next k rest _ _ =>
      exact ((touches_setQueue k rest s).trans ((touches_modStr k _ _).trans (touches_setStrState k _ _))).context

theorem followed_state (clock : Nat) (flowing : Bool) (r : StringRec) : (r.followed clock flowing).state = r.state := by
  unfold StringRec.followed; split <;> rfl

theorem followed_of_stopped {r : StringRec} (h : r.phase = some .charging) (clock : Nat) :
    r.followed clock false = { r.offCircuit with phase := some .loopWait } := by
  simp [StringRec.followed, h]

/-- What an event's precharge makes of a record, once a head has begun: a Precharging string follows its loop, any other stands. -/
theorem strOf_followPrecharge (s : State) (k : StringId) :
    strOf (followPrecharge s) k =
      if (strOf (beginPrecharge s) k).state = .precharging
      then (strOf (beginPrecharge s) k).followed s.clock (loopFlowing s k.loop)
      else strOf (beginPrecharge s) k := by
  obtain ⟨u, hu, hrun⟩ := forEach_sameFor touches_followLoop k (beginPrecharge s)
  have hctx : context u = context s := hu.context.trans (context_beginPrecharge s)
  have hflow : loopFlowing u k.loop = loopFlowing s k.loop := by
    simp only [loopFlowing, (context_loop hctx k.loop).1]
  rw [followPrecharge, strOf_conv (followPrechargeClaim_conv _), hrun.record, ← hu.record]
  split
  · next h => rw [strOf_followLoop_self h, context_clock hctx, hflow]
  · next h => rw [followLoop_of_not h]

theorem followPrecharge_queue (s : State) : (followPrecharge s).conv.queue = (beginPrecharge s).conv.queue := by
  rw [followPrecharge, followPrechargeClaim_conv]
  exact forEach_field (g := fun t => t.conv.queue) followLoop_queue _ _

theorem anyPrecharging_iff (s : State) : anyPrecharging s = true ↔ ∃ k, (strOf s k).state = .precharging := by
  simp only [anyPrecharging, isPrecharging, List.any_eq_true, decide_eq_true_eq]
  exact ⟨fun ⟨k, _, h⟩ => ⟨k, h⟩, fun ⟨k, h⟩ => ⟨k, mem_all k, h⟩⟩

theorem submitted_submitClaim (id : ClaimId) (n : Nat) (s : State) : submitted (submitClaim id n s) id = true := by
  unfold submitted submitClaim claimOf
  simp only
  split
  · next h =>
    unfold setCeiling
    simp only
    split
    · exact h
    · rw [claims_get_set_self]; exact h
  · rw [claims_get_set_self]

theorem submitted_withdrawClaim (id : ClaimId) (s : State) : submitted (withdrawClaim id s) id = false := by
  unfold submitted withdrawClaim claimOf
  simp only
  split
  · rw [claims_get_set_self]
  · next h => simpa using h

/-- The claim stands while the queue or a precharge does (R8). -/
theorem submitted_followPrecharge (s : State) :
    submitted (followPrecharge s) .precharge = true ↔
      (followPrecharge s).conv.queue ≠ [] ∨ ∃ k, (strOf (followPrecharge s) k).state = .precharging := by
  rw [← anyPrecharging_iff]
  have hany (t : State) : anyPrecharging (followPrechargeClaim t) = anyPrecharging t := by
    have hstr : isPrecharging (followPrechargeClaim t) = isPrecharging t := by
      funext k
      simp only [isPrecharging, strOf_conv (followPrechargeClaim_conv t)]
    rw [anyPrecharging, anyPrecharging, hstr]
  simp only [followPrecharge, followPrechargeClaim_conv, hany]
  generalize forEach StringId.all followLoop (beginPrecharge s) = t
  unfold followPrechargeClaim
  split
  · next h =>
    refine iff_of_true ?_ h
    split
    · next hs => exact hs
    · exact submitted_submitClaim _ _ _
  · next h => exact iff_of_false (by simp [submitted_withdrawClaim]) h

/-- A precharge under way keeps the head of the queue waiting. -/
theorem beginPrecharge_of_precharging {s : State} {k : StringId} (h : (strOf s k).state = .precharging) :
    beginPrecharge s = s := by
  have hany : anyPrecharging s = true := (anyPrecharging_iff s).mpr ⟨k, h⟩
  unfold beginPrecharge
  split
  · rfl
  · simp [hany]

/-- With none under way and the grant of 25 kW the head begins (R8). -/
theorem beginPrecharge_of_granted {s : State} {k : StringId} {rest : List StringId} (hq : s.conv.queue = k :: rest)
    (hn : ∀ j, (strOf s j).state ≠ .precharging) (hg : grantOf s .precharge = 25) :
    beginPrecharge s = setStrState k .precharging
      (modStr k (fun r => { r with phase := some .loopWait, precharge := none }) (setQueue rest s)) := by
  have hany : anyPrecharging s = false := by
    rw [Bool.eq_false_iff]; exact fun e => ((anyPrecharging_iff s).mp e).elim hn
  simp [beginPrecharge, hq, hany, prechargeGranted, hg]

/-- The head that begins charges or waits for its loop (R8). -/
theorem followPrecharge_head {s : State} {k : StringId} {rest : List StringId} (hq : s.conv.queue = k :: rest)
    (hn : ∀ j, (strOf s j).state ≠ .precharging) (hg : grantOf s .precharge = 25) :
    strOf (followPrecharge s) k =
      ({ strOf s k with state := .precharging, phase := some .loopWait, precharge := none } : StringRec).followed
        s.clock (loopFlowing s k.loop) ∧
    (followPrecharge s).conv.queue = rest ∧ ∀ j, j ≠ k → strOf (followPrecharge s) j = strOf s j := by
  have hb := beginPrecharge_of_granted hq hn hg
  have hrec : strOf (beginPrecharge s) k =
      { strOf s k with state := .precharging, phase := some .loopWait, precharge := none } := by
    rw [hb, strOf_setStrState_self, strOf_modStr_self]; rfl
  have htouch : Touches k s (beginPrecharge s) := by
    rw [hb]
    exact (touches_setQueue k rest s).trans ((touches_modStr k _ _).trans (touches_setStrState k _ _))
  refine ⟨?_, ?_, fun j hj => ?_⟩
  · rw [strOf_followPrecharge, hrec, if_pos rfl]
  · rw [followPrecharge_queue, hb]; rfl
  · rw [strOf_followPrecharge, htouch.record j hj, if_neg (hn j)]

/-- A grant that falls returns its string to the head of the queue (R10). -/
theorem abortPrecharge_of_precharging {k : StringId} {s : State} (h : (strOf s k).state = .precharging) :
    abortPrecharge k s =
      setStrState k .offline (modStr k StringRec.offCircuit (setQueue (k :: s.conv.queue) s)) := by
  have hp : isPrecharging s k = true := by simp [isPrecharging, h]
  simp only [abortPrecharge, hp, if_true]

/-- Settles O25: a report through its tests, the timer on the one string that charges, and the precharge by the record of the string
that begins or follows its loop. -/
theorem stringEventsTripStrings : Obligations.StringEventsTripStrings := by
  unfold Obligations.StringEventsTripStrings
  intro s k hp hsized
  have hl : s.faults.rows.length = 79 := hsized.1
  refine ⟨fun i u bad hi hf => stringReport_event hp hl hi hf i u bad,
    fun hst hph hpc hothers => prechargeTimeout_event hp hl hst hph hpc hothers,
    fun i u hst hph hpc hc hlow hhigh => ?_, fun rest hq hn hg => ?_, fun hq hn => ?_, fun hst hph hloop => ?_,
    fun hst => ?_⟩
  · have hrec := strOf_takeReport_of_charging (s := beginEvent s) hst hph hpc hc hlow hhigh
    have htests := takeReport_tests (s := beginEvent s) (by rw [strOf_beginEvent, hst]; decide) i u false
    refine ⟨takeReport k i u false (beginEvent s), congrArg Host.Outcome.next (react_eq hp _), ?_⟩
    rw [hrec]
    exact ⟨rfl, rfl, rfl, rfl, rfl, htests.touches.record⟩
  · obtain ⟨hrec, hqueue, hothers⟩ := followPrecharge_head hq hn hg
    have hst : (strOf (followPrecharge s) k).state = .precharging := by rw [hrec, followed_state]
    refine ⟨hst, hqueue, (submitted_followPrecharge s).mpr (.inr ⟨k, hst⟩), fun hloop => ?_, fun hloop => ?_, hothers⟩
    · rw [hrec, loopFlowing, hloop]; exact ⟨rfl, rfl, rfl⟩
    · rw [hrec, loopFlowing, hloop]; exact ⟨rfl, rfl⟩
  · have hb : beginPrecharge s = s := by simp [beginPrecharge, hq]
    have hrec : ∀ j, strOf (followPrecharge s) j = strOf s j := by
      intro j; rw [strOf_followPrecharge, hb, if_neg (hn j)]
    have hqueue : (followPrecharge s).conv.queue = [] := by rw [followPrecharge_queue, hb, hq]
    refine ⟨?_, hqueue, hrec⟩
    rw [Bool.eq_false_iff, Ne, submitted_followPrecharge]
    rintro (h | ⟨j, h⟩)
    · exact h hqueue
    · rw [hrec] at h; exact hn j h
  · have hrec : strOf (followPrecharge s) k = { (strOf s k).offCircuit with phase := some .loopWait } := by
      rw [strOf_followPrecharge, beginPrecharge_of_precharging hst, if_pos hst, loopFlowing, hloop, followed_of_stopped hph]
    have hst' : (strOf (followPrecharge s) k).state = .precharging := by rw [hrec]; exact hst
    refine ⟨hst', ?_, ?_, ?_, (submitted_followPrecharge s).mpr (.inr ⟨k, hst'⟩)⟩ <;> rw [hrec] <;> rfl
  · simp only [abortPrecharge_of_precharging hst, strOf_setStrState_self, strOf_modStr_self]
    exact ⟨trivial, rfl, rfl, rfl⟩

end Sys2Proof.Machine

/-! SUPPORT. The share interval on one string: each step as a change of its record, and the eight steps in a row (R3, R6, R7, R11, R12, R16 to R19). -/

namespace Sys2Proof.Machine

/-! ## One record changed twice -/

theorem modStr_modStr (k : StringId) (f g : StringRec → StringRec) (s : State) :
    modStr k g (modStr k f s) = modStr k (fun r => g (f r)) s := by cases k <;> rfl

theorem modStr_congr {k : StringId} {f g : StringRec → StringRec} {s : State} (h : f (strOf s k) = g (strOf s k)) :
    modStr k f s = modStr k g s := by simp only [modStr, h]

/-! ## Step 1: silence (R3) -/

/-- The record with its silence counted. -/
def StringRec.counted (r : StringRec) : StringRec :=
  { r with
    reported := false
    silence := if r.state = .isolated ∨ r.reported = true then r.silence else min 3 (r.silence + 1) }

/-- The record after step 1. -/
def StringRec.silenced (silent : Bool) (r : StringRec) : StringRec := if silent then r.counted.faulting else r.counted

/-- Step 1 counts, and trips a string that falls silent. -/
theorem silenceStep_cases (k : StringId) (s : State) :
    silenceStep k s = modStr k StringRec.counted s ∧ (fallsSilent s k = false ∨ (strOf s k).state = .isolated) ∨
    silenceStep k s = tripString .strGate k (modStr k StringRec.counted s) ∧ fallsSilent s k = true := by
  unfold silenceStep fallsSilent
  simp only [modStr_modStr]
  by_cases hr : (strOf s k).state = .isolated ∨ (strOf s k).reported = true
  · rw [if_pos hr]
    refine .inl ⟨modStr_congr (by simp only [StringRec.counted, if_pos hr]), ?_⟩
    rcases hr with h | h
    · exact .inr h
    · exact .inl (by simp [h])
  · have hc : modStr k (fun r => { r with reported := false, silence := min 3 (r.silence + 1) }) s =
        modStr k StringRec.counted s := modStr_congr (by simp only [StringRec.counted, if_neg hr])
    rw [if_neg hr, hc, strOf_modStr_self]
    obtain ⟨-, hrep⟩ := not_or.mp hr
    simp only [StringRec.counted, if_neg hr]
    by_cases h2 : (strOf s k).silence ≥ 2
    · rw [if_pos (by omega)]
      exact .inr ⟨rfl, by simp [hrep, h2]⟩
    · rw [if_neg (by omega)]
      exact .inl ⟨rfl, .inl (by simp [h2])⟩

theorem touches_silenceStep (k : StringId) (s : State) : Touches k s (silenceStep k s) := by
  rcases silenceStep_cases k s with ⟨h, -⟩ | ⟨h, -⟩ <;> rw [h]
  · exact touches_modStr k _ s
  · exact (touches_modStr k _ s).trans (touches_tripString mem_strGate k _)

theorem strOf_silenceStep_self (k : StringId) (s : State) :
    strOf (silenceStep k s) k = (strOf s k).silenced (fallsSilent s k) := by
  rcases silenceStep_cases k s with ⟨h, hs | hs⟩ | ⟨h, hs⟩ <;> rw [h]
  · rw [strOf_modStr_self, StringRec.silenced, hs]; rfl
  · have hstand : (strOf s k).counted.faulting = (strOf s k).counted := if_pos (.inl hs)
    rw [strOf_modStr_self, StringRec.silenced, hstand, ite_self]
  · rw [strOf_tripString_self, strOf_modStr_self, StringRec.silenced, hs]; rfl

/-- A raise keeps what is held. -/
theorem held_raise {c d : FaultCode} {u v : Nat} {s : State} (h : faultState s d v ≠ .clear) :
    faultState (raise c u s) d v ≠ .clear := by
  by_cases e : rowOf c u = rowOf d v
  · have hlen := lt_length_of_held h
    rw [faultState, ← e, raise_state_self (by rw [e]; exact hlen)]
    decide
  · rw [faultState, raise_state_ne e]; exact h

theorem held_silenceStep {k : StringId} {s : State} {c : FaultCode} (h : faultState s c k.num ≠ .clear) :
    faultState (silenceStep k s) c k.num ≠ .clear := by
  rcases silenceStep_cases k s with ⟨he, -⟩ | ⟨he, -⟩ <;> rw [he]
  · exact h
  · rw [faultState_tripString]; exact held_raise h

theorem faultState_silenceStep {k : StringId} {s : State} (h : fallsSilent s k = false) (c : FaultCode) :
    faultState (silenceStep k s) c k.num = faultState s c k.num := by
  rcases silenceStep_cases k s with ⟨he, -⟩ | ⟨-, hs⟩
  · rw [he]; rfl
  · rw [h] at hs; cases hs

/-! ## Steps 2 and 3: the rows cleared, and the release (R6, R9) -/

theorem touches_clearPrechargeRow (k : StringId) (s : State) : Touches k s (clearPrechargeRow k s) :=
  touches_clearFault mem_strPrecharge k s

/-- A clear leaves Clear what is Clear. -/
theorem clear_clearFault {c d : FaultCode} {u v : Nat} {s : State} (h : faultState s d v = .clear) :
    faultState (clearFault c u s) d v = .clear := by
  by_cases e : rowOf c u = rowOf d v
  · have hrow : (clearRow (classOf s c ≠ .record) (rowAt s (rowOf d v))).state = .clear := by
      have : ¬(rowAt s (rowOf d v)).state = .active := by rw [show (rowAt s (rowOf d v)).state = .clear from h]; decide
      simp only [clearRow, if_neg this]; exact h
    by_cases hlen : rowOf d v < s.faults.rows.length
    · simp only [faultState, rowAt, clearFault, e, getD_updateAt_self hlen]; exact hrow
    · have hbig : (clearFault c u s).faults.rows.length ≤ rowOf d v := by
        rw [clearFault_rows_length]; exact Nat.le_of_not_lt hlen
      simp only [faultState, rowAt, List.getD_eq_default _ _ hbig]; rfl
  · rw [faultState, clearFault_state_ne e]; exact h

theorem stringGated_iff (s : State) (k : StringId) :
    stringGated s k = true ↔ ∃ c ∈ stringTrips, faultState s c k.num ≠ .clear := by
  simp [stringGated, isHeld]

/-- The record after step 3. -/
def StringRec.released (gated : Bool) (r : StringRec) : StringRec :=
  if r.state = .faulted ∧ gated = false then
    if r.isolateOnEnd then { r with isolateOnEnd := false, state := .isolated } else { r with state := .offline }
  else r

theorem touches_releaseStep (k : StringId) (s : State) : Touches k s (releaseStep k s) := by
  unfold releaseStep
  split
  · split
    · exact (touches_modStr k _ s).trans (touches_setStrState k _ _)
    · exact touches_setStrState k _ s
  · exact .refl k s

theorem strOf_releaseStep_self (k : StringId) (s : State) :
    strOf (releaseStep k s) k = (strOf s k).released (stringGated s k) := by
  unfold releaseStep StringRec.released
  split
  · split
    · rw [strOf_setStrState_self, strOf_modStr_self]
    · rw [strOf_setStrState_self]
  · rfl

/-! ## Steps 4 and 5: Ready strings run, and the limits (R12, R18) -/

/-- The record after step 4. -/
def StringRec.started (generating : Bool) (r : StringRec) : StringRec :=
  if generating = true ∧ r.state = .ready then { r with state := .running } else r

/-- The record after step 5. -/
def StringRec.limited (limit : Nat) (r : StringRec) : StringRec :=
  if r.state.eligible then { r with iLim := limit, state := if limit < 480 then .derated else .running }
  else { r with iLim := limit }

/-- The mode is Generating. -/
def generating (s : State) : Bool := s.mode.current = .generating

theorem touches_runStep (k : StringId) (s : State) : Touches k s (runStep k s) := by
  unfold runStep
  split
  · exact touches_setStrState k _ s
  · exact .refl k s

theorem strOf_runStep_self (k : StringId) (s : State) : strOf (runStep k s) k = (strOf s k).started (generating s) := by
  unfold runStep StringRec.started generating
  simp only [decide_eq_true_eq]
  split
  · rw [strOf_setStrState_self]
  · rfl

theorem touches_limitStep (k : StringId) (s : State) : Touches k s (limitStep k s) := by
  unfold limitStep
  simp only
  split
  · exact (touches_modStr k _ s).trans (touches_setStrState k _ _)
  · exact touches_modStr k _ s

theorem strOf_limitStep_self (k : StringId) (s : State) :
    strOf (limitStep k s) k = (strOf s k).limited (limitOf s k) := by
  unfold limitStep StringRec.limited
  simp only
  split
  · rw [strOf_setStrState_self, strOf_modStr_self]; rfl
  · rw [strOf_modStr_self]

theorem limitOf_context {s t : State} (h : context t = context s) (k : StringId) : limitOf t k = limitOf s k := by
  simp only [limitOf, context_therm h, (context_loop h k.loop).2]

theorem generating_context {s t : State} (h : context t = context s) : generating t = generating s := by
  simp only [generating, context_mode h]

/-- Steps 1 to 5 on one record, its Trip rows holding it or not. -/
def StringRec.beforeSharing (silent gated generating : Bool) (limit : Nat) (r : StringRec) : StringRec :=
  (((r.silenced silent).released gated).started generating).limited limit

/-- A string that is treated alike wherever it looks as in `s` has that record after a run over all strings. -/
theorem strOf_forEach {f : StringId → State → State} (hf : ∀ j t, Touches j t (f j t)) {k : StringId} {s : State}
    {r : StringRec} (h : ∀ u, SameFor k s u → strOf (f k u) k = r) : strOf (forEach StringId.all f s) k = r := by
  obtain ⟨u, hu, hrun⟩ := forEach_sameFor hf k s
  rw [hrun.record, h u hu]

theorem context_run {f : StringId → State → State} (hf : ∀ j t, Touches j t (f j t)) (s : State) :
    context (forEach StringId.all f s) = context s := context_forEach (fun j t => (hf j t).context) _ s

/-- The state that step 3 finds: silence counted and the precharge rows cleared. -/
def beforeRelease (s : State) : State := forEach StringId.all clearPrechargeRow (forEach StringId.all silenceStep s)

theorem beforeSharing_eq (s : State) :
    beforeSharing s = forEach StringId.all limitStep (forEach StringId.all runStep
      (forEach StringId.all releaseStep (beforeRelease s))) := rfl

theorem context_beforeRelease (s : State) : context (beforeRelease s) = context s :=
  (context_run touches_clearPrechargeRow _).trans (context_run touches_silenceStep s)

theorem context_beforeSharing (s : State) : context (beforeSharing s) = context s := by
  rw [beforeSharing_eq, context_run touches_limitStep, context_run touches_runStep, context_run touches_releaseStep,
    context_beforeRelease]

/-- Where step 3 looks at a string's Trip rows: as steps 1 and 2 of that string leave them. -/
theorem faultState_beforeRelease (s : State) (k : StringId) :
    ∃ u v, SameFor k s u ∧ (∀ c ∈ stringTrips, faultState v c k.num = faultState (silenceStep k u) c k.num) ∧
      ∀ c ∈ stringTrips, faultState (beforeRelease s) c k.num = faultState (clearPrechargeRow k v) c k.num := by
  obtain ⟨u, hu, hrun⟩ := forEach_sameFor touches_silenceStep k s
  obtain ⟨v, hv, hrun'⟩ := forEach_sameFor touches_clearPrechargeRow k (forEach StringId.all silenceStep s)
  exact ⟨u, v, hu, fun c hc => (hv.rows c hc).trans (hrun.rows c hc), hrun'.rows⟩

theorem fallsSilent_sameFor {k : StringId} {s t : State} (h : SameFor k s t) : fallsSilent t k = fallsSilent s k := by
  simp only [fallsSilent, h.record]

/-- A string with no Trip row held that does not fall silent has none held at step 3. -/
theorem not_gated_beforeRelease {s : State} {k : StringId} (hs : fallsSilent s k = false) (hg : stringGated s k = false) :
    stringGated (beforeRelease s) k = false := by
  obtain ⟨u, v, hu, hv, hrun⟩ := faultState_beforeRelease s k
  by_contra hne
  obtain ⟨c, hc, hheld⟩ := (stringGated_iff _ k).mp (by simpa using hne)
  have hclear : faultState s c k.num = .clear := by
    by_contra hcl
    have := (stringGated_iff s k).mpr ⟨c, hc, hcl⟩
    rw [hg] at this; cases this
  refine hheld ?_
  rw [hrun c hc]
  refine clear_clearFault ?_
  rw [hv c hc, faultState_silenceStep ((fallsSilent_sameFor hu).trans hs), hu.rows c hc, hclear]

/-- A Trip row held, but for the precharge row, holds its string at step 3. -/
theorem gated_beforeRelease {s : State} {k : StringId} {c : FaultCode} (hc : c ∈ stringTrips) (hne : c ≠ .strPrecharge)
    (hh : isHeld s c k.num = true) : stringGated (beforeRelease s) k = true := by
  obtain ⟨u, v, hu, hv, hrun⟩ := faultState_beforeRelease s k
  refine (stringGated_iff _ k).mpr ⟨c, hc, ?_⟩
  rw [hrun c hc, clearPrechargeRow, faultState_clearFault_ne mem_strPrecharge hc hne.symm, hv c hc]
  refine held_silenceStep ?_
  rw [hu.rows c hc]
  simpa [isHeld] using hh

/-- Steps 1 to 5 on one record. -/
theorem strOf_beforeSharing (s : State) (k : StringId) :
    strOf (beforeSharing s) k =
      (strOf s k).beforeSharing (fallsSilent s k) (stringGated (beforeRelease s) k) (generating s) (limitOf s k) := by
  have h1 : strOf (forEach StringId.all silenceStep s) k = (strOf s k).silenced (fallsSilent s k) :=
    strOf_forEach touches_silenceStep fun u hu => by
      rw [strOf_silenceStep_self, fallsSilent_sameFor hu, hu.record]
  have h2 : strOf (beforeRelease s) k = (strOf s k).silenced (fallsSilent s k) :=
    strOf_forEach touches_clearPrechargeRow fun u hu => hu.record.trans h1
  have hgate {u : State} (hu : SameFor k (beforeRelease s) u) :
      stringGated u k = stringGated (beforeRelease s) k := by
    rw [Bool.eq_iff_iff, stringGated_iff, stringGated_iff]
    exact exists_congr fun c => and_congr_right fun hc => by rw [hu.rows c hc]
  have h3 : strOf (forEach StringId.all releaseStep (beforeRelease s)) k =
      ((strOf s k).silenced (fallsSilent s k)).released (stringGated (beforeRelease s) k) :=
    strOf_forEach touches_releaseStep fun u hu => by rw [strOf_releaseStep_self, hu.record, h2, hgate hu]
  have c3 := (context_run touches_releaseStep (beforeRelease s)).trans (context_beforeRelease s)
  have h4 : strOf (forEach StringId.all runStep (forEach StringId.all releaseStep (beforeRelease s))) k =
      (((strOf s k).silenced (fallsSilent s k)).released (stringGated (beforeRelease s) k)).started (generating s) :=
    strOf_forEach touches_runStep fun u hu => by
      rw [strOf_runStep_self, hu.record, h3, generating_context (hu.context.trans c3)]
  have c4 := (context_run touches_runStep _).trans c3
  rw [beforeSharing_eq]
  exact strOf_forEach touches_limitStep fun u hu => by
    rw [strOf_limitStep_self, hu.record, h4, limitOf_context (hu.context.trans c4)]
    rfl

/-! ## Step 6: the sharing (R16, R19) -/

/-- The record with other shares. -/
def StringRec.withShares (cap share : Nat) (p q : Int) (r : StringRec) : StringRec :=
  { r with cap := cap, share := share, p := p, q := q }

/-- The sharing step writes capacities, and shares of eligible strings alone. -/
theorem strOf_sharingStep (s : State) (k : StringId) :
    ∃ cap share p q, strOf (sharingStep s) k = (strOf s k).withShares cap share p q ∧
      ((strOf s k).state.eligible = false → share = (strOf s k).share ∧ p = (strOf s k).p ∧ q = (strOf s k).q) := by
  unfold sharingStep
  split
  · simp only [strOf, six_get_map, shareRecord]
    split
    · next h => exact ⟨_, _, _, _, rfl, fun h' => by rw [h] at h'; cases h'⟩
    · exact ⟨_, _, _, _, rfl, fun _ => ⟨rfl, rfl, rfl⟩⟩
  · simp only [strOf, six_get_map]
    split
    · next h => exact ⟨_, _, _, _, rfl, fun h' => by rw [h] at h'; cases h'⟩
    · exact ⟨_, _, _, _, rfl, fun _ => ⟨rfl, rfl, rfl⟩⟩

theorem context_sharingStep (s : State) : context (sharingStep s) = context s := by
  unfold sharingStep
  split <;> rfl

/-! ## Step 7: stops (R11) -/

/-- A stop that completes may go to Ready: Generating with no transition in flight, and the string's loop flowing. -/
def mayReady (s : State) (k : StringId) : Bool :=
  s.mode.current = .generating && s.mode.target = none && loopFlowing s k.loop

theorem mayReady_iff (s : State) (k : StringId) :
    mayReady s k = true ↔
      s.mode.current = .generating ∧ s.mode.target = none ∧ (loopOf s k.loop).state.flowing = true := by
  simp [mayReady, loopFlowing, and_assoc]

/-- The record after a completed stop. -/
def StringRec.completed (mayReady : Bool) (r : StringRec) : StringRec :=
  let opened := { r.out with contactorClosed := false }
  if r.isolateOnEnd then { r with blockedStop := none, out := opened, isolateOnEnd := false, state := .isolated }
  else if r.blockedStop = some false ∧ mayReady = true then { r with blockedStop := none, state := .ready }
  else { r with blockedStop := none, out := opened, state := .offline }

theorem touches_completeStop (k : StringId) (s : State) : Touches k s (completeStop k s) := by
  unfold completeStop
  simp only
  split
  · exact (touches_modStr k _ s).trans ((touches_modStr k _ _).trans ((touches_modStr k _ _).trans
      (touches_setStrState k _ _)))
  · split
    · exact (touches_modStr k _ s).trans (touches_setStrState k _ _)
    · exact (touches_modStr k _ s).trans ((touches_modStr k _ _).trans (touches_setStrState k _ _))

theorem strOf_completeStop_self (k : StringId) (s : State) :
    strOf (completeStop k s) k = (strOf s k).completed (mayReady s k) := by
  have hready : (strOf s k).blockedStop = some false ∧ s.mode.current = .generating ∧ s.mode.target = none ∧
      loopFlowing s k.loop = true ↔ (strOf s k).blockedStop = some false ∧ mayReady s k = true :=
    and_congr_right fun _ => (mayReady_iff s k).symm
  unfold completeStop StringRec.completed
  simp only [hready]
  split
  · simp only [strOf_setStrState_self, strOf_modStr_self]
  · split <;> simp only [strOf_setStrState_self, strOf_modStr_self]

/-- The record after one ramp step. -/
def StringRec.ramped (n : Nat) (r : StringRec) : StringRec :=
  { r with share := n, p := scale r.p n r.share, q := scale r.q n r.share }

/-- The record after step 7, with what a ramp would leave of the share. -/
def StringRec.stopped (mayReady : Bool) (left : Nat) (r : StringRec) : StringRec :=
  if r.state = .stopping then
    if r.blockedStop = some true then r.completed mayReady
    else if left = 0 then (r.ramped left).completed mayReady else r.ramped left
  else r

theorem touches_stoppingStep (k : StringId) (s : State) : Touches k s (stoppingStep k s) := by
  unfold stoppingStep
  split
  · split
    · exact touches_completeStop k s
    · simp only
      split
      · exact (touches_modStr k _ s).trans (touches_completeStop k _)
      · exact touches_modStr k _ s
  · exact .refl k s

theorem mayReady_context {s t : State} (h : context t = context s) (k : StringId) : mayReady t k = mayReady s k := by
  simp only [mayReady, loopFlowing, context_mode h, (context_loop h k.loop).1]

theorem strOf_stoppingStep_self (k : StringId) (s : State) :
    strOf (stoppingStep k s) k = (strOf s k).stopped (mayReady s k) (rampedShare s k) := by
  unfold stoppingStep StringRec.stopped
  split
  · split
    · exact strOf_completeStop_self k s
    · simp only
      split
      · rw [strOf_completeStop_self, strOf_modStr_self, mayReady_context (touches_modStr k _ s).context]; rfl
      · rw [strOf_modStr_self]; rfl
  · rfl

/-! ## The queue and the commands (R4, R7) -/

theorem touches_joinEntered (old : State) (k : StringId) (s : State) : Touches k s (joinEntered old k s) := by
  unfold joinEntered
  split
  · exact touches_testJoin k s
  · exact .refl k s

theorem strOf_joinEntered (old : State) (j : StringId) (s : State) (k : StringId) :
    strOf (joinEntered old j s) k = strOf s k := by
  unfold joinEntered
  split
  · exact strOf_testJoin j s k
  · rfl

theorem strOf_commandStep (s : State) (k : StringId) :
    strOf (commandStep s) k = { strOf s k with out := commandFor (strOf s k) } := by
  simp only [commandStep, strOf, six_get_map]

theorem joinEntered_keeps {old : State} {j k : StringId} {s : State} (h : k ∈ s.conv.queue) :
    k ∈ (joinEntered old j s).conv.queue := by
  unfold joinEntered
  split
  · rw [testJoin_queue]
    split
    · exact List.mem_append_left _ h
    · exact h
  · exact h

/-! ## The whole interval -/

/-- The state before the strings that entered Offline join. -/
def beforeJoins (s : State) : State := forEach StringId.all stoppingStep (sharingStep (beforeSharing s))

theorem shareInterval_eq (s : State) :
    shareInterval s = commandStep (forEach StringId.all (joinEntered s) (beforeJoins s)) := rfl

theorem context_beforeJoins (s : State) : context (beforeJoins s) = context s := by
  rw [beforeJoins, context_run touches_stoppingStep, context_sharingStep, context_beforeSharing]

theorem context_commandStep (s : State) : context (commandStep s) = context s := rfl

theorem context_shareInterval (s : State) : context (shareInterval s) = context s := by
  rw [shareInterval_eq, context_commandStep, context_run (touches_joinEntered s), context_beforeJoins]

theorem stoppingStep_granted (k : StringId) (s : State) : (stoppingStep k s).conv.granted = s.conv.granted := by
  unfold stoppingStep completeStop
  simp only
  repeat' split
  all_goals rfl

theorem joinEntered_granted (old : State) (k : StringId) (s : State) :
    (joinEntered old k s).conv.granted = s.conv.granted := by
  unfold joinEntered testJoin
  repeat' split
  all_goals rfl

/-- The granted record is that of the sharing step. -/
theorem shareInterval_granted (s : State) :
    (shareInterval s).conv.granted = (sharingStep (beforeSharing s)).conv.granted := by
  have hcommand (t : State) : (commandStep t).conv.granted = t.conv.granted := rfl
  have hjoin : (forEach StringId.all (joinEntered s) (beforeJoins s)).conv.granted = (beforeJoins s).conv.granted :=
    forEach_field (g := fun t => t.conv.granted) (joinEntered_granted s) StringId.all (beforeJoins s)
  have hstop : (beforeJoins s).conv.granted = (sharingStep (beforeSharing s)).conv.granted := by
    rw [beforeJoins]
    exact forEach_field (g := fun t => t.conv.granted) stoppingStep_granted StringId.all _
  rw [shareInterval_eq, hcommand, hjoin, hstop]

/-- What a ramp leaves of a share of `n`. -/
def leftOf (s : State) (n : Nat) : Nat := if s.mode.current = .generating then n - s.conv.request.rampP else 0

/-- The record of a string after the stops, from its record after the sharing. -/
theorem strOf_beforeJoins (s : State) (k : StringId) :
    ∃ cap share p q, ∃ r : StringRec,
      r = (strOf s k).beforeSharing (fallsSilent s k) (stringGated (beforeRelease s) k) (generating s) (limitOf s k) ∧
      strOf (beforeJoins s) k = (r.withShares cap share p q).stopped (mayReady s k) (leftOf s share) ∧
      (r.state.eligible = false → share = r.share ∧ p = r.p ∧ q = r.q) := by
  obtain ⟨cap, share, p, q, hshare, hnone⟩ := strOf_sharingStep (beforeSharing s) k
  refine ⟨cap, share, p, q, _, strOf_beforeSharing s k, ?_, hnone⟩
  refine strOf_forEach touches_stoppingStep fun u hu => ?_
  have hctx : context u = context s := by rw [hu.context, context_sharingStep, context_beforeSharing]
  have hready : mayReady u k = mayReady s k := mayReady_context hctx k
  have hleft : rampedShare u k = leftOf s share := by
    simp only [rampedShare, leftOf, context_mode hctx, context_request hctx, hu.record, hshare]
    rfl
  rw [strOf_stoppingStep_self, hready, hleft, hu.record, hshare]

theorem strOf_shareInterval (s : State) (k : StringId) :
    strOf (shareInterval s) k = { strOf (beforeJoins s) k with out := commandFor (strOf (beforeJoins s) k) } := by
  have hjoin : strOf (forEach StringId.all (joinEntered s) (beforeJoins s)) k = strOf (beforeJoins s) k :=
    forEach_field (g := fun t => strOf t k) (fun j t => strOf_joinEntered s j t k) _ _
  rw [shareInterval_eq, strOf_commandStep, hjoin]

/-! ## The steps by the state the interval finds -/

/-- What every step but the first and the fifth leaves of a record: its limit, its silence count and the mark of a report. -/
def StringRec.measures (r : StringRec) : Nat × Nat × Bool := (r.iLim, r.silence, r.reported)

theorem silenced_measures (silent : Bool) (r : StringRec) : (r.silenced silent).measures = r.counted.measures := by
  cases silent
  · rfl
  · unfold StringRec.silenced StringRec.faulting
    simp only [if_true]
    split <;> rfl

theorem released_measures (gated : Bool) (r : StringRec) : (r.released gated).measures = r.measures := by
  unfold StringRec.released
  repeat' split
  all_goals rfl

theorem started_measures (generating : Bool) (r : StringRec) : (r.started generating).measures = r.measures := by
  unfold StringRec.started; split <;> rfl

theorem limited_measures (limit : Nat) (r : StringRec) :
    (r.limited limit).measures = (limit, r.measures.2.1, r.measures.2.2) := by
  unfold StringRec.limited; split <;> rfl

theorem beforeSharing_measures (silent gated generating : Bool) (limit : Nat) (r : StringRec) :
    (r.beforeSharing silent gated generating limit).measures = (limit, r.counted.silence, false) := by
  rw [StringRec.beforeSharing, limited_measures, started_measures, released_measures, silenced_measures]; rfl

theorem completed_measures (mayReady : Bool) (r : StringRec) : (r.completed mayReady).measures = r.measures := by
  unfold StringRec.completed
  simp only
  repeat' split
  all_goals rfl

theorem stopped_measures (mayReady : Bool) (left : Nat) (r : StringRec) :
    (r.stopped mayReady left).measures = r.measures := by
  unfold StringRec.stopped
  repeat' split
  · exact completed_measures _ r
  · exact completed_measures _ _
  all_goals rfl

/-- Every string takes its limit, counts its silence and forgets its report (R3, R18). -/
theorem shareInterval_measures (s : State) (k : StringId) :
    (strOf (shareInterval s) k).measures = (limitOf s k, (strOf s k).counted.silence, false) := by
  obtain ⟨cap, share, p, q, r, hr, hrec, -⟩ := strOf_beforeJoins s k
  have hshares : (r.withShares cap share p q).measures = r.measures := rfl
  have hout : (strOf (shareInterval s) k).measures = (strOf (beforeJoins s) k).measures := by
    rw [strOf_shareInterval]; rfl
  rw [hout, hrec, stopped_measures, hshares, hr, beforeSharing_measures]

/-- The record of a released string (R6). -/
def StringRec.letGo (limit : Nat) (r : StringRec) : StringRec :=
  { r.counted with iLim := limit, isolateOnEnd := false, state := if r.isolateOnEnd then .isolated else .offline }

/-- Silence leaves a Faulted string counted. -/
theorem silenced_of_faulted {r : StringRec} (h : r.state = .faulted) (silent : Bool) : r.silenced silent = r.counted := by
  have hstand : r.counted.faulting = r.counted := if_pos (.inr h)
  rw [StringRec.silenced, hstand, ite_self]

/-- A Faulted string with no Trip row held is released (R6). -/
theorem beforeSharing_of_released {r : StringRec} (h : r.state = .faulted) (silent generating : Bool) (limit : Nat) :
    r.beforeSharing silent false generating limit = r.letGo limit := by
  have hc : r.counted.state = .faulted := h
  have hi : r.counted.isolateOnEnd = r.isolateOnEnd := rfl
  rw [StringRec.beforeSharing, silenced_of_faulted h]
  cases ho : r.isolateOnEnd <;>
    simp [StringRec.letGo, StringRec.released, hc, hi, ho, StringRec.started, StringRec.limited, StrState.eligible]

/-- A Faulted string with a Trip row held stays (R6). -/
theorem beforeSharing_of_gated {r : StringRec} (h : r.state = .faulted) (silent generating : Bool) (limit : Nat) :
    r.beforeSharing silent true generating limit = { r.counted with iLim := limit } := by
  have hc : r.counted.state = .faulted := h
  rw [StringRec.beforeSharing, silenced_of_faulted h]
  simp [StringRec.released, hc, StringRec.started, StringRec.limited, StrState.eligible]

/-- A Stopping string passes the first five steps, and so does a Ready one outside Generating. -/
theorem beforeSharing_of_passing {r : StringRec} {generating : Bool}
    (h : r.state = .stopping ∨ r.state = .ready ∧ generating = false) (gated : Bool) (limit : Nat) :
    r.beforeSharing false gated generating limit = { r.counted with iLim := limit } := by
  have hc : r.counted.state = r.state := rfl
  rcases h with h | ⟨h, rfl⟩ <;>
    simp [StringRec.beforeSharing, StringRec.silenced, StringRec.released, hc, h, StringRec.started, StringRec.limited,
      StrState.eligible]

/-- In Generating a Ready, Running or Derated string runs, derated below the rated current (R12, R18). -/
theorem beforeSharing_of_running {r : StringRec} (h : r.state = .ready ∨ r.state = .running ∨ r.state = .derated)
    (gated : Bool) (limit : Nat) :
    r.beforeSharing false gated true limit =
      { r.counted with iLim := limit, state := if limit < 480 then .derated else .running } := by
  have hc : r.counted.state = r.state := rfl
  rcases h with h | h | h <;>
    simp [StringRec.beforeSharing, StringRec.silenced, StringRec.released, hc, h, StringRec.started, StringRec.limited,
      StrState.eligible]

/-- A record that no stop is under way on. -/
theorem stopped_of_not {r : StringRec} (h : r.state ≠ .stopping) (mayReady : Bool) (left : Nat) :
    r.stopped mayReady left = r := if_neg h

/-- The record before the joins of a string that enters the sharing neither running nor stopping. -/
theorem strOf_beforeJoins_of_idle {s : State} {k : StringId} {r : StringRec}
    (h : (strOf s k).beforeSharing (fallsSilent s k) (stringGated (beforeRelease s) k) (generating s) (limitOf s k) = r)
    (hst : r.state ≠ .stopping) : ∃ cap share p q, strOf (beforeJoins s) k = r.withShares cap share p q := by
  obtain ⟨cap, share, p, q, r', hr, hrec, -⟩ := strOf_beforeJoins s k
  have hr' : r' = r := hr.trans h
  subst hr'
  exact ⟨cap, share, p, q, hrec.trans (stopped_of_not (r := r'.withShares cap share p q) hst _ _)⟩

/-- A released string before the joins. -/
theorem beforeJoins_of_released {s : State} {k : StringId} (hst : (strOf s k).state = .faulted)
    (hg : stringGated s k = false) (hs : fallsSilent s k = false) :
    (strOf (beforeJoins s) k).state = (if (strOf s k).isolateOnEnd then .isolated else .offline) ∧
    (strOf (beforeJoins s) k).isolateOnEnd = false ∧ (strOf (beforeJoins s) k).enabled = (strOf s k).enabled := by
  have hb : (strOf s k).beforeSharing (fallsSilent s k) (stringGated (beforeRelease s) k) (generating s) (limitOf s k) =
      (strOf s k).letGo (limitOf s k) := by
    rw [not_gated_beforeRelease hs hg, beforeSharing_of_released hst]
  have hne : ((strOf s k).letGo (limitOf s k)).state ≠ .stopping := by
    simp only [StringRec.letGo]; split <;> decide
  obtain ⟨cap, share, p, q, hrec⟩ := strOf_beforeJoins_of_idle hb hne
  rw [hrec]
  exact ⟨rfl, rfl, rfl⟩

/-- A released string that the host enables joins the queue where R7 lets it. -/
theorem shareInterval_joins {s : State} {k : StringId} (hst : (strOf s k).state = .faulted)
    (hg : stringGated s k = false) (hs : fallsSilent s k = false) (hi : (strOf s k).isolateOnEnd = false)
    (he : (strOf s k).enabled = true) (hm : s.mode.current = .idle ∨ s.mode.current = .generating)
    (hp : s.mode.target ≠ some .parked) (hst' : s.mode.target ≠ some .storm) (hl : (loopOf s k.loop).state ≠ .failed) :
    k ∈ (shareInterval s).conv.queue := by
  obtain ⟨hstate, -, henabled⟩ := beforeJoins_of_released hst hg hs
  have hoff : (strOf (beforeJoins s) k).state = .offline := by rw [hstate, hi]; rfl
  have hjoin : k ∈ (forEach StringId.all (joinEntered s) (beforeJoins s)).conv.queue := by
    refine forEach_once (P := SameFor k (beforeJoins s)) (Q := fun t => k ∈ t.conv.queue) k
      (fun j hj t ht => ht.trans ((touches_joinEntered s j t).others k hj.symm)) (fun u hu => ?_)
      (fun j _ t ht => joinEntered_keeps ht) (.refl k _)
    have hctx : context u = context s := hu.context.trans (context_beforeJoins s)
    have hentered : (strOf u k).state = .offline ∧ (strOf s k).state ≠ .offline := by
      rw [hu.record, hst]; exact ⟨hoff, StrState.noConfusion⟩
    rw [joinEntered, if_pos hentered, testJoin_queue]
    by_cases hin : k ∈ u.conv.queue
    · split
      · exact List.mem_append_left _ hin
      · exact hin
    · have hmay : mayJoin u k = true := by
        rw [mayJoin_iff, context_mode hctx, (context_loop hctx k.loop).1, hu.record, henabled]
        exact ⟨hoff, hm, hp, hst', he, hin, hl⟩
      rw [if_pos hmay]
      exact List.mem_append_right _ (List.mem_singleton.mpr rfl)
  have hqueue (t : State) : (commandStep t).conv.queue = t.conv.queue := rfl
  rw [shareInterval_eq, hqueue]
  exact hjoin

/-- The state a completed stop takes its string to (R11). -/
def StringRec.endedAs (mayReady : Bool) (r : StringRec) : StrState :=
  if r.isolateOnEnd then .isolated else if r.blockedStop = some false ∧ mayReady = true then .ready else .offline

theorem completed_state (mayReady : Bool) (r : StringRec) : (r.completed mayReady).state = r.endedAs mayReady := by
  unfold StringRec.completed StringRec.endedAs
  simp only
  repeat' split
  all_goals rfl

theorem completed_shares (mayReady : Bool) (r : StringRec) :
    (r.completed mayReady).share = r.share ∧ (r.completed mayReady).p = r.p ∧ (r.completed mayReady).q = r.q := by
  unfold StringRec.completed
  simp only
  repeat' split
  all_goals exact ⟨rfl, rfl, rfl⟩

/-- A blocked stop that completes opens the contactor (R4, R11). -/
theorem commandFor_completed_of_blocked {r : StringRec} (h : r.blockedStop = some true) (mayReady : Bool) :
    (commandFor (r.completed mayReady)).contactorClosed = false := by
  have hne : ¬(r.blockedStop = some false ∧ mayReady = true) := by rw [h]; simp
  unfold StringRec.completed
  simp only [if_neg hne]
  split <;> rfl

/-- Step 7 on a Stopping record (R11). -/
theorem stopped_of_stopping {r : StringRec} (h : r.state = .stopping) (mayReady : Bool) (left : Nat) :
    let t := r.stopped mayReady left
    (r.blockedStop = some true → t.state = r.endedAs mayReady ∧ (commandFor t).contactorClosed = false) ∧
    (r.blockedStop ≠ some true → t.share = left ∧ t.p = scale r.p left r.share ∧ t.q = scale r.q left r.share ∧
      (left = 0 → t.state = r.endedAs mayReady) ∧ (left ≠ 0 → t.state = .stopping ∧ (commandFor t).run = true)) := by
  simp only [StringRec.stopped, if_pos h]
  refine ⟨fun hb => ?_, fun hb => ?_⟩
  · rw [if_pos hb]
    exact ⟨completed_state _ _, commandFor_completed_of_blocked hb _⟩
  · rw [if_neg hb]
    by_cases h0 : left = 0
    · rw [if_pos h0]
      obtain ⟨hshare, hp, hq⟩ := completed_shares mayReady (r.ramped left)
      exact ⟨hshare, hp, hq, fun _ => completed_state _ _, fun hne => absurd h0 hne⟩
    · rw [if_neg h0]
      refine ⟨rfl, rfl, rfl, fun h' => absurd h' h0, fun _ => ⟨h, ?_⟩⟩
      have hst : (r.ramped left).state = .stopping := h
      have hbl : (r.ramped left).blockedStop ≠ some true := hb
      simp only [commandFor, hst, if_neg hbl]

/-- A Stopping string as the interval leaves it (R11). -/
theorem shareInterval_of_stopping {s : State} {k : StringId} (hst : (strOf s k).state = .stopping)
    (hs : fallsSilent s k = false) :
    let r := strOf s k
    let t := strOf (shareInterval s) k
    let left := leftOf s r.share
    (r.blockedStop = some true → t.state = r.endedAs (mayReady s k) ∧ t.out.contactorClosed = false) ∧
    (r.blockedStop ≠ some true → t.share = left ∧ t.p = scale r.p left r.share ∧ t.q = scale r.q left r.share ∧
      (left = 0 → t.state = r.endedAs (mayReady s k)) ∧ (left ≠ 0 → t.state = .stopping ∧ t.out.run = true)) := by
  obtain ⟨cap, share, p, q, r, hr, hrec, hkept⟩ := strOf_beforeJoins s k
  rw [hs, beforeSharing_of_passing (.inl hst)] at hr
  subst hr
  obtain ⟨rfl, rfl, rfl⟩ := hkept (by simp only [StringRec.counted, hst, StrState.eligible])
  have hstop := stopped_of_stopping (r := ({ (strOf s k).counted with iLim := limitOf s k } : StringRec).withShares cap
    (strOf s k).share (strOf s k).p (strOf s k).q) hst (mayReady s k) (leftOf s (strOf s k).share)
  simp only [strOf_shareInterval]
  rw [hrec]
  exact hstop

/-- A string that runs in Generating after the interval (R12, R18). -/
theorem shareInterval_of_running {s : State} {k : StringId} (hg : s.mode.current = .generating)
    (hs : fallsSilent s k = false)
    (hst : (strOf s k).state = .ready ∨ (strOf s k).state = .running ∨ (strOf s k).state = .derated) :
    (strOf (shareInterval s) k).state = (if limitOf s k < 480 then .derated else .running) ∧
    (strOf (shareInterval s) k).out.run = true := by
  have hgen : generating s = true := by simp [generating, hg]
  have hb : (strOf s k).beforeSharing (fallsSilent s k) (stringGated (beforeRelease s) k) (generating s) (limitOf s k) =
      { (strOf s k).counted with iLim := limitOf s k, state := if limitOf s k < 480 then .derated else .running } := by
    rw [hs, hgen]; exact beforeSharing_of_running hst _ _
  have hne : (if limitOf s k < 480 then StrState.derated else .running) ≠ .stopping := by split <;> decide
  obtain ⟨cap, share, p, q, hrec⟩ := strOf_beforeJoins_of_idle hb hne
  rw [strOf_shareInterval, hrec]
  refine ⟨rfl, ?_⟩
  simp only [commandFor, StringRec.withShares]
  by_cases hlow : limitOf s k < 480
  · simp only [if_pos hlow]
  · simp only [if_neg hlow]

/-- A Faulted string that a Trip row holds stays Faulted, and a Ready one outside Generating stays Ready. -/
theorem shareInterval_of_staying {s : State} {k : StringId}
    (h : (strOf s k).beforeSharing (fallsSilent s k) (stringGated (beforeRelease s) k) (generating s) (limitOf s k) =
      { (strOf s k).counted with iLim := limitOf s k })
    (hst : (strOf s k).state ≠ .stopping) : (strOf (shareInterval s) k).state = (strOf s k).state := by
  obtain ⟨cap, share, p, q, hrec⟩ := strOf_beforeJoins_of_idle h hst
  rw [strOf_shareInterval, hrec]
  rfl

/-- The granted record outside Generating and in it (R16). -/
theorem shareInterval_granted_cases (s : State) :
    (s.mode.current ≠ .generating → (shareInterval s).conv.granted = ⟨0, 0, 0, .p⟩) ∧
    (s.mode.current = .generating → (shareInterval s).conv.granted = grantedNow (beforeSharing s)) := by
  have hmode := context_mode (context_beforeSharing s)
  rw [shareInterval_granted]
  unfold sharingStep
  rw [hmode]
  exact ⟨fun h => by rw [if_neg h], fun h => by rw [if_pos h]⟩

/-- Settles O26: the frame and the measures through the reactions, and each string by the state the interval finds it in. -/
theorem shareIntervalRewritesTheRecord : Obligations.ShareIntervalRewritesTheRecord := by
  unfold Obligations.ShareIntervalRewritesTheRecord
  intro s hp
  have ht : outside (react shareInterval s) = outside (shareInterval (beginEvent s)) := outside_react hp
  have hctx : context (shareInterval (beginEvent s)) = context s := context_shareInterval (beginEvent s)
  have hmeasures (k : StringId) : (strOf (react shareInterval s) k).measures =
      (limitOf s k, (strOf s k).counted.silence, false) :=
    (congrArg StringRec.measures (outside_strOf ht k)).trans (shareInterval_measures (beginEvent s) k)
  obtain ⟨hgrid, htherm, hstore, hretained, -, -⟩ := react_frame hp hctx (base_shareInterval _)
  have hgranted := outside_field (f := fun u => u.conv.granted) (fun _ => rfl) ht
  obtain ⟨hzero, hshared⟩ := shareInterval_granted_cases (beginEvent s)
  refine ⟨_, rfl, fun k => congrArg (·.1) (hmeasures k), fun k hi => ?_, fun k => congrArg (·.2.2) (hmeasures k),
    fun h => hgranted.trans (hzero h), fun h => hgranted.trans (hshared h),
    (outside_field (f := fun u => u.conv.request) (fun _ => rfl) ht).trans (context_request hctx),
    (outside_field (f := fun u => u.conv.dips) (fun _ => rfl) ht).trans (context_dips hctx),
    hgrid, htherm, hstore, hretained, shareInterval (beginEvent s), react_eq hp _, fun k hst hg hs => ?_,
    fun k c hc hne hst hh => ?_, fun k hst hs => ?_, fun k hg hs hst => shareInterval_of_running (s := beginEvent s) hg hs hst,
    fun k hg hs hst => ?_⟩
  · have hsilence : (strOf (react shareInterval s) k).silence = (strOf s k).counted.silence :=
      congrArg (·.2.1) (hmeasures k)
    rw [hsilence, StringRec.counted]
    simp only [hi, false_or]
  · obtain ⟨hstate, hisolate, -⟩ := beforeJoins_of_released (s := beginEvent s) hst hg hs
    rw [strOf_shareInterval]
    exact ⟨hstate, fun _ => hisolate, fun hi he hm hpk hstm hl =>
      shareInterval_joins (s := beginEvent s) hst hg hs hi he hm hpk hstm hl⟩
  · have hgate := gated_beforeRelease (s := beginEvent s) hc hne hh
    refine (shareInterval_of_staying (s := beginEvent s) ?_ ?_).trans hst
    · rw [hgate]; exact beforeSharing_of_gated hst _ _ _
    · rw [strOf_beginEvent, hst]; decide
  · have hstop := shareInterval_of_stopping (s := beginEvent s) hst hs
    have hended : (strOf s k).endedAs (mayReady (beginEvent s) k) =
        if (strOf s k).isolateOnEnd then .isolated
        else if (strOf s k).blockedStop = some false ∧ s.mode.current = .generating ∧ s.mode.target = none ∧
          (loopOf s k.loop).state.flowing = true then .ready else .offline :=
      if_congr Iff.rfl rfl (if_congr (and_congr_right fun _ => mayReady_iff (beginEvent s) k) rfl rfl)
    simp only [strOf_beginEvent, hended] at hstop
    exact hstop
  · have hgen : generating (beginEvent s) = false := by simp [generating, hg]
    refine (shareInterval_of_staying (s := beginEvent s) ?_ ?_).trans hst
    · rw [show fallsSilent (beginEvent s) k = false from hs, hgen]
      exact beforeSharing_of_passing (.inr ⟨hst, rfl⟩) _ _
    · rw [strOf_beginEvent, hst]; decide

end Sys2Proof.Machine

/-! SUPPORT. The ride-through curve: its reading below, between, at and above its points, and its rise with the voltage (R35). -/

namespace Sys2Proof.Machine

/-! ## Rising points -/

theorem curveRises_cons (p q : CurvePoint) (rest : List CurvePoint) :
    curveRises (p :: q :: rest) = true ↔ p.u < q.u ∧ p.t ≤ q.t ∧ curveRises (q :: rest) = true := by
  simp [curveRises, and_assoc]

/-- What follows in a rising curve rises itself. -/
theorem curveRises_of_append {before after : List CurvePoint} (h : curveRises (before ++ after) = true) :
    curveRises after = true := by
  induction before with
  | nil => exact h
  | cons p before ih =>
    refine ih ?_
    cases hl : before ++ after with
    | nil => rfl
    | cons q rest =>
      rw [List.cons_append, hl, curveRises_cons] at h
      exact h.2.2

/-- The points of a rising curve lie above its first. -/
theorem u_lt_of_mem {p r : CurvePoint} {rest : List CurvePoint} (h : curveRises (p :: rest) = true) (hr : r ∈ rest) :
    p.u < r.u := by
  induction rest generalizing p with
  | nil => cases hr
  | cons q rest ih =>
    obtain ⟨hlt, -, hrest⟩ := (curveRises_cons p q rest).mp h
    rcases List.mem_cons.mp hr with rfl | hr
    · exact hlt
    · exact hlt.trans (ih hrest hr)

/-! ## Reading -/

theorem curveValue_of_lt {p : CurvePoint} {v : Nat} (h : v < p.u) (rest : List CurvePoint) :
    curveValue (p :: rest) v = .ms p.t := if_pos h

theorem curveValue_of_le {p : CurvePoint} {v : Nat} (h : p.u ≤ v) (rest : List CurvePoint) :
    curveValue (p :: rest) v = curveFrom p rest v := if_neg (Nat.not_lt.mpr h)

theorem curveFrom_of_lt {q : CurvePoint} {v : Nat} (h : v < q.u) (p : CurvePoint) (rest : List CurvePoint) :
    curveFrom p (q :: rest) v = .ms (p.t + (q.t - p.t) * (v - p.u) / (q.u - p.u)) := if_pos h

theorem curveFrom_of_le {q : CurvePoint} {v : Nat} (h : q.u ≤ v) (p : CurvePoint) (rest : List CurvePoint) :
    curveFrom p (q :: rest) v = curveFrom q rest v := if_neg (Nat.not_lt.mpr h)

/-- Points up to one at or below the voltage do not count. -/
theorem curveValue_append {q : CurvePoint} {v : Nat} (hv : q.u ≤ v) (before after : List CurvePoint)
    (h : curveRises (before ++ q :: after) = true) : curveValue (before ++ q :: after) v = curveFrom q after v := by
  have from_append : ∀ (l : List CurvePoint) (p : CurvePoint), curveRises (p :: (l ++ q :: after)) = true →
      curveFrom p (l ++ q :: after) v = curveFrom q after v := by
    intro l
    induction l with
    | nil => exact fun p _ => curveFrom_of_le hv p after
    | cons r l ih =>
      intro p hp
      obtain ⟨-, -, hr⟩ := (curveRises_cons p r _).mp hp
      have hle : r.u ≤ v := (u_lt_of_mem hr (by simp)).le.trans hv
      exact (curveFrom_of_le hle p _).trans (ih r hr)
  cases before with
  | nil => exact curveValue_of_le hv after
  | cons p before =>
    have hle : p.u ≤ v := (u_lt_of_mem h (by simp)).le.trans hv
    exact (curveValue_of_le hle _).trans (from_append before p h)

/-- Between two neighbouring points the curve is the line through them. -/
theorem curveValue_between {before after : List CurvePoint} {p q : CurvePoint} {v : Nat}
    (h : curveRises (before ++ p :: q :: after) = true) (hp : p.u ≤ v) (hq : v < q.u) :
    curveValue (before ++ p :: q :: after) v = .ms (p.t + (q.t - p.t) * (v - p.u) / (q.u - p.u)) :=
  (curveValue_append hp before (q :: after) h).trans (curveFrom_of_lt hq p after)

/-- At a point that another follows the curve is that point's allowance. -/
theorem curveValue_at {before after : List CurvePoint} {p q : CurvePoint}
    (h : curveRises (before ++ p :: q :: after) = true) : curveValue (before ++ p :: q :: after) p.u = .ms p.t := by
  obtain ⟨hlt, -, -⟩ := (curveRises_cons p q after).mp (curveRises_of_append h)
  simpa using curveValue_between h le_rfl hlt

/-- From the last point on the curve is unlimited. -/
theorem curveValue_from_last {before : List CurvePoint} {p : CurvePoint} {v : Nat}
    (h : curveRises (before ++ [p]) = true) (hv : p.u ≤ v) : curveValue (before ++ [p]) v = .unlimited :=
  curveValue_append hv before [] h

/-! ## The rise with the voltage -/

/-- The line between two points does not fall, and stays within their allowances. -/
theorem line_le {p q : CurvePoint} (ht : p.t ≤ q.t) {v w : Nat} (hvw : v ≤ w) (hw : w < q.u) :
    p.t + (q.t - p.t) * (v - p.u) / (q.u - p.u) ≤ p.t + (q.t - p.t) * (w - p.u) / (q.u - p.u) ∧
    p.t + (q.t - p.t) * (w - p.u) / (q.u - p.u) ≤ q.t := by
  have hrise : (q.t - p.t) * (v - p.u) ≤ (q.t - p.t) * (w - p.u) := Nat.mul_le_mul_left _ (by omega)
  have htop : (q.t - p.t) * (w - p.u) / (q.u - p.u) ≤ q.t - p.t :=
    Nat.div_le_of_le_mul (by rw [Nat.mul_comm]; exact Nat.mul_le_mul_right _ (by omega))
  exact ⟨Nat.add_le_add_left (Nat.div_le_div_right hrise) _, by omega⟩

/-- From a point on, no allowance lies below that point's, and none falls as the voltage rises. -/
theorem curveFrom_mono {p : CurvePoint} {rest : List CurvePoint} (h : curveRises (p :: rest) = true) :
    (∀ w b, curveFrom p rest w = .ms b → p.t ≤ b) ∧
    ∀ v w, v ≤ w → ∀ a b, curveFrom p rest v = .ms a → curveFrom p rest w = .ms b → a ≤ b := by
  induction rest generalizing p with
  | nil => exact ⟨fun _ _ hb => (Allowance.noConfusion hb), fun _ _ _ _ _ ha => Allowance.noConfusion ha⟩
  | cons q rest ih =>
    obtain ⟨-, ht, hrest⟩ := (curveRises_cons p q rest).mp h
    obtain ⟨hlow, hmono⟩ := ih hrest
    refine ⟨fun w b hb => ?_, fun v w hvw a b ha hb => ?_⟩
    · rcases Nat.lt_or_ge w q.u with hw | hw
      · rw [curveFrom_of_lt hw, Allowance.ms.injEq] at hb
        exact hb ▸ Nat.le_add_right _ _
      · rw [curveFrom_of_le hw] at hb
        exact ht.trans (hlow w b hb)
    · rcases Nat.lt_or_ge v q.u with hv | hv
      · rw [curveFrom_of_lt hv, Allowance.ms.injEq] at ha
        rcases Nat.lt_or_ge w q.u with hw | hw
        · rw [curveFrom_of_lt hw, Allowance.ms.injEq] at hb
          exact ha ▸ hb ▸ (line_le ht hvw hw).1
        · rw [curveFrom_of_le hw] at hb
          exact ha ▸ (line_le ht le_rfl hv).2.trans (hlow w b hb)
      · rw [curveFrom_of_le hv] at ha
        rw [curveFrom_of_le (hv.trans hvw)] at hb
        exact hmono v w hvw a b ha hb

/-- The allowance never falls as the voltage rises. -/
theorem curveValue_mono {c : List CurvePoint} (h : curveRises c = true) {v w : Nat} (hvw : v ≤ w) {a b : Nat}
    (ha : curveValue c v = .ms a) (hb : curveValue c w = .ms b) : a ≤ b := by
  cases c with
  | nil => cases ha
  | cons p rest =>
    obtain ⟨hlow, hmono⟩ := curveFrom_mono h
    rcases Nat.lt_or_ge v p.u with hv | hv
    · rw [curveValue_of_lt hv, Allowance.ms.injEq] at ha
      rcases Nat.lt_or_ge w p.u with hw | hw
      · rw [curveValue_of_lt hw, Allowance.ms.injEq] at hb
        exact (ha.symm.trans hb).le
      · rw [curveValue_of_le hw] at hb
        exact ha ▸ hlow w b hb
    · rw [curveValue_of_le hv] at ha
      rw [curveValue_of_le (hv.trans hvw)] at hb
      exact hmono v w hvw a b ha hb

/-- Settles O32: each part of the curve by the points before it, which do not count, and its rise by induction on the points. -/
theorem curveIsReadBetweenItsPoints : Obligations.CurveIsReadBetweenItsPoints := by
  unfold Obligations.CurveIsReadBetweenItsPoints
  intro c _ h
  refine ⟨fun p hp v hv => ?_, fun before after p q hc v hv hq => ?_, fun p hp v hv => ?_, fun p hp => ?_,
    fun v w hvw a ha b hb => curveValue_mono h hvw ha hb⟩
  · obtain ⟨rest, rfl⟩ := List.head?_eq_some_iff.mp hp
    exact curveValue_of_lt hv rest
  · subst hc
    exact curveValue_between h hv hq
  · obtain ⟨before, rfl⟩ := List.getLast?_eq_some_iff.mp hp
    exact curveValue_from_last h hv
  · obtain ⟨before, after, hsplit⟩ := List.append_of_mem hp
    have hne : c ≠ [] := by rintro rfl; cases hp
    have hc : c = before ++ p :: (after ++ [c.getLast hne]) := by
      rw [← List.cons_append, ← List.append_assoc, ← hsplit, List.dropLast_append_getLast hne]
    obtain ⟨q, rest, hq⟩ : ∃ q rest, after ++ [c.getLast hne] = q :: rest :=
      List.exists_cons_of_ne_nil (by simp)
    rw [hq] at hc
    subst hc
    exact curveValue_at h

end Sys2Proof.Machine

/-! SUPPORT. What the grid monitor asks of its neighbours: fault rows, strings stopped, the mode changed, the source of the budget,
each with what it leaves alone (R12, R40, R88 to R91, R136). -/

namespace Sys2Proof.Machine

/-! ## The rows of unit 1 -/

theorem codeOfRow_rowOf_one (c : FaultCode) : codeOfRow (rowOf c 1) = c := by cases c <;> rfl

theorem rowOf_one_injective {c d : FaultCode} (h : rowOf c 1 = rowOf d 1) : c = d := by
  rw [← codeOfRow_rowOf_one c, h, codeOfRow_rowOf_one]

theorem rowOf_one_lt (c : FaultCode) : rowOf c 1 < 79 := by cases c <;> decide

theorem faultState_raise_of_ne {c d : FaultCode} (h : c ≠ d) (s : State) :
    faultState (raise c 1 s) d 1 = faultState s d 1 := raise_state_ne (fun e => h (rowOf_one_injective e)) s

theorem faultState_clearFault_of_ne {c d : FaultCode} (h : c ≠ d) (s : State) :
    faultState (clearFault c 1 s) d 1 = faultState s d 1 := clearFault_state_ne (fun e => h (rowOf_one_injective e)) s

theorem isActive_raise {s : State} (hl : s.faults.rows.length = 79) (c : FaultCode) :
    isActive (raise c 1 s) c 1 = true := isActive_iff.mpr (raise_state_self (hl ▸ rowOf_one_lt c))

theorem clearRow_not_active (noticed : Bool) (r : FaultRow) : (clearRow noticed r).state ≠ .active := by
  unfold clearRow
  split
  · split <;> simp
  · assumption

theorem isActive_clearFault (c : FaultCode) (unit : Nat) (s : State) : isActive (clearFault c unit s) c unit = false := by
  refine decide_eq_false fun h => ?_
  have hlt : rowOf c unit < s.faults.rows.length := by
    rw [← clearFault_rows_length c unit s]
    exact lt_length_of_held (by rw [show (rowAt _ _).state = .active from h]; decide)
  simp only [faultState, rowAt, clearFault, getD_updateAt_self hlt] at h
  exact clearRow_not_active _ _ h

/-- A row whose state stands is Active where it was. -/
theorem isActive_congr {s t : State} {c : FaultCode} {unit : Nat} (h : faultState t c unit = faultState s c unit) :
    isActive t c unit = isActive s c unit := congrArg (fun x : RowState => decide (x = .active)) h

/-- A row that no reaction moves stands where the reactions' own operations are at work. -/
theorem faultState_of_beside {s t : State} (h : beside t = beside s) {c : FaultCode}
    (hc : reactiveRow (rowOf c 1) = false) : faultState t c 1 = faultState s c 1 :=
  outside_rowState (outside_of_beside h) hc

/-- A field that the reactions' own operations leave. -/
theorem field_of_beside {β : Type} {f : State → β} (hf : ∀ s, f (outside s) = f s) {s t : State}
    (h : beside t = beside s) : f t = f s := outside_field hf (outside_of_beside h)

/-! ## The strings stopped (R12) -/

theorem touches_stopOne (b : Bool) (k : StringId) (s : State) : Touches k s (stopOne b k s) := by
  unfold stopOne
  split
  · exact touches_stopString b k s
  · split
    · exact touches_modStr k _ s
    · exact .refl k s

/-- A string that an event stops does not run. -/
theorem stopOne_not_eligible (b : Bool) (k : StringId) (s : State) :
    (strOf (stopOne b k s) k).state.eligible = false := by
  unfold stopOne
  split
  · rw [stopString, strOf_setStrState_self]; rfl
  · next hst =>
    have hkeep : (strOf s k).state.eligible = false := by
      revert hst; cases (strOf s k).state <;> decide
    split
    · rw [strOf_modStr_self]; exact hkeep
    · exact hkeep

theorem noneRuns_stopStrings (b : Bool) (s : State) : NoneRuns (stopStrings b s) := by
  refine noneRuns_emptyQueue fun k => ?_
  obtain ⟨u, -, hstop⟩ := forEach_sameFor (touches_stopOne b) k s
  rw [hstop.record]
  exact stopOne_not_eligible b k u

theorem noStringRuns_of_noneRuns {s : State} (h : NoneRuns s) : NoStringRuns s := by
  intro k
  have hk := h k
  revert hk
  cases (strOf s k).state <;> decide

/-! ## The mode changed (R136) -/

theorem stringsOnMode_mode (b : Bool) (m : Mode) (t : Option Mode) (s : State) :
    (stringsOnMode b m t s).mode = s.mode := by
  rcases stringsOnMode_cases b m t s with h | h | h | h <;> rw [h] <;> simp

theorem handMode_mode (a b : Mode) (s : State) : (handMode a b s).mode = s.mode := by
  simp only [handMode]; split <;> simp

theorem changeMode_mode (current : Mode) (target : Option Mode) (cause : Cause) (s : State) :
    (changeMode current target cause s).mode =
      if current = s.mode.current ∧ target = s.mode.target then s.mode
      else s.mode.changed s.clock current target cause := by
  simp only [changeMode]
  split
  · rfl
  · split
    · rw [stringsOnMode_mode]
    · rw [handMode_mode, stringsOnMode_mode]

/-- A change of the mode record leaves the mode and the target it is called with. -/
theorem changeMode_reached (current : Mode) (target : Option Mode) (cause : Cause) (s : State) :
    (changeMode current target cause s).mode.current = current ∧
    (changeMode current target cause s).mode.target = target := by
  rw [changeMode_mode]
  split
  · next h => exact ⟨h.1.symm, h.2.symm⟩
  · exact ⟨rfl, rfl⟩

@[simp] theorem beside_modeOnLost (s : State) : beside (modeOnLost s) = beside s := by
  unfold modeOnLost; split <;> simp

@[simp] theorem beside_modeOnReturn (s : State) : beside (modeOnReturn s) = beside s := by
  unfold modeOnReturn; split <;> simp

theorem noneRuns_modeOnLost {s : State} (h : NoneRuns s) : NoneRuns (modeOnLost s) := by
  unfold modeOnLost
  split
  · exact h
  · exact noneRuns_changeMode h

theorem modeOnLost_reached {s : State} (h : s.mode.current ≠ .lockout) :
    (modeOnLost s).mode.current = .isolated ∧ (modeOnLost s).mode.target = none := by
  rw [modeOnLost, if_neg h]
  exact changeMode_reached _ _ _ _

theorem modeOnReturn_reached {s : State} (h : s.mode.current = .isolated) :
    (modeOnReturn s).mode.current = .parked ∧ (modeOnReturn s).mode.target = none ∧
    (modeOnReturn s).mode.cause = .gridReturned := by
  rw [modeOnReturn, if_pos h, changeMode_mode, if_neg (by rw [h]; simp)]
  exact ⟨rfl, rfl, rfl⟩

/-! ## The budget's answer to a grid state (R88 to R91) -/

/-- `t` is `s` after an answer of the budget, which writes its own record and the row of AUX_BRIDGE. -/
structure BudgetStep (s t : State) : Prop where
  budget : ∃ aux faults, t = { s with aux := aux, faults := faults }
  rows : ∀ d, FaultCode.auxBridge ≠ d → faultState t d 1 = faultState s d 1

theorem BudgetStep.refl (s : State) : BudgetStep s s := ⟨⟨_, _, rfl⟩, fun _ _ => rfl⟩

theorem BudgetStep.trans {s t u : State} (h : BudgetStep s t) (h' : BudgetStep t u) : BudgetStep s u := by
  obtain ⟨⟨_, _, rfl⟩, hrows⟩ := h
  obtain ⟨⟨_, _, rfl⟩, hrows'⟩ := h'
  exact ⟨⟨_, _, rfl⟩, fun d hd => (hrows' d hd).trans (hrows d hd)⟩

theorem BudgetStep.of_aux (s : State) (aux : Budget) : BudgetStep s { s with aux := aux } :=
  ⟨⟨_, _, rfl⟩, fun _ _ => rfl⟩

theorem BudgetStep.of_raise (s : State) : BudgetStep s (raise .auxBridge 1 s) :=
  ⟨⟨_, _, rfl⟩, fun _ hd => faultState_raise_of_ne hd s⟩

theorem BudgetStep.of_clear (s : State) : BudgetStep s (clearFault .auxBridge 1 s) :=
  ⟨⟨_, _, rfl⟩, fun _ hd => faultState_clearFault_of_ne hd s⟩

/-- A field that is neither the budget nor the fault table. -/
theorem BudgetStep.field {s t : State} (h : BudgetStep s t) {β : Type} {f : State → β}
    (hf : ∀ s aux faults, f { s with aux := aux, faults := faults } = f s) : f t = f s := by
  obtain ⟨⟨_, _, rfl⟩, -⟩ := h
  exact hf _ _ _

theorem budgetStep_judgeCharger (s : State) : BudgetStep s (judgeCharger s) := by
  unfold judgeCharger
  split
  · split
    · exact .refl s
    · exact .of_aux s _
  · exact .refl s

theorem budgetStep_sourceToBattery (s : State) : BudgetStep s (sourceToBattery s) := by
  simp only [sourceToBattery]
  split
  · exact (BudgetStep.of_aux s _).trans (.of_clear _)
  · exact .of_aux s _

theorem budgetStep_sourceToGrid (s : State) : BudgetStep s (sourceToGrid s) := by
  refine BudgetStep.trans ?_ (budgetStep_judgeCharger _)
  split
  · exact (BudgetStep.of_aux s _).trans (.of_clear _)
  · exact .of_aux s _

theorem budgetStep_auxOnDip (s : State) : BudgetStep s (auxOnDip s) := by
  unfold auxOnDip
  split
  · exact ((BudgetStep.of_aux s _).trans (.of_raise _)).trans (.of_aux _ _)
  · exact .refl s
  · exact .of_aux s _

theorem budgetStep_auxOnRecovering (s : State) : BudgetStep s (auxOnRecovering s) := by
  unfold auxOnRecovering
  split
  · exact .refl s
  · exact budgetStep_sourceToGrid s
  · exact .of_aux s _

theorem budgetStep_auxOnNormal (s : State) : BudgetStep s (auxOnNormal s) := by
  unfold auxOnNormal
  split
  · exact .refl s
  · exact .refl s
  · exact .of_aux s _

theorem budgetStep_auxOnLost (s : State) : BudgetStep s (auxOnLost s) := by
  unfold auxOnLost
  split
  · exact budgetStep_sourceToBattery s
  · exact budgetStep_sourceToBattery s
  · exact .of_aux s _

theorem sourceToBattery_aux (s : State) :
    (sourceToBattery s).aux.source = .battery ∧ (sourceToBattery s).aux.held = none ∧
    (sourceToBattery s).aux.bridge = none ∧ (sourceToBattery s).aux.normal = none := by
  simp only [sourceToBattery]
  split <;> exact ⟨rfl, rfl, rfl, rfl⟩

/-- A loss of the grid leaves the source Battery, with no count of Normal, and ends a hold that ran (R89, R90). -/
theorem auxOnLost_aux (s : State) :
    (auxOnLost s).aux.source = .battery ∧ (auxOnLost s).aux.normal = none ∧
    (s.aux.source ≠ .battery → (auxOnLost s).aux.held = none ∧ (auxOnLost s).aux.bridge = none) := by
  obtain ⟨hsource, hheld, hbridge, hnormal⟩ := sourceToBattery_aux s
  unfold auxOnLost
  cases h : s.aux.source
  · exact ⟨hsource, hnormal, fun _ => ⟨hheld, hbridge⟩⟩
  · exact ⟨hsource, hnormal, fun _ => ⟨hheld, hbridge⟩⟩
  · exact ⟨h, rfl, fun hne => absurd rfl hne⟩

/-- A grid that becomes Normal leaves the source, and on Battery starts the 10 s count (R91). -/
theorem auxOnNormal_aux (s : State) :
    (auxOnNormal s).aux.source = s.aux.source ∧
    (s.aux.source = .battery → (auxOnNormal s).aux.normal = some ⟨s.clock, 10000⟩) := by
  unfold auxOnNormal
  cases h : s.aux.source
  · exact ⟨h, fun hb => nomatch hb⟩
  · exact ⟨h, fun hb => nomatch hb⟩
  · exact ⟨h, fun _ => rfl⟩

/-- A dip on Grid leaves the source Bridged, the dispatchable held, the bridge timer loaded and the charger withdrawn (R88). -/
theorem auxOnDip_aux {s : State} (h : s.aux.source = .grid) :
    (auxOnDip s).aux.source = .bridged ∧
    (auxOnDip s).aux.held = some (400 - s.store.working.controlReserve - s.store.working.brakeReserve) ∧
    (auxOnDip s).aux.bridge = some ⟨s.clock, s.store.working.bridgeInterval⟩ ∧
    (auxOnDip s).aux.claims.charger.submitted = false := by
  have hwithdraw (t : State) : (withdrawClaim .charger t).aux.source = t.aux.source ∧
      (withdrawClaim .charger t).aux.held = t.aux.held ∧ (withdrawClaim .charger t).aux.bridge = t.aux.bridge ∧
      (withdrawClaim .charger t).aux.claims.charger.submitted = false := by
    refine ⟨?_, ?_, ?_, submitted_withdrawClaim .charger t⟩ <;> (unfold withdrawClaim; simp only; split <;> rfl)
  simp only [auxOnDip, h]
  exact hwithdraw _

theorem auxBridge_auxOnDip {s : State} (h : s.aux.source = .grid) (hl : s.faults.rows.length = 79) :
    isActive (auxOnDip s) .auxBridge 1 = true := by
  simp only [auxOnDip, h]
  exact isActive_raise hl .auxBridge

/-! ## Through the reactions and the end of the event -/

/-- With no transition in flight the reactions and the end of the event leave the mode record. -/
theorem react_mode {s : State} (hp : s.powered = true) {f : State → State}
    (h : (f (beginEvent s)).mode.target = none) : (react f s).mode.kept = (f (beginEvent s)).mode.kept := by
  rw [react_eq hp, finish_kept, settle_mode h]

theorem react_noneRuns {s : State} (hp : s.powered = true) {f : State → State} (h : NoneRuns (f (beginEvent s))) :
    NoneRuns (react f s) := by
  rw [react_eq hp]
  exact noneRuns_conv (finish_conv _) (settle_noneRuns h)

/-- A row that no reaction moves stands at the end of the event as the event's own effect leaves it. -/
theorem react_isActive {s : State} (hp : s.powered = true) {f : State → State} {c : FaultCode}
    (hc : reactiveRow (rowOf c 1) = false) : isActive (react f s) c 1 = isActive (f (beginEvent s)) c 1 :=
  isActive_congr (outside_rowState (outside_react hp) hc)

/-- A field that neither the reactions nor the end of the event write. -/
theorem react_field {β : Type} {g : State → β} (hg : ∀ s, g (outside s) = g s) {s : State} (hp : s.powered = true)
    (f : State → State) : g (react f s) = g (f (beginEvent s)) := outside_field hg (outside_react hp)

end Sys2Proof.Machine

/-! SUPPORT. The grid's state machine: what its steps never write, the entry to Lost, and the ways back to Normal (R31 to R41). -/

namespace Sys2Proof.Machine

/-! ## What the steps of the state machine never write -/

/-- The grid record without the state and the fields of the states: the latest sample and the three monitors. -/
def Grid.reading (g : Grid) : Grid :=
  { g with state := .normal, entryTime := 0, dip := none, recovery := none, dwellStart := none }

/-- `t` is `s` after steps of the grid's state machine: the thermal records, the power request, the granted powers, the latest
sample and the monitors stand, and GRID_OV with an M3 that is not beyond. -/
structure GridStep (s t : State) : Prop where
  therm : t.therm = s.therm
  request : t.conv.request = s.conv.request
  granted : t.conv.granted = s.conv.granted
  reading : t.grid.reading = s.grid.reading
  overRow : s.grid.m3.beyond = false → faultState t .gridOv 1 = faultState s .gridOv 1

theorem GridStep.refl (s : State) : GridStep s s := ⟨rfl, rfl, rfl, rfl, fun _ => rfl⟩

theorem GridStep.m3 {s t : State} (h : GridStep s t) : t.grid.m3 = s.grid.m3 :=
  show t.grid.reading.m3 = s.grid.reading.m3 from congrArg Grid.m3 h.reading

theorem GridStep.trans {s t u : State} (h : GridStep s t) (h' : GridStep t u) : GridStep s u where
  therm := h'.therm.trans h.therm
  request := h'.request.trans h.request
  granted := h'.granted.trans h.granted
  reading := h'.reading.trans h.reading
  overRow hb := (h'.overRow (by rw [h.m3]; exact hb)).trans (h.overRow hb)

theorem GridStep.of_beside {s t : State} (h : beside t = beside s) : GridStep s t where
  therm := field_of_beside (f := State.therm) (fun _ => rfl) h
  request := field_of_beside (f := fun u => u.conv.request) (fun _ => rfl) h
  granted := field_of_beside (f := fun u => u.conv.granted) (fun _ => rfl) h
  reading := field_of_beside (f := fun u => u.grid.reading) (fun _ => rfl) h
  overRow _ := faultState_of_beside h (by decide)

theorem GridStep.of_budget {s t : State} (h : BudgetStep s t) : GridStep s t where
  therm := h.field (f := State.therm) fun _ _ _ => rfl
  request := h.field (f := fun u => u.conv.request) fun _ _ _ => rfl
  granted := h.field (f := fun u => u.conv.granted) fun _ _ _ => rfl
  reading := h.field (f := fun u => u.grid.reading) fun _ _ _ => rfl
  overRow _ := h.rows _ (by decide)

theorem GridStep.of_raise {c : FaultCode} {s : State} (h : s.grid.m3.beyond = false → c ≠ .gridOv) :
    GridStep s (raise c 1 s) := ⟨rfl, rfl, rfl, rfl, fun hb => faultState_raise_of_ne (h hb) s⟩

theorem GridStep.of_clear {c : FaultCode} (h : c ≠ .gridOv) (s : State) : GridStep s (clearFault c 1 s) :=
  ⟨rfl, rfl, rfl, rfl, fun _ => faultState_clearFault_of_ne h s⟩

theorem GridStep.of_modGrid {f : Grid → Grid} (h : ∀ g, (f g).reading = g.reading) (s : State) :
    GridStep s (modGrid f s) := ⟨rfl, rfl, rfl, h s.grid, fun _ => rfl⟩

theorem GridStep.of_dips (dips : List DipEntry) (s : State) :
    GridStep s { s with conv := { s.conv with dips := dips } } := ⟨rfl, rfl, rfl, rfl, fun _ => rfl⟩

theorem gridStep_entered (state : GridState) (s : State) : GridStep s (modGrid (fun g => g.entered s.clock state) s) :=
  .of_modGrid (f := fun g => g.entered s.clock state) (fun _ => rfl) s

/-! ## The entry to Lost (R40) -/

/-- The entry to Lost up to the budget's answer: the strings are stopped, the mode is Isolated unless Lockout, and everything
beside is as the raise and the new grid state left it. -/
theorem enterLost_eq (s : State) :
    ∃ m, enterLost s = auxOnLost m ∧ beside m = beside (modGrid (fun g => g.entered s.clock .lost) (raise .gridLost 1 s)) ∧
      NoneRuns m ∧ (s.mode.current ≠ .lockout → m.mode.current = .isolated ∧ m.mode.target = none) := by
  refine ⟨_, rfl, by simp, noneRuns_modeOnLost (noneRuns_stopStrings true _), fun h => modeOnLost_reached ?_⟩
  rw [stopStrings_mode]
  exact h

theorem enterLost_grid (s : State) : (enterLost s).grid = s.grid.entered s.clock .lost := by
  obtain ⟨m, heq, hbeside, -⟩ := enterLost_eq s
  rw [heq, (budgetStep_auxOnLost m).field (f := State.grid) fun _ _ _ => rfl]
  exact field_of_beside (f := State.grid) (fun _ => rfl) hbeside

/-- The entry to Lost writes the rows of GRID_LOST and AUX_BRIDGE, and those of the reactions. -/
theorem faultState_enterLost {d : FaultCode} (hlost : FaultCode.gridLost ≠ d) (hbridge : FaultCode.auxBridge ≠ d)
    (hd : reactiveRow (rowOf d 1) = false) (s : State) : faultState (enterLost s) d 1 = faultState s d 1 := by
  obtain ⟨m, heq, hbeside, -⟩ := enterLost_eq s
  rw [heq, (budgetStep_auxOnLost m).rows d hbridge, faultState_of_beside hbeside hd]
  exact faultState_raise_of_ne hlost s

theorem gridStep_enterLost (s : State) : GridStep s (enterLost s) := by
  obtain ⟨m, heq, hbeside, -⟩ := enterLost_eq s
  have hentered : GridStep s (modGrid (fun g => g.entered s.clock .lost) (raise .gridLost 1 s)) :=
    (GridStep.of_raise fun _ => by decide).trans (gridStep_entered .lost _)
  rw [heq]
  exact (hentered.trans (.of_beside hbeside)).trans (.of_budget (budgetStep_auxOnLost m))

theorem gridStep_lostBy {c : FaultCode} {s : State} (h : s.grid.m3.beyond = false → c ≠ .gridOv) :
    GridStep s (lostBy c s) := (GridStep.of_raise h).trans (gridStep_enterLost _)

/-- `t` is what the neighbours of a grid lost in `s` leave: GRID_LOST Active, no string running, the source Battery, the mode
Isolated unless Lockout (R40). -/
structure NeighboursStopped (s t : State) : Prop where
  row : isActive t .gridLost 1 = true
  strings : NoneRuns t
  source : t.aux.source = .battery
  normal : t.aux.normal = none
  released : s.aux.source ≠ .battery → t.aux.held = none ∧ t.aux.bridge = none
  mode : s.mode.current ≠ .lockout → t.mode.current = .isolated ∧ t.mode.target = none

theorem neighboursStopped_enterLost {s : State} (hl : s.faults.rows.length = 79) : NeighboursStopped s (enterLost s) := by
  obtain ⟨m, heq, hbeside, hstrings, hmode⟩ := enterLost_eq s
  have hstep := budgetStep_auxOnLost m
  have hm : m.mode = (auxOnLost m).mode := (hstep.field (f := State.mode) fun _ _ _ => rfl).symm
  have hsource : m.aux.source = s.aux.source := field_of_beside (f := fun u => u.aux.source) (fun _ => rfl) hbeside |>.trans rfl
  have hrow : isActive (auxOnLost m) .gridLost 1 = true := by
    rw [isActive_congr (hstep.rows .gridLost (by decide)), isActive_congr (faultState_of_beside hbeside (by decide))]
    exact isActive_raise hl .gridLost
  obtain ⟨hbattery, hnormal, hreleased⟩ := auxOnLost_aux m
  rw [heq]
  exact ⟨hrow, noneRuns_conv (hstep.field (f := State.conv) fun _ _ _ => rfl) hstrings, hbattery, hnormal,
    hsource ▸ hreleased, hm ▸ hmode⟩

/-- Of the state before, only the source and the mode count. -/
theorem NeighboursStopped.of_before {s s' t : State} (h : NeighboursStopped s' t) (hsource : s'.aux.source = s.aux.source)
    (hmode : s'.mode.current = s.mode.current) : NeighboursStopped s t :=
  ⟨h.row, h.strings, h.source, h.normal, hsource ▸ h.released, hmode ▸ h.mode⟩

theorem neighboursStopped_lostBy (c : FaultCode) {s : State} (hl : s.faults.rows.length = 79) :
    NeighboursStopped s (lostBy c s) :=
  (neighboursStopped_enterLost ((raise_rows_length c 1 s).trans hl)).of_before rfl rfl

/-- The row of the cause stays Active through the entry to Lost. -/
theorem isActive_lostBy {c : FaultCode} (hlost : FaultCode.gridLost ≠ c) (hbridge : FaultCode.auxBridge ≠ c)
    (hc : reactiveRow (rowOf c 1) = false) {s : State} (hl : s.faults.rows.length = 79) :
    isActive (lostBy c s) c 1 = true := by
  rw [lostBy, isActive_congr (faultState_enterLost hlost hbridge hc _)]
  exact isActive_raise hl c

/-- What the neighbours of a lost grid leave stands through the reactions and the end of the event. -/
theorem NeighboursStopped.react {s u : State} (hp : s.powered = true) {f : State → State}
    (h : NeighboursStopped u (f (beginEvent s))) : NeighboursStopped u (react f s) where
  row := (react_isActive hp (by decide)).trans h.row
  strings := react_noneRuns hp h.strings
  source := (react_field (g := fun t => t.aux.source) (fun _ => rfl) hp f).trans h.source
  normal := (react_field (g := fun t => t.aux.normal) (fun _ => rfl) hp f).trans h.normal
  released hne := by
    obtain ⟨hheld, hbridge⟩ := h.released hne
    exact ⟨(react_field (g := fun t => t.aux.held) (fun _ => rfl) hp f).trans hheld,
      (react_field (g := fun t => t.aux.bridge) (fun _ => rfl) hp f).trans hbridge⟩
  mode hne := by
    obtain ⟨hcurrent, htarget⟩ := h.mode hne
    have hkept := react_mode hp htarget
    exact ⟨(congrArg ModeCtl.current hkept).trans hcurrent, (congrArg ModeCtl.target hkept).trans htarget⟩

/-- The frame of an event that steps the state machine: what neither it nor the reactions write. -/
theorem react_gridFrame {s : State} (hp : s.powered = true) {f : State → State}
    (hstep : GridStep (beginEvent s) (f (beginEvent s))) (hb : base (f (beginEvent s)) = base s) :
    (react f s).conv.granted = s.conv.granted ∧ (react f s).conv.request = s.conv.request ∧
    (react f s).therm = s.therm ∧ (react f s).store = s.store ∧ (react f s).retained = s.retained :=
  ⟨(react_field (g := fun t => t.conv.granted) (fun _ => rfl) hp f).trans hstep.granted,
    (react_field (g := fun t => t.conv.request) (fun _ => rfl) hp f).trans hstep.request,
    (react_field (g := State.therm) (fun _ => rfl) hp f).trans hstep.therm,
    (react_field (g := State.store) (fun _ => rfl) hp f).trans (congrArg (·.2.2.2.2.2.1) hb),
    (react_field (g := State.retained) (fun _ => rfl) hp f).trans (congrArg (·.2.2.2.2.2.2) hb)⟩

/-- An event that loses the grid by a cause of its own. -/
theorem inLost_react {s : State} (hp : s.powered = true) (hl : s.faults.rows.length = 79) {f : State → State}
    {c : FaultCode} (hf : f (beginEvent s) = lostBy c (beginEvent s)) (hc : c = .gridRtExceed ∨ c = .gridOv)
    (hover : s.grid.m3.beyond = false → c ≠ .gridOv) : isActive (react f s) c 1 = true ∧ InLost s (react f s) := by
  have hrow : FaultCode.gridLost ≠ c ∧ FaultCode.auxBridge ≠ c ∧ reactiveRow (rowOf c 1) = false := by
    rcases hc with rfl | rfl <;> decide
  obtain ⟨hlost, hbridge, hquiet⟩ := hrow
  have hactive : isActive (react f s) c 1 = true := by
    rw [react_isActive hp hquiet, hf]
    exact isActive_lostBy hlost hbridge hquiet hl
  have hgrid : (react f s).grid = s.grid.entered s.clock .lost := by
    rw [react_field (g := State.grid) (fun _ => rfl) hp f, hf]
    exact enterLost_grid _
  have hstep : GridStep (beginEvent s) (f (beginEvent s)) := hf ▸ gridStep_lostBy hover
  have hstopped : NeighboursStopped (beginEvent s) (f (beginEvent s)) := hf ▸ neighboursStopped_lostBy c hl
  obtain ⟨hgridLost, hstrings, hsource, hnormal, hreleased, hmode⟩ := hstopped.react hp
  obtain ⟨hgranted, -, htherm, hstore, hretained⟩ :=
    react_gridFrame (f := f) hp hstep (by rw [hf, base_lostBy, base_beginEvent])
  refine ⟨hactive, ?_, ?_, ?_, ?_, ?_, hgridLost, noStringRuns_of_noneRuns hstrings, hsource, hnormal, hreleased, hmode,
    htherm, hstore, hretained, hgranted⟩
  all_goals rw [hgrid]; rfl

theorem rideThroughEnds_of_limited {s : State} {d : DipTiming} (hst : s.grid.state = .dip) (hd : s.grid.dip = some d)
    (ha : d.allowed ≠ .unlimited) : rideThroughEnds s = lostBy .gridRtExceed s := by
  simp only [rideThroughEnds, hst, hd, if_neg ha]

theorem overTimesOut_of_beyond {s : State} (hb : s.grid.m3.beyond = true) (hst : s.grid.state ≠ .lost) :
    overTimesOut s = lostBy .gridOv s := if_pos ⟨hb, hst⟩

/-- Settles O30: both expiries are an entry to Lost by a cause of their own. -/
theorem expiriesEnterLost : Obligations.ExpiriesEnterLost := by
  unfold Obligations.ExpiriesEnterLost
  rintro s hp ⟨hl, -⟩ hne
  refine ⟨fun d hd hst ha => ⟨_, rfl, inLost_react hp hl ?_ (.inl rfl) fun _ => by decide⟩,
    fun hb => ⟨_, rfl, inLost_react hp hl ?_ (.inr rfl) fun h => absurd (hb.symm.trans h) (by decide)⟩⟩
  · exact rideThroughEnds_of_limited (s := beginEvent s) hst hd ha
  · exact overTimesOut_of_beyond (s := beginEvent s) hb hne

/-! ## The ways back to Normal (R38, R41) -/

theorem recoveryEnds_grid (s : State) : (recoveryEnds s).grid = s.grid.entered s.clock .normal :=
  (budgetStep_auxOnNormal _).field (f := State.grid) fun _ _ _ => rfl

theorem isActive_recoveryEnds (s : State) : isActive (recoveryEnds s) .gridDip 1 = false :=
  (isActive_congr ((budgetStep_auxOnNormal _).rows .gridDip (by decide))).trans (isActive_clearFault .gridDip 1 _)

theorem recoveryEnds_aux (s : State) :
    (recoveryEnds s).aux.source = s.aux.source ∧
    (s.aux.source = .battery → (recoveryEnds s).aux.normal = some ⟨s.clock, 10000⟩) := auxOnNormal_aux _

theorem gridStep_recoveryEnds (s : State) : GridStep s (recoveryEnds s) :=
  ((gridStep_entered .normal s).trans (.of_clear (by decide) _)).trans (.of_budget (budgetStep_auxOnNormal _))

/-- The return of the grid up to the budget's answer: Isolated has become Parked, and everything beside is as the clearing of the
rows left it. -/
theorem gridReturns_eq (s : State) :
    ∃ m, gridReturns s = auxOnNormal m ∧
      beside m = beside (clearFault .gridDip 1 (clearFault .gridLost 1 (clearFault .gridRtExceed 1
        (modGrid (fun g => g.entered s.clock .normal) s)))) ∧
      (s.mode.current = .isolated →
        m.mode.current = .parked ∧ m.mode.target = none ∧ m.mode.cause = .gridReturned) :=
  ⟨_, rfl, beside_modeOnReturn _, fun h => modeOnReturn_reached h⟩

theorem gridReturns_grid (s : State) : (gridReturns s).grid = s.grid.entered s.clock .normal := by
  obtain ⟨m, heq, hbeside, -⟩ := gridReturns_eq s
  rw [heq, (budgetStep_auxOnNormal m).field (f := State.grid) fun _ _ _ => rfl]
  exact field_of_beside (f := State.grid) (fun _ => rfl) hbeside

theorem isActive_gridReturns (s : State) :
    isActive (gridReturns s) .gridLost 1 = false ∧ isActive (gridReturns s) .gridRtExceed 1 = false ∧
    isActive (gridReturns s) .gridDip 1 = false := by
  obtain ⟨m, heq, hbeside, -⟩ := gridReturns_eq s
  have hrow (d : FaultCode) (hd : FaultCode.auxBridge ≠ d) (hq : reactiveRow (rowOf d 1) = false) :=
    isActive_congr (((budgetStep_auxOnNormal m).rows d hd).trans (faultState_of_beside hbeside hq))
  rw [heq, hrow .gridLost (by decide) (by decide), hrow .gridRtExceed (by decide) (by decide),
    hrow .gridDip (by decide) (by decide), isActive_congr (faultState_clearFault_of_ne (by decide) _),
    isActive_clearFault, isActive_congr (faultState_clearFault_of_ne (by decide) _),
    isActive_congr (faultState_clearFault_of_ne (by decide) _), isActive_clearFault, isActive_clearFault]
  exact ⟨rfl, rfl, rfl⟩

theorem gridReturns_aux {s : State} (h : s.aux.source = .battery) :
    (gridReturns s).aux.normal = some ⟨s.clock, 10000⟩ := by
  obtain ⟨m, heq, hbeside, -⟩ := gridReturns_eq s
  have hsource : m.aux.source = s.aux.source := field_of_beside (f := fun u => u.aux.source) (fun _ => rfl) hbeside |>.trans rfl
  have hclock : m.clock = s.clock := field_of_beside (f := State.clock) (fun _ => rfl) hbeside |>.trans rfl
  rw [heq, (auxOnNormal_aux m).2 (hsource.trans h), hclock]

theorem gridReturns_mode {s : State} (h : s.mode.current = .isolated) :
    (gridReturns s).mode.current = .parked ∧ (gridReturns s).mode.target = none ∧
    (gridReturns s).mode.cause = .gridReturned := by
  obtain ⟨m, heq, -, hmode⟩ := gridReturns_eq s
  rw [heq, (budgetStep_auxOnNormal m).field (f := State.mode) fun _ _ _ => rfl]
  exact hmode h

theorem gridStep_gridReturns (s : State) : GridStep s (gridReturns s) := by
  obtain ⟨m, heq, hbeside, -⟩ := gridReturns_eq s
  have hcleared := (((gridStep_entered .normal s).trans (.of_clear (c := .gridRtExceed) (by decide) _)).trans
    (.of_clear (c := .gridLost) (by decide) _)).trans (.of_clear (c := .gridDip) (by decide) _)
  rw [heq]
  exact (hcleared.trans (.of_beside hbeside)).trans (.of_budget (budgetStep_auxOnNormal m))

/-- An event without reactions is quiet but for its own effect. -/
theorem quiet_event {s t : State} (hp : s.powered = true) {f : State → State} (h : Quiet t (f (beginEvent s))) :
    Quiet t (event f s) := by
  rw [event, if_pos hp]
  exact h.trans (quiet_finish _)

theorem dipListAging_quiet {s : State} (hp : s.powered = true) :
    Quiet { s with conv := { s.conv with
      dips := s.conv.dips.dropWhile fun e => s.grid.sampleNo - e.sample ≥ 10000 } } (event ageDips s) :=
  quiet_event hp ⟨rfl, rfl, rfl, rfl, rfl, rfl, fun _ => rfl⟩

theorem qHoldEnd_quiet {s : State} {r : RecoveryTiming} (hp : s.powered = true) (hr : s.grid.recovery = some r)
    (hst : s.grid.state = .recovering) :
    Quiet { s with grid := { s.grid with recovery := some { r with qHold := false } } } (event qHoldEnds s) := by
  have heq : qHoldEnds (beginEvent s) =
      modGrid (fun g => { g with recovery := some { r with qHold := false } }) (beginEvent s) := by
    simp only [qHoldEnds, beginEvent_grid, hst, hr]
  refine quiet_event hp ?_
  rw [heq]
  exact ⟨rfl, rfl, rfl, rfl, rfl, rfl, fun _ => rfl⟩

theorem grid_of_quiet {s t : State} (h : Quiet s t) : t.grid = s.grid :=
  outside_field (f := State.grid) (fun _ => rfl) h.1

theorem conv_of_quiet {s t : State} (h : Quiet s t) : t.conv = s.conv := h.2.1

/-- RECOVERY_TIMEOUT in Recovering, at the end of its event (R38, R91). -/
theorem recoveryTimeout_event {s : State} (hp : s.powered = true) (hst : s.grid.state = .recovering) :
    let t := react recoveryTimesOut s
    t.grid = s.grid.entered s.clock .normal ∧ isActive t .gridDip 1 = false ∧ t.aux.source = s.aux.source ∧
    (s.aux.source = .battery → t.aux.normal = some ⟨s.clock, 10000⟩) ∧ t.conv.granted = s.conv.granted ∧
    t.therm = s.therm ∧ t.store = s.store ∧ t.retained = s.retained := by
  have heq : recoveryTimesOut (beginEvent s) = recoveryEnds (beginEvent s) := if_pos hst
  obtain ⟨hsource, hnormal⟩ := recoveryEnds_aux (beginEvent s)
  obtain ⟨hgranted, -, htherm, hstore, hretained⟩ := react_gridFrame (f := recoveryTimesOut) hp
    (heq ▸ gridStep_recoveryEnds (beginEvent s)) (base_recoveryTimesOut _)
  refine ⟨?_, ?_, ?_, fun h => ?_, hgranted, htherm, hstore, hretained⟩
  · rw [react_field (g := State.grid) (fun _ => rfl) hp, heq]
    exact recoveryEnds_grid _
  · rw [react_isActive hp (by decide), heq]
    exact isActive_recoveryEnds _
  · rw [react_field (g := fun t => t.aux.source) (fun _ => rfl) hp, heq]
    exact hsource
  · rw [react_field (g := fun t => t.aux.normal) (fun _ => rfl) hp, heq]
    exact hnormal h

/-- The complete return dwell in Lost, at the end of its event: the grid, the rows and the budget (R41, R91). -/
theorem returnDwell_event {s : State} (hp : s.powered = true) (hst : s.grid.state = .lost)
    (hdwell : s.grid.dwellStart.isSome = true) :
    let t := react dwellCompletes s
    t.grid = s.grid.entered s.clock .normal ∧ isActive t .gridLost 1 = false ∧ isActive t .gridRtExceed 1 = false ∧
    isActive t .gridDip 1 = false ∧ (s.aux.source = .battery → t.aux.normal = some ⟨s.clock, 10000⟩) ∧
    (s.mode.current = .isolated →
      t.mode.current = .parked ∧ t.mode.target = none ∧ t.mode.cause = .gridReturned) := by
  have heq : dwellCompletes (beginEvent s) = gridReturns (beginEvent s) := if_pos ⟨hst, hdwell⟩
  obtain ⟨hlost, hexceed, hdip⟩ := isActive_gridReturns (beginEvent s)
  refine ⟨?_, ?_, ?_, ?_, fun h => ?_, fun h => ?_⟩
  · rw [react_field (g := State.grid) (fun _ => rfl) hp, heq]
    exact gridReturns_grid _
  · rw [react_isActive hp (by decide), heq, hlost]
  · rw [react_isActive hp (by decide), heq, hexceed]
  · rw [react_isActive hp (by decide), heq, hdip]
  · rw [react_field (g := fun t => t.aux.normal) (fun _ => rfl) hp, heq]
    exact gridReturns_aux (s := beginEvent s) h
  · obtain ⟨hcurrent, htarget, hcause⟩ := gridReturns_mode (s := beginEvent s) h
    rw [← heq] at hcurrent htarget hcause
    have hkept := react_mode hp htarget
    exact ⟨(congrArg ModeCtl.current hkept).trans hcurrent, (congrArg ModeCtl.target hkept).trans htarget,
      (congrArg ModeCtl.cause hkept).trans hcause⟩

/-- Settles O31: the aging and the end of the Q hold are quiet, and the two ways back to Normal pass through the reactions. -/
theorem gridExpiriesAct : Obligations.GridExpiriesAct := by
  unfold Obligations.GridExpiriesAct
  intro s hp
  refine ⟨?_, fun r hr hst => ?_, fun hst => ?_, fun hst hdwell => ?_⟩
  · have hquiet := dipListAging_quiet hp
    have hdips := congrArg Converter.dips (conv_of_quiet hquiet)
    exact ⟨_, rfl, hdips, hdips ▸ hquiet⟩
  · have hquiet := qHoldEnd_quiet hp hr hst
    exact ⟨_, rfl, congrArg Grid.recovery (grid_of_quiet hquiet), hquiet⟩
  · obtain ⟨hgrid, hrest⟩ := recoveryTimeout_event hp hst
    exact ⟨_, rfl, congrArg Grid.state hgrid, congrArg Grid.entryTime hgrid, congrArg Grid.recovery hgrid, hrest⟩
  · obtain ⟨hgrid, hlost, hexceed, hdip, hnormal, hmode⟩ := returnDwell_event hp hst hdwell
    have hstep : GridStep (beginEvent s) (dwellCompletes (beginEvent s)) := by
      rw [dwellCompletes, if_pos ⟨hst, hdwell⟩]
      exact gridStep_gridReturns _
    exact ⟨_, rfl, congrArg Grid.state hgrid, congrArg Grid.entryTime hgrid, congrArg Grid.dwellStart hgrid, hlost, hexceed,
      hdip, hnormal, hmode, react_gridFrame (f := dwellCompletes) hp hstep (base_dwellCompletes _)⟩

end Sys2Proof.Machine

/-! SUPPORT. The grid sample: one monitor judged, the three of them, and the rest of the sample's steps (R26 to R29, R32 to R34). -/

namespace Sys2Proof.Machine

/-! ## One monitor (R28, R29) -/

/-- The sample counts toward the change the monitor waits for. -/
def Monitor.counts (r : Monitor) (falling : Bool) (u : Nat) : Bool :=
  if r.beyond then countsReturn falling r.level u else countsBeyond falling r.level u

theorem sample_of_disarmed {r : Monitor} (h : r.armed = false) (falling : Bool) (u : Nat) :
    r.sample falling u = (r, .none) := by
  simp [Monitor.sample, h]

/-- The run that reaches what the filter needs turns the mark. -/
theorem sample_of_reached {r : Monitor} {falling : Bool} {u : Nat} (ha : r.armed = true) (hc : r.counts falling u = true)
    (hn : r.run + 1 ≥ r.needed) :
    r.sample falling u = ({ r with beyond := !r.beyond, run := 0 }, if r.beyond then .returning else .crossing) := by
  simp only [Monitor.counts] at hc
  simp only [Monitor.sample, ha, hc, hn, Bool.not_true, Bool.false_eq_true, if_false, if_true]

theorem sample_of_counted {r : Monitor} {falling : Bool} {u : Nat} (ha : r.armed = true) (hc : r.counts falling u = true)
    (hn : r.run + 1 < r.needed) : r.sample falling u = ({ r with run := r.run + 1 }, .none) := by
  simp only [Monitor.counts] at hc
  simp only [Monitor.sample, ha, hc, Nat.not_le.mpr hn, Bool.not_true, Bool.false_eq_true, if_false, if_true]

theorem sample_of_missed {r : Monitor} {falling : Bool} {u : Nat} (ha : r.armed = true) (hc : r.counts falling u = false) :
    r.sample falling u = ({ r with run := 0 }, .none) := by
  simp only [Monitor.counts] at hc
  simp only [Monitor.sample, ha, hc, Bool.not_true, Bool.false_eq_true, if_false]

theorem countsBeyond_iff (m : MonitorId) (level u : Nat) :
    countsBeyond m.falling level u = true ↔ if m = .m3 then u > level else u < level := by
  cases m <;> simp [countsBeyond, MonitorId.falling]

theorem countsReturn_iff (m : MonitorId) (level u : Nat) :
    countsReturn m.falling level u = true ↔ if m = .m3 then u + 20 ≤ level else u ≥ level + 20 := by
  cases m <;> simp [countsReturn, MonitorId.falling]

/-- An armed monitor that is not beyond, at a sample (R28). -/
theorem sample_of_not_beyond {r : Monitor} (ha : r.armed = true) (hb : r.beyond = false) (m : MonitorId) (u : Nat) :
    let counts : Prop := if m = .m3 then u > r.level else u < r.level
    (counts → r.run + 1 ≥ r.needed → r.sample m.falling u = ({ r with beyond := true, run := 0 }, .crossing)) ∧
    (counts → r.run + 1 < r.needed → r.sample m.falling u = ({ r with run := r.run + 1 }, .none)) ∧
    (¬counts → r.sample m.falling u = ({ r with run := 0 }, .none)) := by
  have hcounts : r.counts m.falling u = countsBeyond m.falling r.level u := by simp [Monitor.counts, hb]
  refine ⟨fun hc hn => ?_, fun hc hn => ?_, fun hc => ?_⟩
  · rw [sample_of_reached ha (hcounts.trans ((countsBeyond_iff m _ _).mpr hc)) hn, hb]; rfl
  · exact sample_of_counted ha (hcounts.trans ((countsBeyond_iff m _ _).mpr hc)) hn
  · exact sample_of_missed ha (hcounts.trans (Bool.eq_false_iff.mpr fun h => hc ((countsBeyond_iff m _ _).mp h)))

/-- An armed monitor that is beyond, at a sample (R29). -/
theorem sample_of_beyond {r : Monitor} (ha : r.armed = true) (hb : r.beyond = true) (m : MonitorId) (u : Nat) :
    let counts : Prop := if m = .m3 then u + 20 ≤ r.level else u ≥ r.level + 20
    (counts → r.run + 1 ≥ r.needed → r.sample m.falling u = ({ r with beyond := false, run := 0 }, .returning)) ∧
    (counts → r.run + 1 < r.needed → r.sample m.falling u = ({ r with run := r.run + 1 }, .none)) ∧
    (¬counts → r.sample m.falling u = ({ r with run := 0 }, .none)) := by
  have hcounts : r.counts m.falling u = countsReturn m.falling r.level u := by simp [Monitor.counts, hb]
  refine ⟨fun hc hn => ?_, fun hc hn => ?_, fun hc => ?_⟩
  · rw [sample_of_reached ha (hcounts.trans ((countsReturn_iff m _ _).mpr hc)) hn, hb]; rfl
  · exact sample_of_counted ha (hcounts.trans ((countsReturn_iff m _ _).mpr hc)) hn
  · exact sample_of_missed ha (hcounts.trans (Bool.eq_false_iff.mpr fun h => hc ((countsReturn_iff m _ _).mp h)))

/-- A monitor that is not beyond and raises no crossing stays so. -/
theorem sample_not_beyond {r : Monitor} {falling : Bool} {u : Nat} (hb : r.beyond = false)
    (h : (r.sample falling u).2 ≠ .crossing) : (r.sample falling u).1.beyond = false := by
  cases ha : r.armed
  · rw [sample_of_disarmed ha]; exact hb
  · cases hc : r.counts falling u
    · rw [sample_of_missed ha hc]; exact hb
    · by_cases hn : r.run + 1 ≥ r.needed
      · rw [sample_of_reached ha hc hn, hb] at h
        exact absurd rfl h
      · rw [sample_of_counted ha hc (Nat.not_le.mp hn)]; exact hb

/-! ## The three monitors -/

/-- The monitors after a sample. -/
def Grid.judged (g : Grid) : Grid :=
  { g with m1 := (g.m1.sample true g.u).1, m2 := (g.m2.sample true g.u).1, m3 := (g.m3.sample false g.u).1 }

/-- Step 2 of the sample. -/
def judgeMonitors (s : State) : State := followOver s.grid.m3.beyond s.grid.judged.m3.beyond (modGrid Grid.judged s)

/-- The grid sample as its steps (R26): the voltage, the monitors, the list, M1's event, the overvoltage, the state's timing. -/
theorem gridSample_eq (reading : Nat) (s : State) :
    gridSample reading s = checkTiming (checkOver (applyM1 ((s.grid.m1.sample true (takeVoltage reading s).grid.u).2)
      (ageDips (judgeMonitors (takeVoltage reading s))))) := rfl

/-- Following M3's mark writes the over-since sample and the row of GRID_OV. -/
theorem followOver_eq (before after : Bool) (s : State) :
    ∃ faults, followOver before after s =
      { s with
        faults := faults
        grid := { s.grid with overSince :=
          if after then (if before then s.grid.overSince else some s.grid.sampleNo)
          else if before then none else s.grid.overSince } } := by
  cases before <;> cases after <;> exact ⟨_, rfl⟩

theorem followOver_cleared (s : State) : isActive (followOver true false s) .gridOv 1 = false := isActive_clearFault _ _ _

theorem judgeMonitors_eq (s : State) :
    ∃ faults, judgeMonitors s =
      { s with
        faults := faults
        grid := { s.grid.judged with overSince :=
          if s.grid.judged.m3.beyond then (if s.grid.m3.beyond then s.grid.overSince else some s.grid.sampleNo)
          else if s.grid.m3.beyond then none else s.grid.overSince } } := followOver_eq _ _ _

theorem followOver_rows_length (before after : Bool) (s : State) :
    (followOver before after s).faults.rows.length = s.faults.rows.length := by
  unfold followOver
  split
  · split <;> rfl
  · split
    · exact clearFault_rows_length .gridOv 1 _
    · rfl

theorem judgeMonitors_rows_length (s : State) : (judgeMonitors s).faults.rows.length = s.faults.rows.length :=
  followOver_rows_length _ _ (modGrid Grid.judged s)

theorem monitorOf_judged (s : State) (m : MonitorId) :
    monitorOf (judgeMonitors s) m = ((monitorOf s m).sample m.falling s.grid.u).1 := by
  obtain ⟨faults, heq⟩ := judgeMonitors_eq s
  rw [heq]
  cases m <;> rfl

theorem judgeMonitors_m3 (s : State) : (judgeMonitors s).grid.m3 = s.grid.judged.m3 := by
  obtain ⟨faults, heq⟩ := judgeMonitors_eq s
  rw [heq]

/-- M3's crossing makes its sample the over-since sample (R28). -/
theorem judgeMonitors_crossing {s : State} (hb : s.grid.m3.beyond = false)
    (ha : (judgeMonitors s).grid.m3.beyond = true) : (judgeMonitors s).grid.overSince = some s.grid.sampleNo := by
  rw [judgeMonitors_m3] at ha
  simp only [judgeMonitors, hb, ha]
  rfl

/-- M3's return ends its over-since sample and clears GRID_OV (R29). -/
theorem judgeMonitors_return {s : State} (hb : s.grid.m3.beyond = true)
    (ha : (judgeMonitors s).grid.m3.beyond = false) :
    (judgeMonitors s).grid.overSince = none ∧ isActive (judgeMonitors s) .gridOv 1 = false := by
  rw [judgeMonitors_m3] at ha
  simp only [judgeMonitors, hb, ha]
  exact ⟨rfl, followOver_cleared _⟩

/-! ## The rest of the sample -/

theorem gridStep_ageDips (s : State) : GridStep s (ageDips s) := .of_dips _ s

theorem gridStep_beginDip (s : State) : GridStep s (beginDip s) := by
  have hbegun : GridStep s (raise .gridDip 1 (addDip s)) :=
    (GridStep.of_dips _ s).trans (GridStep.of_raise fun _ => by decide)
  refine hbegun.trans ?_
  simp only [beginDip]
  split
  · exact (GridStep.of_modGrid (f := fun g => { g.entered s.clock .dip with
      dip := some { start := g.sampleNo, minU := g.u, allowed := curveValue s.store.working.curve g.u } })
      (fun _ => rfl) _).trans (.of_budget (budgetStep_auxOnDip _))
  · exact gridStep_lostBy fun _ => by decide

theorem gridStep_beginRecovery (s : State) : GridStep s (beginRecovery s) :=
  (GridStep.of_modGrid (f := fun g => { g.entered s.clock .recovering with
    recovery := some { start := g.sampleNo, qHold := true } }) (fun _ => rfl) s).trans
    (.of_budget (budgetStep_auxOnRecovering _))

theorem gridStep_applyM1 (e : MonitorEvent) (s : State) : GridStep s (applyM1 e s) := by
  unfold applyM1
  split
  · exact gridStep_beginDip s
  · exact gridStep_beginDip s
  · exact gridStep_beginRecovery s
  · exact .refl s

theorem checkOver_of_not_beyond {s : State} (h : s.grid.m3.beyond = false) : checkOver s = s := by
  unfold checkOver
  split
  · rw [if_neg (by simp [h])]
  · rfl

theorem gridStep_checkOver (s : State) : GridStep s (checkOver s) := by
  unfold checkOver
  split
  · split
    · next hb => exact gridStep_lostBy fun h => absurd (hb.1.symm.trans h) (by decide)
    · exact .refl s
  · exact .refl s

theorem gridStep_checkDip (d : DipTiming) (s : State) : GridStep s (checkDip d s) := by
  refine (GridStep.of_modGrid (f := fun g => { g with dip := some { d with
    minU := min d.minU s.grid.u, allowed := curveValue s.store.working.curve (min d.minU s.grid.u) } })
    (fun _ => rfl) s).trans ?_
  simp only [checkDip]
  split
  · exact gridStep_lostBy fun _ => by decide
  · exact .refl _

theorem gridStep_checkRecovery (r : RecoveryTiming) (s : State) : GridStep s (checkRecovery r s) := by
  refine (GridStep.of_modGrid (f := fun g => { g with recovery := some { r with
    qHold := r.qHold && s.grid.sampleNo - r.start < 500 } }) (fun _ => rfl) s).trans ?_
  simp only [checkRecovery]
  split
  · exact gridStep_recoveryEnds _
  · exact .refl _

theorem gridStep_checkReturn (s : State) : GridStep s (checkReturn s) := by
  have hdwell (start : Option Nat) : GridStep s (modGrid (fun g => { g with dwellStart := start }) s) :=
    .of_modGrid (f := fun g => { g with dwellStart := start }) (fun _ => rfl) s
  simp only [checkReturn]
  split
  · split
    · exact (hdwell _).trans (gridStep_gridReturns _)
    · exact hdwell _
  · exact hdwell _

theorem gridStep_checkTiming (s : State) : GridStep s (checkTiming s) := by
  unfold checkTiming
  split
  · exact gridStep_checkDip _ s
  · exact gridStep_checkRecovery _ s
  · exact gridStep_checkReturn s
  · exact .refl s

/-- After the monitors are judged, a sample only steps the state machine. -/
theorem gridStep_gridSample (reading : Nat) (s : State) :
    GridStep (judgeMonitors (takeVoltage reading s)) (gridSample reading s) := by
  rw [gridSample_eq]
  exact (((gridStep_ageDips _).trans (gridStep_applyM1 _ _)).trans (gridStep_checkOver _)).trans (gridStep_checkTiming _)

/-- The sample and the monitors as the steps after step 2 leave them. -/
theorem monitorOf_gridStep {s t : State} (h : GridStep s t) (m : MonitorId) : monitorOf t m = monitorOf s m := by
  cases m
  · exact show t.grid.reading.m1 = s.grid.reading.m1 from congrArg Grid.m1 h.reading
  · exact show t.grid.reading.m2 = s.grid.reading.m2 from congrArg Grid.m2 h.reading
  · exact h.m3

/-! ## The sample at the end of its event -/

/-- The state in which a grid sample finds the part: the event begun, with the line's voltage shown at the pins. -/
def beforeSample (volts : Nat) (s : State) : State := beginEvent (setLines (fun l => { l with gridVolts := volts }) s)

/-- The state after a GRID_SAMPLE and its event. -/
def afterSample (volts : Nat) (s : State) : State :=
  react (gridSample volts) (setLines (fun l => { l with gridVolts := volts }) s)

theorem exec_gridSample (volts : Nat) (s : State) : exec (.gridSample volts) s = .next (afterSample volts s) := rfl

theorem afterSample_field {β : Type} {g : State → β} (hg : ∀ s, g (outside s) = g s) {s : State} (hp : s.powered = true)
    (volts : Nat) : g (afterSample volts s) = g (gridSample volts (beforeSample volts s)) :=
  react_field (s := setLines (fun l => { l with gridVolts := volts }) s) hg hp _

/-- The latest sample and the monitors at the end of the event are as step 2 leaves them. -/
theorem afterSample_reading {s : State} (hp : s.powered = true) (volts : Nat) :
    (afterSample volts s).grid.reading = (judgeMonitors (takeVoltage volts (beforeSample volts s))).grid.reading := by
  rw [afterSample_field (g := State.grid) (fun _ => rfl) hp]
  exact (gridStep_gridSample volts _).reading

theorem afterSample_voltage {s : State} (hp : s.powered = true) (volts : Nat) :
    (afterSample volts s).grid.volts = min volts 5000 ∧
    (afterSample volts s).grid.u = min 1500 (min volts 5000 * 1000 / 3300) ∧
    (afterSample volts s).grid.sampleTime = s.clock ∧ (afterSample volts s).grid.sampleNo = s.grid.sampleNo + 1 := by
  obtain ⟨faults, heq⟩ := judgeMonitors_eq (takeVoltage volts (beforeSample volts s))
  have h := afterSample_reading hp volts
  rw [heq] at h
  exact ⟨congrArg Grid.volts h, congrArg Grid.u h, congrArg Grid.sampleTime h, congrArg Grid.sampleNo h⟩

theorem afterSample_monitor {s : State} (hp : s.powered = true) (volts : Nat) (m : MonitorId) :
    monitorOf (afterSample volts s) m = ((monitorOf s m).sample m.falling (afterSample volts s).grid.u).1 := by
  have hu : (afterSample volts s).grid.u = (takeVoltage volts (beforeSample volts s)).grid.u :=
    (afterSample_voltage hp volts).2.1
  rw [hu, afterSample_field (g := fun t => monitorOf t m) (fun _ => by cases m <;> rfl) hp,
    monitorOf_gridStep (gridStep_gridSample volts _), monitorOf_judged]
  cases m <;> rfl

theorem afterSample_m3 {s : State} (hp : s.powered = true) (volts : Nat) :
    (afterSample volts s).grid.m3 = (judgeMonitors (takeVoltage volts (beforeSample volts s))).grid.m3 :=
  show (afterSample volts s).grid.reading.m3 = (judgeMonitors _).grid.reading.m3 from
    congrArg Grid.m3 (afterSample_reading hp volts)

theorem afterSample_crossing {s : State} (hp : s.powered = true) {volts : Nat} (hb : s.grid.m3.beyond = false)
    (ha : (afterSample volts s).grid.m3.beyond = true) :
    (afterSample volts s).grid.overSince = some (s.grid.sampleNo + 1) := by
  have h := afterSample_reading hp volts
  have hm3 := congrArg Monitor.beyond (afterSample_m3 hp volts)
  exact (congrArg Grid.overSince h).trans
    (judgeMonitors_crossing (s := takeVoltage volts (beforeSample volts s)) hb (hm3.symm.trans ha))

theorem afterSample_return {s : State} (hp : s.powered = true) {volts : Nat} (hb : s.grid.m3.beyond = true)
    (ha : (afterSample volts s).grid.m3.beyond = false) :
    (afterSample volts s).grid.overSince = none ∧ isActive (afterSample volts s) .gridOv 1 = false := by
  have h := afterSample_reading hp volts
  have hm3 := congrArg Monitor.beyond (afterSample_m3 hp volts)
  have hjudged := hm3.symm.trans ha
  obtain ⟨hover, hrow⟩ := judgeMonitors_return (s := takeVoltage volts (beforeSample volts s)) hb hjudged
  have hstands : isActive (afterSample volts s) .gridOv 1 = isActive (gridSample volts (beforeSample volts s)) .gridOv 1 :=
    react_isActive (s := setLines (fun l => { l with gridVolts := volts }) s) hp (by decide)
  exact ⟨(congrArg Grid.overSince h).trans hover, hstands.trans
    ((isActive_congr ((gridStep_gridSample volts (beforeSample volts s)).overRow hjudged)).trans hrow)⟩

/-- A monitor that is not beyond, at the end of the sample's event (R28). -/
theorem afterSample_of_not_beyond {s : State} (hp : s.powered = true) (volts : Nat) {m : MonitorId}
    (ha : (monitorOf s m).armed = true) (hb : (monitorOf s m).beyond = false) :
    let t := afterSample volts s
    let counts : Prop := if m = .m3 then t.grid.u > (monitorOf s m).level else t.grid.u < (monitorOf s m).level
    (counts → (monitorOf s m).run + 1 ≥ (monitorOf s m).needed →
      monitorOf t m = { monitorOf s m with beyond := true, run := 0 } ∧
      ((monitorOf s m).sample m.falling t.grid.u).2 = .crossing ∧
      (m = .m3 → t.grid.overSince = some (s.grid.sampleNo + 1))) ∧
    (counts → (monitorOf s m).run + 1 < (monitorOf s m).needed →
      monitorOf t m = { monitorOf s m with run := (monitorOf s m).run + 1 } ∧
      ((monitorOf s m).sample m.falling t.grid.u).2 = .none) ∧
    (¬counts → monitorOf t m = { monitorOf s m with run := 0 } ∧
      ((monitorOf s m).sample m.falling t.grid.u).2 = .none) := by
  have hmonitor := afterSample_monitor hp volts m
  obtain ⟨hreached, hcounted, hmissed⟩ := sample_of_not_beyond ha hb m (afterSample volts s).grid.u
  refine ⟨fun hc hn => ?_, fun hc hn => ?_, fun hc => ?_⟩
  · rw [hreached hc hn] at hmonitor ⊢
    refine ⟨hmonitor, rfl, ?_⟩
    rintro rfl
    exact afterSample_crossing hp hb (congrArg Monitor.beyond hmonitor)
  · rw [hcounted hc hn] at hmonitor ⊢
    exact ⟨hmonitor, rfl⟩
  · rw [hmissed hc] at hmonitor ⊢
    exact ⟨hmonitor, rfl⟩

/-- A monitor that is beyond, at the end of the sample's event (R29). -/
theorem afterSample_of_beyond {s : State} (hp : s.powered = true) (volts : Nat) {m : MonitorId}
    (ha : (monitorOf s m).armed = true) (hb : (monitorOf s m).beyond = true) :
    let t := afterSample volts s
    let counts : Prop := if m = .m3 then t.grid.u + 20 ≤ (monitorOf s m).level else t.grid.u ≥ (monitorOf s m).level + 20
    (counts → (monitorOf s m).run + 1 ≥ (monitorOf s m).needed →
      monitorOf t m = { monitorOf s m with beyond := false, run := 0 } ∧
      (m = .m3 → t.grid.overSince = none ∧ isActive t .gridOv 1 = false)) ∧
    (counts → (monitorOf s m).run + 1 < (monitorOf s m).needed →
      monitorOf t m = { monitorOf s m with run := (monitorOf s m).run + 1 }) ∧
    (¬counts → monitorOf t m = { monitorOf s m with run := 0 }) := by
  have hmonitor := afterSample_monitor hp volts m
  obtain ⟨hreached, hcounted, hmissed⟩ := sample_of_beyond ha hb m (afterSample volts s).grid.u
  refine ⟨fun hc hn => ?_, fun hc hn => ?_, fun hc => ?_⟩
  · rw [hreached hc hn] at hmonitor
    refine ⟨hmonitor, ?_⟩
    rintro rfl
    exact afterSample_return hp hb (congrArg Monitor.beyond hmonitor)
  · rw [hcounted hc hn] at hmonitor
    exact hmonitor
  · rw [hmissed hc] at hmonitor
    exact hmonitor

/-- Settles O28: the monitors are judged in the sample's second step, and nothing after it writes them. -/
theorem gridSampleJudgesTheMonitors : Obligations.GridSampleJudgesTheMonitors := by
  unfold Obligations.GridSampleJudgesTheMonitors
  intro s volts hp
  obtain ⟨hvolts, hu, htime, hno⟩ := afterSample_voltage hp volts
  have hbase : base (gridSample volts (beforeSample volts s)) = base (beforeSample volts s) := base_gridSample _ _
  have hstep := gridStep_gridSample volts (beforeSample volts s)
  obtain ⟨faults, hjudged⟩ := judgeMonitors_eq (takeVoltage volts (beforeSample volts s))
  rw [hjudged] at hstep
  refine ⟨_, exec_gridSample volts s, hvolts, hu, htime, hno,
    (afterSample_field (g := State.lines) (fun _ => rfl) hp volts).trans (congrArg (·.2.2.1) hbase), fun m ha => ?_,
    fun m ha hb => afterSample_of_not_beyond hp volts ha hb, fun m ha hb => afterSample_of_beyond hp volts ha hb,
    (afterSample_field (g := fun t => t.conv.request) (fun _ => rfl) hp volts).trans hstep.request,
    (afterSample_field (g := fun t => t.conv.granted) (fun _ => rfl) hp volts).trans hstep.granted,
    (afterSample_field (g := State.therm) (fun _ => rfl) hp volts).trans hstep.therm,
    (afterSample_field (g := State.store) (fun _ => rfl) hp volts).trans (congrArg (·.2.2.2.2.2.1) hbase),
    (afterSample_field (g := State.retained) (fun _ => rfl) hp volts).trans (congrArg (·.2.2.2.2.2.2) hbase),
    (afterSample_field (g := State.clock) (fun _ => rfl) hp volts).trans (congrArg (·.2.2.2.1) hbase)⟩
  rw [afterSample_monitor hp volts m, sample_of_disarmed ha]

end Sys2Proof.Machine

/-! SUPPORT. An M1 crossing in a grid sample: a dip that is ridden through, and a third that ends in Lost (R32, R40, R88). -/

namespace Sys2Proof.Machine

/-! ## A dip begins or the grid is lost -/

theorem beginDip_of_few {s : State} (h : s.conv.dips.length < 2) : beginDip s = enterDip (raise .gridDip 1 (addDip s)) :=
  if_pos (by simp [addDip]; omega)

theorem beginDip_of_many {s : State} (h : s.conv.dips.length ≥ 2) :
    beginDip s = lostBy .gridRtExceed (raise .gridDip 1 (addDip s)) := if_neg (by simp [addDip]; omega)

theorem budgetStep_enterDip (s : State) :
    BudgetStep (modGrid (fun g => { g.entered s.clock .dip with
      dip := some ⟨g.sampleNo, g.u, curveValue s.store.working.curve g.u⟩ }) s) (enterDip s) := budgetStep_auxOnDip _

theorem enterDip_grid (s : State) :
    (enterDip s).grid = { s.grid.entered s.clock .dip with
      dip := some ⟨s.grid.sampleNo, s.grid.u, curveValue s.store.working.curve s.grid.u⟩ } :=
  (budgetStep_enterDip s).field (f := State.grid) fun _ _ _ => rfl

theorem enterDip_store (s : State) : (enterDip s).store = s.store :=
  (budgetStep_enterDip s).field (f := State.store) fun _ _ _ => rfl

theorem modGrid_dip_self {s : State} {d : Option DipTiming} (h : s.grid.dip = d) :
    modGrid (fun g => { g with dip := d }) s = s := by subst h; rfl

theorem not_exceededBy_zero (a : Allowance) : a.exceededBy 0 = false := by cases a <;> simp [Allowance.exceededBy]

/-- The sample that begins a dip times it at 0: its fields stand. -/
theorem checkTiming_enterDip (s : State) : checkTiming (enterDip s) = enterDip s := by
  have hself := modGrid_dip_self (s := enterDip s) (congrArg Grid.dip (enterDip_grid s))
  simp only [checkTiming, enterDip_grid, Grid.entered, checkDip, Nat.min_self, enterDip_store, Nat.sub_self,
    not_exceededBy_zero, Bool.false_eq_true, if_false]
  exact hself

/-- The sample that loses the grid does not end the return dwell. -/
theorem checkTiming_of_new_loss {s : State} (hst : s.grid.state = .lost) (hd : s.grid.dwellStart = none)
    (hr : 0 < s.store.working.returnDwell) :
    ∃ start, checkTiming s = modGrid (fun g => { g with dwellStart := start }) s := by
  have hshort : ¬(s.grid.sampleNo - s.grid.sampleNo ≥ s.store.working.returnDwell * 1000) := by omega
  simp only [checkTiming, hst, checkReturn, hd, Option.getD_none, if_neg hshort]
  split <;> exact ⟨_, rfl⟩

/-- A dip that is ridden through, at the end of its sample (R32, R88). -/
theorem dip_begins {s : State} (hdips : s.conv.dips.length < 2) (hsource : s.aux.source = .grid)
    (hl : s.faults.rows.length = 79) :
    let t := checkTiming (beginDip s)
    t.grid = { s.grid.entered s.clock .dip with
      dip := some ⟨s.grid.sampleNo, s.grid.u, curveValue s.store.working.curve s.grid.u⟩ } ∧
    t.conv.dips = s.conv.dips ++ [⟨s.clock, s.grid.sampleNo⟩] ∧ t.aux.source = .bridged ∧
    t.aux.held = some (400 - s.store.working.controlReserve - s.store.working.brakeReserve) ∧
    t.aux.bridge = some ⟨s.clock, s.store.working.bridgeInterval⟩ ∧ t.aux.claims.charger.submitted = false ∧
    isActive t .auxBridge 1 = true ∧ isActive t .gridDip 1 = true := by
  have hstep := budgetStep_enterDip (raise .gridDip 1 (addDip s))
  have hrow : isActive (enterDip (raise .gridDip 1 (addDip s))) .gridDip 1 = true :=
    (isActive_congr (hstep.rows .gridDip (by decide))).trans (isActive_raise (s := addDip s) hl .gridDip)
  obtain ⟨hbridged, hheld, hbridge, hcharger⟩ := auxOnDip_aux (s := modGrid _ (raise .gridDip 1 (addDip s))) hsource
  simp only [beginDip_of_few hdips, checkTiming_enterDip]
  exact ⟨enterDip_grid _, hstep.field (f := fun t => t.conv.dips) fun _ _ _ => rfl, hbridged, hheld, hbridge, hcharger,
    auxBridge_auxOnDip hsource ((raise_rows_length .gridDip 1 (addDip s)).trans hl), hrow⟩

theorem isActive_modGrid (f : Grid → Grid) (s : State) (c : FaultCode) (unit : Nat) :
    isActive (modGrid f s) c unit = isActive s c unit := rfl

theorem NeighboursStopped.of_modGrid {s t : State} (h : NeighboursStopped s t) (f : Grid → Grid) :
    NeighboursStopped s (modGrid f t) := ⟨h.row, h.strings, h.source, h.normal, h.released, h.mode⟩

/-- A third dip, at the end of its sample (R32, R40). -/
theorem third_dip_loses_the_grid {s : State} (hdips : s.conv.dips.length ≥ 2) (hr : 0 < s.store.working.returnDwell)
    (hl : s.faults.rows.length = 79) :
    let t := checkTiming (beginDip s)
    t.grid.state = .lost ∧ t.grid.dip = none ∧ isActive t .gridRtExceed 1 = true ∧ isActive t .gridDip 1 = true ∧
    NeighboursStopped s t := by
  have hl' : (raise .gridDip 1 (addDip s)).faults.rows.length = 79 := (raise_rows_length .gridDip 1 (addDip s)).trans hl
  have hgrid : (lostBy .gridRtExceed (raise .gridDip 1 (addDip s))).grid = s.grid.entered s.clock .lost := enterLost_grid _
  have hstore : (lostBy .gridRtExceed (raise .gridDip 1 (addDip s))).store = s.store :=
    congrArg (·.2.2.2.2.2.1) ((base_lostBy .gridRtExceed (raise .gridDip 1 (addDip s))).trans (base_raise ..))
  obtain ⟨start, htiming⟩ := checkTiming_of_new_loss (congrArg Grid.state hgrid) (congrArg Grid.dwellStart hgrid)
    (hstore ▸ hr)
  have hdip : isActive (lostBy .gridRtExceed (raise .gridDip 1 (addDip s))) .gridDip 1 = true := by
    rw [lostBy, isActive_congr (faultState_enterLost (by decide) (by decide) (by decide) _),
      isActive_congr (faultState_raise_of_ne (by decide) _)]
    exact isActive_raise (s := addDip s) hl .gridDip
  have hstopped : NeighboursStopped s (lostBy .gridRtExceed (raise .gridDip 1 (addDip s))) :=
    (neighboursStopped_lostBy .gridRtExceed hl').of_before rfl rfl
  simp only [beginDip_of_many hdips, htiming, isActive_modGrid, modGrid_grid, hgrid]
  exact ⟨rfl, rfl, isActive_lostBy (by decide) (by decide) (by decide) hl', hdip, hstopped.of_modGrid _⟩

/-! ## The crossing's sample -/

/-- The state in which a sample applies M1's event: the voltage taken, the monitors judged, the dip list aged. -/
def beforeM1 (reading : Nat) (s : State) : State := ageDips (judgeMonitors (takeVoltage reading s))

theorem beforeM1_eq (reading : Nat) (s : State) :
    ∃ faults since, beforeM1 reading s = { ageDips (takeVoltage reading s) with
      faults := faults
      grid := { (takeVoltage reading s).grid.judged with overSince := since } } := by
  obtain ⟨faults, heq⟩ := judgeMonitors_eq (takeVoltage reading s)
  exact ⟨faults, _, by rw [beforeM1, heq]; rfl⟩

/-- Of what a dip reads, the steps of the sample before it write the sample number, the dip list and the fault rows alone. -/
theorem beforeM1_frame (reading : Nat) (s : State) :
    (beforeM1 reading (beforeSample reading s)).conv.dips = (ageDips (takeVoltage reading s)).conv.dips ∧
    (beforeM1 reading (beforeSample reading s)).grid.sampleNo = s.grid.sampleNo + 1 ∧
    (beforeM1 reading (beforeSample reading s)).aux = s.aux ∧
    (beforeM1 reading (beforeSample reading s)).store = s.store ∧
    (beforeM1 reading (beforeSample reading s)).clock = s.clock ∧
    (beforeM1 reading (beforeSample reading s)).mode = s.mode := by
  obtain ⟨faults, since, heq⟩ := beforeM1_eq reading (beforeSample reading s)
  rw [heq]
  exact ⟨rfl, rfl, rfl, rfl, rfl, rfl⟩

theorem beforeM1_rows_length (reading : Nat) (s : State) :
    (beforeM1 reading s).faults.rows.length = s.faults.rows.length := judgeMonitors_rows_length (takeVoltage reading s)

/-- An M1 crossing in Normal or Recovering, with M3 neither beyond nor crossing, leaves the sample to the dip it begins. -/
theorem gridSample_of_crossing {s : State} {reading : Nat} (hst : s.grid.state = .normal ∨ s.grid.state = .recovering)
    (hb : s.grid.m3.beyond = false) (h3 : (s.grid.m3.sample false (perUnit (min reading 5000))).2 ≠ .crossing)
    (h1 : (s.grid.m1.sample true (perUnit (min reading 5000))).2 = .crossing) :
    gridSample reading s = checkTiming (beginDip (beforeM1 reading s)) := by
  obtain ⟨faults, since, heq⟩ := beforeM1_eq reading s
  have hstate : (beforeM1 reading s).grid.state = s.grid.state := by rw [heq]; rfl
  have hm3 : (beforeM1 reading s).grid.m3.beyond = false := by rw [heq]; exact sample_not_beyond hb h3
  have hkept : (beginDip (beforeM1 reading s)).grid.m3.beyond = false := by
    rw [(gridStep_beginDip _).m3]; exact hm3
  have happly : applyM1 .crossing (beforeM1 reading s) = beginDip (beforeM1 reading s) := by
    unfold applyM1
    rw [hstate]
    rcases hst with h | h <;> rw [h]
  have hevent : (s.grid.m1.sample true (takeVoltage reading s).grid.u).2 = .crossing := h1
  rw [gridSample_eq, hevent, ← beforeM1, happly, checkOver_of_not_beyond hkept]

/-- What the crossing's sample leaves at the end of its event: everything that the reactions do not write. -/
theorem afterSample_outside {s : State} (hp : s.powered = true) {u : Nat} {r : State}
    (h : gridSample u (beforeSample u s) = r) : outside (afterSample u s) = outside r := by
  rw [← h]
  exact outside_react (s := setLines (fun l => { l with gridVolts := u }) s) hp

/-- Settles O29: the crossing leaves the sample to a dip that begins, or to the loss of the grid by a third one. -/
theorem crossingBeginsADip : Obligations.CrossingBeginsADip := by
  unfold Obligations.CrossingBeginsADip
  rintro s u hp ⟨hl, -⟩ hreturn hst hsource hb h3 h1
  have hsample := gridSample_of_crossing (s := beforeSample u s) hst hb h3 h1
  have hlength := (beforeM1_rows_length u (beforeSample u s)).trans hl
  obtain ⟨hdips, hno, haux, hstore, hclock, hmode⟩ := beforeM1_frame u s
  generalize beforeM1 u (beforeSample u s) = y at *
  have hsource' : y.aux.source = .grid := haux ▸ hsource
  have hout := afterSample_outside hp hsample
  have hrow {c : FaultCode} (hc : reactiveRow (rowOf c 1) = false) :
      isActive (afterSample u s) c 1 = isActive (checkTiming (beginDip y)) c 1 := isActive_congr (outside_rowState hout hc)
  have hgrid : (afterSample u s).grid = (checkTiming (beginDip y)).grid := outside_field (f := State.grid) (fun _ => rfl) hout
  have hbegins (h : y.conv.dips.length < 2) := dip_begins h hsource' hlength
  have hloses (h : y.conv.dips.length ≥ 2) := third_dip_loses_the_grid h (by rw [hstore]; omega) hlength
  refine ⟨_, exec_gridSample u s, ?_, fun hfew => ?_, fun hmany => ?_⟩
  · rw [hrow (by decide)]
    rcases Nat.lt_or_ge y.conv.dips.length 2 with h | h
    · obtain ⟨-, -, -, -, -, -, -, hdip⟩ := hbegins h
      exact hdip
    · obtain ⟨-, -, -, hdip, -⟩ := hloses h
      exact hdip
  · obtain ⟨hentered, hlist, hbridged, hheld, hbridge, hcharger, hauxBridge, -⟩ := hbegins (hdips ▸ hfew)
    rw [hentered, hclock, hno, hstore] at hgrid
    rw [hdips, hclock, hno] at hlist
    rw [hstore] at hheld hbridge
    rw [hclock] at hbridge
    have hu : (afterSample u s).grid.u = y.grid.u := (congrArg Grid.u hgrid :)
    refine ⟨congrArg Grid.state hgrid, congrArg Grid.entryTime hgrid, ?_,
      (outside_field (f := fun t => t.conv.dips) (fun _ => rfl) hout).trans hlist,
      (outside_field (f := fun t => t.aux.source) (fun _ => rfl) hout).trans hbridged,
      (outside_field (f := fun t => t.aux.held) (fun _ => rfl) hout).trans hheld,
      (outside_field (f := fun t => t.aux.bridge) (fun _ => rfl) hout).trans hbridge,
      (outside_field (f := fun t => t.aux.claims.charger.submitted) (fun _ => rfl) hout).trans hcharger,
      (hrow (by decide)).trans hauxBridge⟩
    rw [hu]
    exact congrArg Grid.dip hgrid
  · obtain ⟨hlost, hdip, hexceed, -, hstopped⟩ := hloses (hdips ▸ hmany)
    have hend : NeighboursStopped y (afterSample u s) :=
      NeighboursStopped.react (s := setLines (fun l => { l with gridVolts := u }) s) hp (hsample ▸ hstopped)
    exact ⟨(congrArg Grid.state hgrid).trans hlost, (congrArg Grid.dip hgrid).trans hdip, hend.source,
      (hend.released (by rw [hsource']; decide)).1, (hrow (by decide)).trans hexceed, hend.row,
      noStringRuns_of_noneRuns hend.strings, hmode ▸ hend.mode⟩

end Sys2Proof.Machine

/-! SUPPORT. ArmGridMonitor: the body's fields, the monitor it writes, and the record in its replies (R27, R30, R168). -/

namespace Sys2Proof.Machine

/-! ## The body (R168) -/

/-- A body of ArmGridMonitor. -/
def armRequest (m : MonitorId) (arm : Bool) (level : BitVec 16) (direction n : Byte) : List Byte :=
  u8 m.num ++ u8 (bit arm) ++ pair level ++ [direction, n]

/-- The five fields of an ArmGridMonitor body. -/
theorem fields_of_armRequest (m : MonitorId) (arm : Bool) (level : BitVec 16) (direction n : Byte) :
    MonitorId.ofNum (natAt (armRequest m arm level direction n) 0) = some m ∧
    flagOf (byteAt (armRequest m arm level direction n) 1) = arm ∧
    wordAt (armRequest m arm level direction n) 2 = level.toNat ∧
    natAt (armRequest m arm level direction n) 4 = direction.toNat ∧
    natAt (armRequest m arm level direction n) 5 = n.toNat :=
  ⟨by cases m <;> rfl, by cases arm <;> rfl, congrArg BitVec.toNat (append_halves level), rfl, rfl⟩

/-- The direction byte of a monitor: Falling 0, Rising 1 (log 13). -/
theorem directionNum_eq (m : MonitorId) : directionNum m = if m = .m3 then 1 else 0 := by cases m <;> rfl

/-- The direction byte that ArmGridMonitor must carry for a monitor. -/
theorem directionByte_toNat (m : MonitorId) :
    (BitVec.ofNat 8 (if m = .m3 then 1 else 0)).toNat = directionNum m := by cases m <;> rfl

theorem directionNum_le_one (m : MonitorId) : directionNum m ≤ 1 := by cases m <;> decide

/-- A direction of the line is the monitor's. -/
theorem direction_iff {d : Nat} (hd : d ≤ 1) (m : MonitorId) :
    ((d = 0) ≠ (m.falling = true)) ↔ d ≠ directionNum m := by
  rcases Nat.le_one_iff_eq_zero_or_eq_one.mp hd with rfl | rfl <;> cases m <;> simp [MonitorId.falling, directionNum]

/-! ## The answer (R30) -/

theorem serve_armGridMonitor {s : State} (hr : notRemote s = false) (m : MonitorId) (arm : Bool) (level : BitVec 16)
    {direction n : Byte} (hd : direction.toNat ≤ 1) (hn : n.toNat ≠ 1) (hn8 : n.toNat ≤ 8) :
    serve .armGridMonitor (armRequest m arm level direction n) s =
      if s.grid.state = .dip ∨ s.grid.state = .recovering then (.busy, s)
      else if direction.toNat ≠ directionNum m ∨ (m = .m1 ∧ arm = false) then (.conflict, s)
      else (clampedIf (level.toNat > 1500), armMonitor m arm (min level.toNat 1500) n.toNat s) := by
  obtain ⟨hm, harm, hlevel, hdir, hcount⟩ := fields_of_armRequest m arm level direction n
  have hgood : ¬(direction.toNat > 1 ∨ n.toNat = 1 ∨ n.toNat > 8) := by omega
  simp only [serve, serveArmGridMonitor, hr, hm, harm, hlevel, hdir, hcount, if_neg hgood, direction_iff hd, refuse,
    Bool.false_eq_true, if_false]

/-- The record an accepted ArmGridMonitor writes. -/
def armedAs (m : MonitorId) (arm : Bool) (level count u : Nat) : Monitor :=
  { armed := arm, level := level, count := count, beyond := arm && judgeAlone m level u, run := 0 }

theorem judgeAlone_eq (m : MonitorId) (level u : Nat) :
    judgeAlone m level u = if m = .m3 then decide (u > level) else decide (u < level) := by
  cases m <;> simp [judgeAlone, countsBeyond, MonitorId.falling]

/-- The over-since sample as M3's new mark leaves it (R30). -/
def overSinceAfter (g : Grid) (beyond : Bool) : Option Nat :=
  if beyond then (if g.m3.beyond then g.overSince else some g.sampleNo) else none

theorem armMonitor_of_falling {m : MonitorId} (h : m ≠ .m3) (arm : Bool) (level count : Nat) (s : State) :
    armMonitor m arm level count s = setMonitor m (armedAs m arm level count s.grid.u) s := if_neg h

/-- M3 armed: its record and its over-since sample. -/
def armM3 (arm : Bool) (level count : Nat) (s : State) : State :=
  modGrid (fun g => { g with
    m3 := armedAs .m3 arm level count s.grid.u
    overSince := overSinceAfter s.grid (armedAs .m3 arm level count s.grid.u).beyond }) s

theorem armMonitor_m3_of_beyond {arm : Bool} {level count : Nat} {s : State}
    (h : (armedAs .m3 arm level count s.grid.u).beyond = true) :
    armMonitor .m3 arm level count s = armM3 arm level count s := by
  have hb : (arm && judgeAlone .m3 level s.grid.u) = true := h
  simp only [armMonitor, armM3, armedAs, hb, if_true, followOver, overSinceAfter, monitorOf]
  cases s.grid.m3.beyond <;> rfl

/-- An M3 that does not start beyond clears GRID_OV (R30). -/
theorem armMonitor_m3_of_within {arm : Bool} {level count : Nat} {s : State}
    (h : (armedAs .m3 arm level count s.grid.u).beyond = false) :
    armMonitor .m3 arm level count s = clearFault .gridOv 1 (armM3 arm level count s) := by
  have hb : (arm && judgeAlone .m3 level s.grid.u) = false := h
  simp only [armMonitor, armM3, armedAs, hb, Bool.false_eq_true, if_true, if_false, overSinceAfter]
  rfl

/-- What arming a monitor writes: its record, M3's over-since sample, and fault rows. -/
theorem armMonitor_eq (m : MonitorId) (arm : Bool) (level count : Nat) (s : State) :
    ∃ faults, armMonitor m arm level count s = setMonitor m (armedAs m arm level count s.grid.u)
      { s with
        faults := faults
        grid := { s.grid with overSince :=
          if m = .m3 then overSinceAfter s.grid (armedAs m arm level count s.grid.u).beyond else s.grid.overSince } } := by
  cases m
  · exact ⟨_, armMonitor_of_falling (by decide) arm level count s⟩
  · exact ⟨_, armMonitor_of_falling (by decide) arm level count s⟩
  · cases h : (armedAs .m3 arm level count s.grid.u).beyond
    · rw [armMonitor_m3_of_within h, armM3, h]; exact ⟨_, rfl⟩
    · rw [armMonitor_m3_of_beyond h, armM3, h]; exact ⟨_, rfl⟩

/-- What arming a monitor leaves. -/
theorem armMonitor_frame (m : MonitorId) (arm : Bool) (level count : Nat) (s : State) :
    let t := armMonitor m arm level count s
    t.grid.state = s.grid.state ∧ t.grid.u = s.grid.u ∧ (m ≠ .m3 → t.grid.overSince = s.grid.overSince) ∧
    t.conv = s.conv ∧ t.aux = s.aux ∧ t.mode = s.mode := by
  obtain ⟨faults, heq⟩ := armMonitor_eq m arm level count s
  simp only [heq]
  cases m
  · exact ⟨rfl, rfl, fun _ => rfl, rfl, rfl, rfl⟩
  · exact ⟨rfl, rfl, fun _ => rfl, rfl, rfl, rfl⟩
  · exact ⟨rfl, rfl, fun hne => absurd rfl hne, rfl, rfl, rfl⟩

theorem monitorOf_setMonitor_self (m : MonitorId) (x : Monitor) (s : State) : monitorOf (setMonitor m x s) m = x := by
  cases m <;> rfl

theorem monitorOf_setMonitor_ne {m m' : MonitorId} (h : m' ≠ m) (x : Monitor) (s : State) :
    monitorOf (setMonitor m x s) m' = monitorOf s m' := by
  cases m <;> cases m' <;> first | rfl | exact absurd rfl h

theorem armMonitor_record (m : MonitorId) (arm : Bool) (level count : Nat) (s : State) :
    monitorOf (armMonitor m arm level count s) m = armedAs m arm level count s.grid.u := by
  obtain ⟨faults, heq⟩ := armMonitor_eq m arm level count s
  rw [heq, monitorOf_setMonitor_self]

theorem armMonitor_others {m m' : MonitorId} (h : m' ≠ m) (arm : Bool) (level count : Nat) (s : State) :
    monitorOf (armMonitor m arm level count s) m' = monitorOf s m' := by
  obtain ⟨faults, heq⟩ := armMonitor_eq m arm level count s
  rw [heq, monitorOf_setMonitor_ne h]
  cases m' <;> rfl

theorem armMonitor_overSince (arm : Bool) (level count : Nat) (s : State) :
    (armMonitor .m3 arm level count s).grid.overSince =
      overSinceAfter s.grid (armedAs .m3 arm level count s.grid.u).beyond := by
  obtain ⟨faults, heq⟩ := armMonitor_eq .m3 arm level count s
  rw [heq]
  rfl

/-! ## The reply (R30) -/

/-- A monitor's record with the beyond-at-arm flag, as the reply carries them. -/
def monitorRecord (m : MonitorId) (s : State) (flagged : Bool) : List Byte :=
  flag (monitorOf s m).armed ++ u16 (monitorOf s m).level ++ u8 (if m = .m3 then 1 else 0) ++ u8 (monitorOf s m).count ++
  u8 20 ++ flag (monitorOf s m).beyond ++ u8 (monitorOf s m).run ++
  opt32 (if m = .m3 then s.grid.overSince.map fun x => (s.grid.sampleNo - x) * 1 else none) ++ flag flagged

theorem armBody_eq (taken : Bool) (m : MonitorId) (arm : Bool) (level : BitVec 16) (direction n : Byte) (s : State) :
    armBody taken (armRequest m arm level direction n) s = monitorRecord m s (taken && (monitorOf s m).beyond) := by
  obtain ⟨hm, -⟩ := fields_of_armRequest m arm level direction n
  simp only [armBody, hm, monitorRecord, directionNum_eq, elapsed]
  cases m <;> rfl

theorem monitorOf_congr {s t : State} (h : t.grid = s.grid) (m : MonitorId) : monitorOf t m = monitorOf s m := by
  cases m <;> simp only [monitorOf, h]

theorem monitorRecord_congr {s t : State} (h : t.grid = s.grid) (m : MonitorId) (flagged : Bool) :
    monitorRecord m t flagged = monitorRecord m s flagged := by
  simp only [monitorRecord, monitorOf_congr h, h]

/-! ## The request's event -/

theorem served_grid (s : State) : (served s).grid = s.grid := by unfold served supervisionReload; split <;> rfl
theorem served_aux (s : State) : (served s).aux = s.aux := by unfold served supervisionReload; split <;> rfl

theorem isActive_of_quiet {s t : State} (h : Quiet s t) (c : FaultCode) (unit : Nat) :
    isActive t c unit = isActive s c unit := by
  obtain ⟨-, -, -, -, -, -, hrow⟩ := h
  exact isActive_congr (congrArg FaultRow.state (hrow (rowOf c unit)) :)

theorem isActive_replied {c : FaultCode} (h : FaultCode.linkOverrun ≠ c) (s : State) :
    isActive (replied s) c 1 = isActive s c 1 := by
  simp only [replied]
  split
  · exact isActive_congr (faultState_clearFault_of_ne h _)
  · rfl

theorem replied_grid (s : State) : (replied s).grid = s.grid := by rw [replied_eq]
theorem replied_conv (s : State) : (replied s).conv = s.conv := by rw [replied_eq]
theorem replied_aux (s : State) : (replied s).aux = s.aux := by rw [replied_eq]
theorem replied_mode (s : State) : (replied s).mode = s.mode := by rw [replied_eq]

/-- An ArmGridMonitor is answered with the record as it then stands, over what its block leaves. -/
theorem armGridMonitor_answered {s : State} {tag : Byte} (h : HostReady s) (ht : tag ≠ 0) (m : MonitorId) (arm : Bool)
    (level : BitVec 16) (direction n : Byte) {status : Status} {r : State}
    (ha : serve .armGridMonitor (armRequest m arm level direction n) (served s) = (status, r)) :
    ∃ t, exec (.armGridMonitor tag (armRequest m arm level direction n)) s = .next t ∧ t.grid = r.grid ∧
      Answered s t 0xA4 tag status (monitorRecord m r (status.taken && (monitorOf r m).beyond)) ∧
      Quiet (replied r) t := by
  obtain ⟨hans, hquiet⟩ := request_answered (k := .armGridMonitor)
    (f := ⟨Kind.armGridMonitor.code, tag, armRequest m arm level direction n⟩) h.1 rfl rfl ht (by decide) ha
  have hbody : replyBody .armGridMonitor (armRequest m arm level direction n) status (served s) (updateMarks r) =
      monitorRecord m r (status.taken && (monitorOf r m).beyond) := by
    unfold replyBody
    cases status.taken <;> exact armBody_eq _ m arm level direction n (updateMarks r)
  exact ⟨_, rfl, (grid_of_quiet hquiet).trans (replied_grid r), hbody ▸ hans, hquiet⟩

theorem armGridMonitor_refused {s : State} {tag : Byte} (h : HostReady s) (ht : tag ≠ 0) (m : MonitorId) (arm : Bool)
    (level : BitVec 16) (direction n : Byte) {status : Status} (hst : status.taken = false)
    (ha : serve .armGridMonitor (armRequest m arm level direction n) (served s) = (status, served s)) :
    ∃ t, exec (.armGridMonitor tag (armRequest m arm level direction n)) s = .next t ∧
      Answered s t 0xA4 tag status (monitorRecord m s false) ∧ Quiet (replied (served s)) t := by
  obtain ⟨t, hx, -, hans, hquiet⟩ := armGridMonitor_answered h ht m arm level direction n ha
  rw [hst, Bool.false_and, monitorRecord_congr (served_grid s)] at hans
  exact ⟨t, hx, hans, hquiet⟩

theorem clampedIf_taken (clamped : Bool) : (clampedIf clamped).taken = true := by cases clamped <;> rfl

/-- An accepted ArmGridMonitor, at the end of its event. -/
theorem armGridMonitor_accepted {s : State} {tag : Byte} (h : HostReady s) (ht : tag ≠ 0) (m : MonitorId) (arm : Bool)
    (level : BitVec 16) (direction n : Byte) {x : Monitor} (hx : armedAs m arm (min level.toNat 1500) n.toNat s.grid.u = x)
    (ha : serve .armGridMonitor (armRequest m arm level direction n) (served s) =
      (clampedIf (level.toNat > 1500), armMonitor m arm (min level.toNat 1500) n.toNat (served s))) :
    ∃ t, exec (.armGridMonitor tag (armRequest m arm level direction n)) s = .next t ∧ monitorOf t m = x ∧
      (∀ m', m' ≠ m → monitorOf t m' = monitorOf s m') ∧
      (m = .m3 → t.grid.overSince = overSinceAfter s.grid x.beyond) ∧
      (m ≠ .m3 → t.grid.overSince = s.grid.overSince) ∧ (m = .m3 → x.beyond = false → isActive t .gridOv 1 = false) ∧
      t.grid.state = s.grid.state ∧ t.grid.u = s.grid.u ∧ t.conv = s.conv ∧ t.aux = s.aux ∧
      t.mode.current = s.mode.current ∧
      Answered s t 0xA4 tag (clampedIf (level.toNat > 1500)) (monitorRecord m t x.beyond) := by
  obtain ⟨t, hexec, hgrid, hans, hquiet⟩ := armGridMonitor_answered h ht m arm level direction n ha
  rw [← served_grid] at hx
  obtain ⟨hstate, hu, hsince, hconv, haux, hmode⟩ :=
    armMonitor_frame m arm (min level.toNat 1500) n.toNat (served s)
  rw [← hgrid, served_grid] at hstate hu hsince
  have hmonitor : monitorOf t m = x := by rw [monitorOf_congr hgrid, armMonitor_record, hx]
  have hrow : m = .m3 → x.beyond = false → isActive t .gridOv 1 = false := by
    rintro rfl hb
    rw [isActive_of_quiet hquiet, isActive_replied (by decide), armMonitor_m3_of_within (by rw [hx, hb])]
    exact isActive_clearFault _ _ _
  rw [clampedIf_taken, Bool.true_and, ← monitorRecord_congr hgrid, ← monitorOf_congr hgrid, hmonitor] at hans
  obtain ⟨-, hqconv, -, hqaux, -, hqmode, -⟩ := hquiet
  rw [replied_conv, hconv, served_conv] at hqconv
  rw [replied_aux, haux, served_aux] at hqaux
  rw [replied_mode, hmode] at hqmode
  refine ⟨t, hexec, hmonitor, fun m' hne => ?_, ?_, hsince, hrow, hstate, hu, hqconv, hqaux,
    (congrArg ModeCtl.current hqmode).trans (served_current s), hans⟩
  · rw [monitorOf_congr hgrid, armMonitor_others hne, monitorOf_congr (served_grid s)]
  · rintro rfl
    rw [hgrid, armMonitor_overSince, hx, served_grid]

/-- Settles O13: the block's answer by the grid state and the direction, and the record it writes read off in its reply. -/
theorem armGridMonitorWritesOneMonitor : Obligations.ArmGridMonitorWritesOneMonitor := by
  unfold Obligations.ArmGridMonitorWritesOneMonitor
  intro s tag m arm level n h ht hn hn8
  have hserve {direction : Byte} (hd : direction.toNat ≤ 1) :=
    serve_armGridMonitor (notRemote_served h) m arm level (n := n) hd hn hn8
  rw [served_grid] at hserve
  have hready (hst : s.grid.state = .normal ∨ s.grid.state = .lost) :
      ¬(s.grid.state = .dip ∨ s.grid.state = .recovering) := by rcases hst with e | e <;> simp [e]
  refine ⟨fun hst hdisarm => ?_, fun direction hd hst => ?_, fun direction hd hst hconflict => ?_⟩
  · have hd := directionByte_toNat m
    have hagrees : ¬((BitVec.ofNat 8 (if m = .m3 then 1 else 0)).toNat ≠ directionNum m ∨ (m = .m1 ∧ arm = false)) := by
      rintro (hne | ⟨hm, harm⟩)
      · exact hne hd
      · exact absurd (hdisarm hm) (by rw [harm]; decide)
    have hrecord : armedAs m arm (min level.toNat 1500) n.toNat s.grid.u = _ :=
      congrArg (fun b => Monitor.mk arm (min level.toNat 1500) n.toNat (arm && b) 0) (judgeAlone_eq m _ _)
    obtain ⟨t, hexec, hmonitor, hothers, hover, hsince, hrow, hframe⟩ := armGridMonitor_accepted h ht m arm level
      _ n hrecord ((hserve (hd.trans_le (directionNum_le_one m))).trans ((if_neg (hready hst)).trans (if_neg hagrees)))
    rw [← hmonitor] at hover hrow hframe
    exact ⟨t, hexec, hmonitor, hothers, hover, hsince, hrow, hframe⟩
  · exact armGridMonitor_refused h ht m arm level direction n rfl ((hserve hd).trans (if_pos hst))
  · refine armGridMonitor_refused h ht m arm level direction n rfl ((hserve hd).trans ?_)
    rw [if_neg (hready hst), if_pos (directionNum_eq m ▸ hconflict)]

end Sys2Proof.Machine

/-! SUPPORT. The rise filter and the thermal limit: the filter's step, where it leads, and the limit in the three ranges of the estimate (R51, R53). -/

namespace Sys2Proof.Machine

/-! ## The step of the filter (R51) -/

/-- A step covers the same distance up and down. -/
theorem riseStep_neg (d : Int) (alpha : Nat) : riseStep (-d) alpha = -riseStep d alpha := by
  simp only [riseStep, Int.neg_mul, Int.neg_tdiv]
  split_ifs <;> omega

/-- Up a step is at least one, and no more than the difference. -/
theorem riseStep_bounds {d : Int} (hd : 0 < d) {alpha : Nat} (ha : alpha ≤ 256) :
    1 ≤ riseStep d alpha ∧ riseStep d alpha ≤ d := by
  have hnonneg : 0 ≤ d * alpha := Int.mul_nonneg hd.le (Int.natCast_nonneg alpha)
  have hle : d * alpha ≤ d * 256 := Int.mul_le_mul_of_nonneg_left (by omega) hd.le
  have hmove : 0 ≤ Int.tdiv (d * alpha) 256 ∧ Int.tdiv (d * alpha) 256 ≤ d := by
    rw [Int.tdiv_eq_ediv_of_nonneg hnonneg]
    omega
  simp only [riseStep]
  split_ifs <;> omega

theorem riseStep_zero (alpha : Nat) : riseStep 0 alpha = 0 := by simp [riseStep]

/-! ## The rise after an interval (R51) -/

theorem riseAfter_of_lt {rise target alpha : Nat} (ht : target ≤ 2000) (ha : alpha ≤ 256) (h : rise < target) :
    rise < riseAfter rise target alpha ∧ riseAfter rise target alpha ≤ target := by
  obtain ⟨hmin, hmax⟩ := riseStep_bounds (d := (target : Int) - rise) (by omega) ha
  simp only [riseAfter, clampInt]
  omega

theorem riseAfter_of_gt {rise target alpha : Nat} (hr : rise ≤ 2000) (ha : alpha ≤ 256) (h : target < rise) :
    riseAfter rise target alpha < rise ∧ target ≤ riseAfter rise target alpha := by
  obtain ⟨hmin, hmax⟩ := riseStep_bounds (d := (rise : Int) - target) (by omega) ha
  have hdown := riseStep_neg ((rise : Int) - target) alpha
  rw [neg_sub] at hdown
  simp only [riseAfter, clampInt, hdown]
  omega

theorem riseAfter_self {rise : Nat} (hr : rise ≤ 2000) (alpha : Nat) : riseAfter rise rise alpha = rise := by
  simp only [riseAfter, sub_self, riseStep_zero, clampInt]
  omega

/-! ## The thermal limit (R53) -/

theorem limitAt_of_le {tj td : Int} (h : tj ≤ td) (tx : Int) : limitAt tj td tx = 480 := if_pos h

theorem limitAt_of_ge {tj td tx : Int} (h : td < tj) (h' : tx ≤ tj) : limitAt tj td tx = 0 := by
  rw [limitAt, if_neg (by omega), if_pos h']

theorem limitAt_of_between {tj td tx : Int} (h : td < tj) (h' : tj < tx) :
    limitAt tj td tx = 480 - 360 * (tj - td).toNat / (tx - td).toNat := by
  rw [limitAt, if_neg (by omega), if_neg (by omega)]
  rfl

/-- What the line of R53 takes off stays below the distance from the rated to the floor current. -/
theorem derating_lt {tj td tx : Int} (h : td < tj) (h' : tj < tx) : 360 * (tj - td).toNat / (tx - td).toNat < 360 := by
  rw [Nat.div_lt_iff_lt_mul (by omega)]
  omega

theorem floor_lt_limitAt {tj td tx : Int} (h : td < tj) (h' : tj < tx) : 120 < limitAt tj td tx := by
  rw [limitAt_of_between h h']
  exact Nat.lt_sub_of_add_lt (Nat.add_lt_add_left (derating_lt h h') 120)

theorem limitAt_le_rated (tj td tx : Int) : limitAt tj td tx ≤ 480 := by
  unfold limitAt
  split_ifs
  · exact le_rfl
  · exact Nat.zero_le _
  · exact Nat.sub_le _ _

/-- A hotter junction never has the higher limit. -/
theorem limitAt_antitone {td tx : Int} (htd : td < tx) {a b : Int} (hab : a ≤ b) : limitAt b td tx ≤ limitAt a td tx := by
  by_cases ha : a ≤ td
  · rw [limitAt_of_le ha]; exact limitAt_le_rated b td tx
  · by_cases hb : tx ≤ b
    · rw [limitAt_of_ge (htd.trans_le hb) hb]; exact Nat.zero_le _
    · rw [limitAt_of_between (tj := a) (by omega) (by omega), limitAt_of_between (tj := b) (by omega) (by omega)]
      exact Nat.sub_le_sub_left (Nat.div_le_div_right (by omega)) 480

/-- Settles O34: the filter by the sign of the difference, the limit by the range of the estimate. -/
theorem riseAndLimitFollowTheirRules : Obligations.RiseAndLimitFollowTheirRules := by
  unfold Obligations.RiseAndLimitFollowTheirRules
  refine ⟨fun rise target alpha hr ht _ ha => ⟨riseAfter_of_lt ht ha, riseAfter_of_gt hr ha, ?_⟩,
    fun td tx htd => ⟨fun tj h => limitAt_of_le h tx, fun tj h => limitAt_of_ge (htd.trans_le h) h,
      fun tj h h' => ?_, fun a b => limitAt_antitone htd⟩⟩
  · rintro rfl
    exact riseAfter_self hr alpha
  · exact ⟨floor_lt_limitAt h h', limitAt_le_rated tj td tx⟩

end Sys2Proof.Machine

/-! SUPPORT. A held sensor replaced by its substitute: the rows of a loop, the claim of L3's fans, its judgement, and its row after the budget's answer (R57, R76). -/

namespace Sys2Proof.Machine

/-! ## Rows of any unit -/

theorem isActive_raise_of_lt {s : State} {c : FaultCode} {unit : Nat} (h : rowOf c unit < s.faults.rows.length) :
    isActive (raise c unit s) c unit = true := isActive_iff.mpr (raise_state_self h)

/-- A row that follows a condition is Active where the condition holds. -/
theorem isActive_setFault {s : State} {c : FaultCode} {unit : Nat} (h : rowOf c unit < s.faults.rows.length)
    (present : Bool) : isActive (setFault c unit present s) c unit = present := by
  cases present
  · exact isActive_clearFault c unit s
  · exact isActive_raise_of_lt h

theorem setFault_state_ne {c : FaultCode} {unit j : Nat} (h : rowOf c unit ≠ j) (present : Bool) (s : State) :
    (rowAt (setFault c unit present s) j).state = (rowAt s j).state := by
  cases present
  · exact clearFault_state_ne h s
  · exact raise_state_ne h s

/-- Raising or clearing a row writes the fault table alone. -/
theorem setFault_eq (c : FaultCode) (unit : Nat) (present : Bool) (s : State) :
    ∃ faults, setFault c unit present s = { s with faults := faults } := by
  cases present <;> exact ⟨_, rfl⟩

/-- A row that neither the reactions nor the end of an event move. -/
theorem outside_isActive_of_still {s t : State} (h : outside t = outside s) {c : FaultCode} {unit : Nat}
    (hc : reactiveRow (rowOf c unit) = false) : isActive t c unit = isActive s c unit :=
  isActive_congr (outside_rowState h hc)

theorem outside_rows_length {s t : State} (h : outside t = outside s) :
    t.faults.rows.length = s.faults.rows.length := by
  have hrows : t.faults.rows.mapIdx rowOutside = s.faults.rows.mapIdx rowOutside :=
    congrArg (fun u : State => u.faults.rows) h
  simpa using congrArg List.length hrows

theorem settle_rows_length (s : State) : (settle s).faults.rows.length = s.faults.rows.length :=
  outside_rows_length (outside_settle s)

/-- The three rows of COOL_SENSOR and the row of LOOP_LIMITED for L3 lie in the table, and no reaction moves them. -/
theorem coolSensorRow (l : Liquid) :
    rowOf .coolSensor l.num < 79 ∧ reactiveRow (rowOf .coolSensor l.num) = false := by cases l <;> decide

theorem airSensorRow : rowOf .coolSensor 3 < 79 ∧ reactiveRow (rowOf .coolSensor 3) = false := by decide

theorem airLimitRow : rowOf .loopLimited 3 < 79 ∧ reactiveRow (rowOf .loopLimited 3) = false := by decide

/-! ## The inlet of a liquid loop (R57) -/

theorem inletOf_setInlet (l : Liquid) (x : Inlet) (s : State) : inletOf (setInlet l x s) l = x := by cases l <;> rfl

theorem inletOf_therm {s t : State} (h : t.therm = s.therm) (l : Liquid) : inletOf t l = inletOf s l := by
  cases l <;> simp only [inletOf, h]

/-- The expiry of a running hold writes the substitute and raises the sensor's row. -/
theorem substituteInlet_of_held {s : State} {l : Liquid} (h : (inletOf s l).source = .held)
    (hs : (inletOf s l).holdStart.isSome = true) :
    substituteInlet l s = raise .coolSensor l.num
      (setInlet l { inletOf s l with inUse := substituteOf s l, source := .substitute } s) := if_pos ⟨h, hs⟩

theorem exec_inletSubstitute {s : State} (hp : s.powered = true) (l : Liquid) :
    exec (.inletSubstitute l) s = .next (finish (substituteInlet l (beginEvent s))) := by
  have hevent : event (substituteInlet l) s = finish (substituteInlet l (beginEvent s)) := if_pos hp
  exact congrArg Host.Outcome.next hevent

/-- A held inlet at the end of the event of its substitute: no block reacts. -/
theorem inletSubstitute_event {s : State} (hp : s.powered = true) (hl : s.faults.rows.length = 79) {l : Liquid}
    (h : (inletOf s l).source = .held) (hs : (inletOf s l).holdStart.isSome = true) :
    ∃ t, exec (.inletSubstitute l) s = .next t ∧
      inletOf t l = { inletOf s l with inUse := setpointOf s l + 150, source := .substitute } ∧
      isActive t .coolSensor l.num = true ∧ t.conv = s.conv ∧ t.cool = s.cool ∧ t.aux = s.aux ∧ t.grid = s.grid ∧
      t.store = s.store := by
  obtain ⟨hrow, hstill⟩ := coolSensorRow l
  refine ⟨_, exec_inletSubstitute hp l, ?_⟩
  rw [substituteInlet_of_held (s := beginEvent s) h hs]
  refine ⟨?_, ?_, finish_conv _, finish_cool _, finish_aux _, finish_grid _, finish_store _⟩
  · rw [inletOf_therm (finish_therm _)]
    exact inletOf_setInlet l _ _
  · rw [outside_isActive_of_still (outside_finish _) hstill]
    exact isActive_raise_of_lt (hrow.trans_eq hl.symm)

/-! ## Ceilings of claims (R82) -/

theorem claimOf_setCeiling (id : ClaimId) (n : Nat) (s : State) :
    claimOf (setCeiling id n s) id = { claimOf s id with ceiling := n } := by
  by_cases h : (claimOf s id).ceiling = n
  · subst h
    simp only [claimOf, setCeiling, if_true]
  · simp only [setCeiling, if_neg h]
    exact claims_get_set_self _ _ _

theorem submitted_setCeiling (id : ClaimId) (n : Nat) (s : State) :
    submitted (setCeiling id n s) id = submitted s id := by
  rw [submitted, claimOf_setCeiling]; rfl

theorem ceiling_submitClaim (id : ClaimId) (n : Nat) (s : State) : (claimOf (submitClaim id n s) id).ceiling = n := by
  by_cases h : (claimOf s id).submitted = true
  · have haux : (submitClaim id n s).aux = (setCeiling id n s).aux := if_pos h
    exact congrArg Claim.ceiling ((congrArg (·.claims.get id) haux).trans (claimOf_setCeiling id n s))
  · simp only [submitClaim, if_neg h]
    exact congrArg Claim.ceiling (claims_get_set_self _ _ _)

/-! ## L3 judged by a selection (R76) -/

theorem maxStage_eq_length_iff (fans : List FanChannel) :
    maxStage fans = fans.length ↔ ∀ c ∈ fans, c.failed = false := by
  simp [maxStage, List.length_filter_eq_length_iff]

theorem followFanClaim3_cool (s : State) : (followFanClaim3 s).cool = s.cool := by
  unfold followFanClaim3; split <;> rfl

theorem submitted_followFanClaim3 (s : State) : submitted (followFanClaim3 s) .fans3 = submitted s .fans3 := by
  unfold followFanClaim3
  split
  · exact submitted_setCeiling _ _ s
  · rfl

theorem ceiling_followFanClaim3 {s : State} (h : submitted s .fans3 = true) :
    (claimOf (followFanClaim3 s) .fans3).ceiling = 6 * demandedStage3 s.cool.l3 := by
  rw [followFanClaim3, if_pos h, claimOf_setCeiling]

/-- The record of an air loop that starts at a selection (R76). -/
def AirLoop.started (clock n : Nat) (a : AirLoop) : AirLoop :=
  { a with
    state := if maxStage a.fans = a.fans.length then .running else .degraded
    required := true, selection := n, demand := n, runOn := startTimer clock 120000 }

/-- The record of a running air loop after a selection (R72). -/
def AirLoop.selected (clock n : Nat) (a : AirLoop) : AirLoop :=
  if n ≥ a.demand then { a with selection := n, demand := n, runOn := startTimer clock 120000 }
  else { a with selection := n }

/-- An Off air loop stays Off at a selection of 0 and starts at any other; a running one follows it. -/
theorem evaluateAir_cases (s : State) :
    let n := selectStage3 s.cool.l3.air.inUse
    let started := modAir (·.started s.clock n) s
    (s.cool.l3.state = .off → n = 0 → evaluateAir s = modAir (fun a => { a with selection := 0 }) s) ∧
    (s.cool.l3.state = .off → 1 ≤ n →
      evaluateAir s = submitClaim .fans3 (6 * demandedStage3 started.cool.l3) started) ∧
    (s.cool.l3.state ≠ .off → evaluateAir s = followFanClaim3 (modAir (·.selected s.clock n) s)) := by
  refine ⟨fun hoff hn => ?_, fun hoff hn => ?_, fun hon => if_neg hon⟩
  · rw [evaluateAir, if_pos hoff, if_neg (by omega), hn]
  · rw [evaluateAir, if_pos hoff, if_pos hn]; rfl

theorem selected_fields (clock n : Nat) (a : AirLoop) :
    (a.selected clock n).state = a.state ∧ (a.selected clock n).selection = n ∧
    (a.selected clock n).demand = max a.demand n ∧ (a.selected clock n).fans = a.fans ∧
    (a.selected clock n).air = a.air ∧
    (a.selected clock n).runOn = if a.demand ≤ n then some ⟨clock, 120000⟩ else a.runOn := by
  unfold AirLoop.selected
  split
  · next h => exact ⟨rfl, rfl, (max_eq_right h).symm, rfl, rfl, rfl⟩
  · next h => exact ⟨rfl, rfl, (max_eq_left (Nat.le_of_not_le h)).symm, rfl, rfl, rfl⟩

/-- What the evaluation of L3 leaves is its judgement by the selection of the air temperature in use (R72, R76). -/
theorem evaluateAir_judged (s : State) : AirJudged s (evaluateAir s) (selectStage3 s.cool.l3.air.inUse) := by
  obtain ⟨hidle, hstart, hrun⟩ := evaluateAir_cases s
  generalize selectStage3 s.cool.l3.air.inUse = n at hidle hstart hrun
  by_cases hoff : s.cool.l3.state = .off
  · rcases Nat.eq_zero_or_pos n with hn | hn
    · rw [hidle hoff hn]
      exact ⟨hn.symm, fun _ _ => ⟨rfl, rfl⟩, fun _ hpos => absurd hpos (by omega), fun hon => absurd hoff hon⟩
    · rw [hstart hoff hn]
      refine ⟨rfl, fun _ hzero => absurd hzero (by omega), fun _ _ => ⟨?_, rfl, rfl, rfl, submitted_submitClaim _ _ _,
        ceiling_submitClaim _ _ _⟩, fun hon => absurd hoff hon⟩
      exact if_congr (maxStage_eq_length_iff _) rfl rfl
  · obtain ⟨hstate, hselection, hdemand, hfans, -, hrunOn⟩ := selected_fields s.clock n s.cool.l3
    rw [hrun hoff]
    unfold AirJudged
    rw [followFanClaim3_cool]
    refine ⟨hselection, fun h => absurd h hoff, fun h => absurd h hoff,
      fun _ => ⟨hstate, hdemand, hrunOn, submitted_followFanClaim3 _, fun hsub => ?_⟩⟩
    rw [ceiling_followFanClaim3 (s := modAir (·.selected s.clock n) s) hsub]
    exact congrArg (fun fans => 6 * min _ (maxStage fans)) hfans

/-- The evaluation of L3 writes its record but for the air temperature, and the budget. -/
theorem evaluateAir_eq (s : State) :
    ∃ l3 aux, evaluateAir s = { s with cool := { s.cool with l3 := l3 }, aux := aux } ∧ l3.air = s.cool.l3.air := by
  obtain ⟨hidle, hstart, hrun⟩ := evaluateAir_cases s
  by_cases hoff : s.cool.l3.state = .off
  · rcases Nat.eq_zero_or_pos (selectStage3 s.cool.l3.air.inUse) with hn | hn
    · exact ⟨_, s.aux, hidle hoff hn, rfl⟩
    · exact ⟨_, _, hstart hoff hn, rfl⟩
  · obtain ⟨-, -, -, -, hair, -⟩ := selected_fields s.clock (selectStage3 s.cool.l3.air.inUse) s.cool.l3
    rw [hrun hoff, followFanClaim3]
    split
    · exact ⟨_, _, rfl, hair⟩
    · exact ⟨_, _, rfl, hair⟩

/-- A judgement by a selection above 0 leaves L3 running. -/
theorem AirJudged.runs {s j : State} {n : Nat} (h : AirJudged s j n) (hn : 1 ≤ n) : j.cool.l3.state ≠ .off := by
  obtain ⟨-, -, hstart, hrun⟩ := h
  by_cases hoff : s.cool.l3.state = .off
  · obtain ⟨hstate, -⟩ := hstart hoff hn
    rw [hstate]
    split <;> simp
  · obtain ⟨hstate, -⟩ := hrun hoff
    rwa [hstate]

/-! ## The row of L3 after the budget's answer (R76) -/

theorem limitAir_eq (s : State) : ∃ faults, limitAir s = { s with faults := faults } := by
  unfold limitAir
  split
  · exact ⟨s.faults, rfl⟩
  · exact setFault_eq _ _ _ s

theorem isActive_limitAir {s : State} (hl : s.faults.rows.length = 79) (hon : s.cool.l3.state ≠ .off) :
    isActive (limitAir s) .loopLimited 3 = decide (grantOf s .fans3 / 6 < s.cool.l3.demand) := by
  rw [limitAir, if_neg hon, isActive_setFault (airLimitRow.1.trans_eq hl.symm)]
  rfl

/-- LOOP_LIMITED of L3 leaves the sensor's row. -/
theorem airSensor_limitAir (s : State) : isActive (limitAir s) .coolSensor 3 = isActive s .coolSensor 3 := by
  unfold limitAir
  split
  · rfl
  · exact isActive_congr (setFault_state_ne (by decide) _ s)

/-- The reactions leave the state and the demand of L3. -/
theorem settle_air (s : State) :
    (settle s).cool.l3.state = s.cool.l3.state ∧ (settle s).cool.l3.demand = s.cool.l3.demand :=
  ⟨field_of_beside (f := fun t => t.cool.l3.state) (fun _ => rfl) (beside_settle s),
    field_of_beside (f := fun t => t.cool.l3.demand) (fun _ => rfl) (beside_settle s)⟩

/-! ## The event of the air sensor's substitute (R76) -/

/-- L3 judged from its substitute, before the budget's answer. -/
def airJudged (s : State) : State := evaluateAir (substituteAir (beginEvent s))

/-- The end of the event of the substitute. -/
def airSubstituted (s : State) : State := finish (settle (limitAir (settle (airJudged s))))

theorem exec_airSensorSubstitute {s : State} (hp : s.powered = true) (h : s.cool.l3.air.source = .held)
    (hs : s.cool.l3.air.holdStart.isSome = true) : exec .airSensorSubstitute s = .next (airSubstituted s) := by
  have hheld : airHeld (beginEvent s) = true := by simp [airHeld, h, hs]
  have hreact : react airSubstitution s = airSubstituted s := by
    rw [react_eq hp, airSubstitution, if_pos hheld]; rfl
  exact congrArg Host.Outcome.next hreact

/-- 450 in use selects stage 3. -/
theorem airJudged_judged (s : State) : AirJudged s (airJudged s) 3 :=
  evaluateAir_judged (substituteAir (beginEvent s))

/-- What the judgement leaves but for L3 and the budget: the substitute in use and its row. -/
theorem airJudged_eq (s : State) :
    ∃ l3 aux, airJudged s = { substituteAir (beginEvent s) with cool := { s.cool with l3 := l3 }, aux := aux } ∧
      l3.air = { s.cool.l3.air with inUse := 450, source := .substitute } :=
  evaluateAir_eq (substituteAir (beginEvent s))

theorem airJudged_rows_length (s : State) : (airJudged s).faults.rows.length = s.faults.rows.length := by
  obtain ⟨l3, aux, heq, -⟩ := airJudged_eq s
  rw [heq]
  exact raise_rows_length .coolSensor 3 _

theorem airSensor_airJudged {s : State} (hl : s.faults.rows.length = 79) :
    isActive (airJudged s) .coolSensor 3 = true := by
  obtain ⟨l3, aux, heq, -⟩ := airJudged_eq s
  rw [heq]
  exact isActive_raise_of_lt (airSensorRow.1.trans_eq hl.symm)

/-- A field that no reaction, no notice and no fault row writes stands as the judgement leaves it. -/
theorem airSubstituted_field {β : Type} {f : State → β} (hout : ∀ s, f (outside s) = f s)
    (hfaults : ∀ s faults, f { s with faults := faults } = f s) (s : State) : f (airSubstituted s) = f (airJudged s) := by
  obtain ⟨faults, hlimit⟩ := limitAir_eq (settle (airJudged s))
  calc f (airSubstituted s) = f (limitAir (settle (airJudged s))) :=
        outside_field hout ((outside_finish _).trans (outside_settle _))
    _ = f (settle (airJudged s)) := by rw [hlimit, hfaults]
    _ = f (airJudged s) := outside_field hout (outside_settle _)

theorem airSubstituted_air (s : State) :
    (airSubstituted s).cool.l3.air.source = .substitute ∧ (airSubstituted s).cool.l3.air.inUse = 450 ∧
    (airSubstituted s).cool.l3.air.lastValid = s.cool.l3.air.lastValid := by
  obtain ⟨l3, aux, heq, hair⟩ := airJudged_eq s
  rw [airSubstituted_field (f := fun t => t.cool.l3.air) (fun _ => rfl) (fun _ _ => rfl), heq, hair]
  exact ⟨rfl, rfl, rfl⟩

theorem airSubstituted_frame (s : State) :
    (airSubstituted s).therm = s.therm ∧ (airSubstituted s).store = s.store ∧ (airSubstituted s).retained = s.retained ∧
    (airSubstituted s).grid = s.grid := by
  obtain ⟨l3, aux, heq, -⟩ := airJudged_eq s
  rw [airSubstituted_field (f := State.therm) (fun _ => rfl) (fun _ _ => rfl),
    airSubstituted_field (f := State.store) (fun _ => rfl) (fun _ _ => rfl),
    airSubstituted_field (f := State.retained) (fun _ => rfl) (fun _ _ => rfl),
    airSubstituted_field (f := State.grid) (fun _ => rfl) (fun _ _ => rfl), heq]
  exact ⟨rfl, rfl, rfl, rfl⟩

/-- The rows at the end of the event: the sensor's by the substitute, L3's by the budget's answer. -/
theorem airSubstituted_rows {s : State} (hl : s.faults.rows.length = 79) :
    isActive (airSubstituted s) .coolSensor 3 = true ∧
    isActive (airSubstituted s) .loopLimited 3 =
      decide (grantOf (settle (airJudged s)) .fans3 / 6 < (airJudged s).cool.l3.demand) := by
  have hend : outside (airSubstituted s) = outside (limitAir (settle (airJudged s))) :=
    (outside_finish _).trans (outside_settle _)
  obtain ⟨hstate, hdemand⟩ := settle_air (airJudged s)
  have hlength : (settle (airJudged s)).faults.rows.length = 79 :=
    (settle_rows_length _).trans ((airJudged_rows_length s).trans hl)
  have hon : (settle (airJudged s)).cool.l3.state ≠ .off := by
    rw [hstate]; exact (airJudged_judged s).runs (by decide)
  constructor
  · rw [outside_isActive_of_still hend airSensorRow.2, airSensor_limitAir,
      outside_isActive_of_still (outside_settle _) airSensorRow.2, airSensor_airJudged hl]
  · rw [outside_isActive_of_still hend airLimitRow.2, isActive_limitAir hlength hon, hdemand]

/-- Settles O35: the inlet by its own event, the air temperature through the judgement of L3 and the budget's answer. -/
theorem heldSensorsAreSubstituted : Obligations.HeldSensorsAreSubstituted := by
  unfold Obligations.HeldSensorsAreSubstituted
  intro s hp ⟨hl, _⟩
  refine ⟨fun l h hs => ?_, fun h hs => ?_⟩
  · obtain ⟨t, hexec, hinlet, hrest⟩ := inletSubstitute_event hp hl h hs
    refine ⟨t, hexec, ?_⟩
    rw [hinlet]
    exact ⟨rfl, rfl, rfl, hrest⟩
  · intro j m t
    -- The end of the event goes by its name alone: unfolded, the turns of `settle` would be compared.
    have ht : t = airSubstituted s := rfl
    clear_value t
    rw [ht]
    obtain ⟨hsource, hinUse, hlast⟩ := airSubstituted_air s
    obtain ⟨hsensor, hlimited⟩ := airSubstituted_rows hl
    exact ⟨exec_airSensorSubstitute hp h hs, hsource, hinUse, hlast, hsensor, airJudged_judged s, hlimited,
      airSubstituted_frame s⟩

end Sys2Proof.Machine

/-! SUPPORT. The thermal interval: the inlets read, the records written, the rows of each string tested, and the heat loads (R47 to R58). -/

namespace Sys2Proof.Machine

/-! ## Step 1: the inlets (R56, R57) -/

theorem rowAct_eq (a : RowAct) (c : FaultCode) (unit : Nat) (s : State) :
    ∃ faults, rowAct a c unit s = { s with faults := faults } ∧ faults.rows.length = s.faults.rows.length := by
  cases a
  · exact ⟨_, rfl, raise_rows_length c unit s⟩
  · exact ⟨_, rfl, clearFault_rows_length c unit s⟩
  · exact ⟨_, rfl, rfl⟩

/-- The thermal model after step 1: the interval counted and both inlets read. -/
def Thermal.inletsRead (x y : Int) (w : Settings) (th : Thermal) : Thermal :=
  { th with
    intervalNo := th.intervalNo + 1
    inlet1 := (readTemp th.inlet1 (th.intervalNo + 1) 100 (w.setpoint1 + 150) x).1
    inlet2 := (readTemp th.inlet2 (th.intervalNo + 1) 100 (w.setpoint2 + 150) y).1 }

/-- The state in which an interval counts itself. -/
def countInterval (s : State) : State := { s with therm := { s.therm with intervalNo := s.therm.intervalNo + 1 } }

/-- The readings write the inlets, and nothing else but rows. -/
theorem readInlets_eq (x y : Int) (s : State) :
    ∃ faults, readInlet .l2 y (readInlet .l1 x (countInterval s)) =
        { s with therm := s.therm.inletsRead x y s.store.working, faults := faults } ∧
      faults.rows.length = s.faults.rows.length := by
  obtain ⟨faults1, h1, hl1⟩ := rowAct_eq
    (readTemp s.therm.inlet1 (s.therm.intervalNo + 1) 100 (substituteOf s .l1) x).2 .coolSensor Liquid.l1.num
    (setInlet .l1 (readTemp s.therm.inlet1 (s.therm.intervalNo + 1) 100 (substituteOf s .l1) x).1 (countInterval s))
  have hfirst : readInlet .l1 x (countInterval s) = _ := h1
  rw [hfirst]
  obtain ⟨faults2, h2, hl2⟩ := rowAct_eq
    (readTemp s.therm.inlet2 (s.therm.intervalNo + 1) 100 (substituteOf s .l2) y).2 .coolSensor Liquid.l2.num
    (setInlet .l2 (readTemp s.therm.inlet2 (s.therm.intervalNo + 1) 100 (substituteOf s .l2) y).1
      { setInlet .l1 (readTemp s.therm.inlet1 (s.therm.intervalNo + 1) 100 (substituteOf s .l1) x).1 (countInterval s)
        with faults := faults1 })
  exact ⟨faults2, h2, hl2.trans hl1⟩

/-! ## Step 2: the records (R48 to R53) -/

/-- The thermal model after step 2. -/
def estimated (x y : Int) (s : State) : Thermal :=
  let th := s.therm.inletsRead x y s.store.working
  { th with recs := th.recs.map (thermAfter { s with therm := th }) }

/-- Every record written by its string's loss, rise and estimate. -/
def writeRecords (s : State) : State :=
  { s with therm := { s.therm with recs := s.therm.recs.map (thermAfter s) } }

theorem writeRecords_eq (x y : Int) (s : State) (faults : FaultTable) :
    writeRecords { s with therm := s.therm.inletsRead x y s.store.working, faults := faults } =
      { s with therm := estimated x y s, faults := faults } := rfl

theorem usedCurrent_eq (s : State) (k : StringId) :
    usedCurrent s k = match (strOf s k).state with
      | .offline | .faulted | .isolated => 0
      | .precharging | .ready | .running | .derated | .stopping => (strOf s k).iMeas := by
  unfold usedCurrent
  cases (strOf s k).state <;> rfl

theorem estimated_rec (x y : Int) (s : State) (k : StringId) :
    (estimated x y s).recs.get k =
      thermAfter { s with therm := s.therm.inletsRead x y s.store.working } k (s.therm.recs.get k) :=
  six_get_map _ _ k

/-! ## Step 3: the rows (R54, R55) -/

/-- The row of a string's derating shares no index with a Trip row. -/
theorem derateRow_ne {c : FaultCode} (hc : c ∈ stringTrips) (j k : StringId) : rowOf .strDerate j.num ≠ rowOf c k.num := by
  have hfirst : ∀ d ∈ stringTrips, d.firstRow + 5 < 12 ∨ 18 ≤ d.firstRow := by decide
  have hj := stringNum_bounds j
  have hk := stringNum_bounds k
  have hrow := hfirst c hc
  have hderate : FaultCode.firstRow .strDerate = 12 := rfl
  simp only [rowOf, hderate]
  omega

theorem mem_strTjTrip : FaultCode.strTjTrip ∈ stringTrips := by decide

theorem tests_testJunction (k : StringId) (s : State) : Tests k id s (testJunction k s) := by
  simp only [testJunction]
  split
  · split
    · exact tests_refl k s
    · exact tests_tripString mem_strTjTrip k s
  · split
    · exact tests_clearFault mem_strTjTrip k s
    · exact tests_refl k s

/-- The derating test raises or clears its own row, or leaves it. -/
theorem testDerate_cases (k : StringId) (s : State) :
    testDerate k s = s ∨ ∃ present, testDerate k s = setFault .strDerate k.num present s := by
  unfold testDerate
  split
  · split
    · exact .inl rfl
    · exact .inr ⟨true, rfl⟩
  · exact .inr ⟨false, rfl⟩

theorem setFault_rows_length (c : FaultCode) (unit : Nat) (present : Bool) (s : State) :
    (setFault c unit present s).faults.rows.length = s.faults.rows.length := by
  cases present
  · exact clearFault_rows_length c unit s
  · exact raise_rows_length c unit s

theorem tests_testDerate (k : StringId) (s : State) : Tests k id s (testDerate k s) := by
  rcases testDerate_cases k s with h | ⟨present, h⟩ <;> rw [h]
  · exact tests_refl k s
  · have hlength := setFault_rows_length .strDerate k.num present s
    have hrows (j : StringId) (c : FaultCode) (hc : c ∈ stringTrips) :
        faultState (setFault .strDerate k.num present s) c j.num = faultState s c j.num :=
      setFault_state_ne (derateRow_ne hc k j) present s
    obtain ⟨faults, heq⟩ := setFault_eq .strDerate k.num present s
    rw [heq] at hlength hrows ⊢
    exact ⟨⟨rfl, fun j _ => ⟨rfl, rfl, hrows j⟩⟩, rfl, hlength, id, id⟩

theorem faultState_testDerate {c : FaultCode} (hc : c ∈ stringTrips) (k : StringId) (s : State) :
    faultState (testDerate k s) c k.num = faultState s c k.num := by
  rcases testDerate_cases k s with h | ⟨present, h⟩ <;> rw [h]
  exact setFault_state_ne (derateRow_ne hc k k) present s

/-- Both tests of one string, as step 3 makes them. -/
def testRows (k : StringId) (s : State) : State := testDerate k (testJunction k s)

theorem tests_testRows (k : StringId) (s : State) : Tests k id s (testRows k s) :=
  (tests_testJunction k s).then (tests_testDerate k _)

theorem testRows_base (k : StringId) (s : State) : base (testRows k s) = base s := by simp [testRows]

/-- A string taken out of service leaves a Faulted one beside it out of the queue. -/
theorem stays_faultString_ne {k j : StringId} (h : k ≠ j) {s : State} (hs : Stays k s) : Stays k (faultString j s) := by
  unfold faultString
  split
  · exact hs
  · exact stays_conv (oweJudgement_conv _ _) (stays_setQueue
      (stays_setStrState (stays_modStr hs fun e => absurd e h) h)
      fun hm => hs.2 (List.mem_of_mem_filter hm))

theorem stays_testRows {k j : StringId} {s : State} (hs : Stays k s) : Stays k (testRows j s) := by
  by_cases h : k = j
  · subst h; exact (tests_testRows k s).stays hs
  · have hjunction : Stays k (testJunction j s) := by
      simp only [testJunction]
      split
      · split
        · exact hs
        · exact stays_faultString_ne h hs
      · split <;> exact hs
    rcases testDerate_cases j (testJunction j s) with hd | ⟨present, hd⟩ <;> simp only [testRows, hd]
    · exact hjunction
    · obtain ⟨faults, heq⟩ := setFault_eq .strDerate j.num present (testJunction j s)
      rw [heq]; exact hjunction

/-- An estimate at the trip point makes the row of a string that is not Isolated Active, and takes one that is not Faulted to
Faulted and out of the queue (R54). -/
theorem testRows_trips {k : StringId} {s : State} (hl : s.faults.rows.length = 79)
    (htj : (s.therm.recs.get k).tj ≥ s.store.working.tx) (hi : (strOf s k).state ≠ .isolated) :
    faultState (testRows k s) .strTjTrip k.num = .active ∧ ((strOf s k).state ≠ .faulted → Stays k (testRows k s)) := by
  have htrip : testJunction k s = tripString .strTjTrip k s := by
    simp only [testJunction]
    rw [if_pos htj, if_neg hi]
  rw [testRows, faultState_testDerate mem_strTjTrip, htrip]
  refine ⟨active_tripString mem_strTjTrip k hl, fun hf => (tests_testDerate k _).stays ?_⟩
  exact stays_tripString ⟨hi, fun e => absurd e hf⟩ _

theorem testRows_granted (k : StringId) (s : State) : (testRows k s).conv.granted = s.conv.granted := by
  have hjunction : (testJunction k s).conv.granted = s.conv.granted := by
    simp only [testJunction, tripString, faultString]
    repeat' split
    all_goals rfl
  rcases testDerate_cases k (testJunction k s) with h | ⟨present, h⟩ <;> rw [testRows, h]
  · exact hjunction
  · obtain ⟨faults, heq⟩ := setFault_eq .strDerate k.num present (testJunction k s)
    rw [heq]; exact hjunction

/-- `t` is `s` after step 3: what no string's test writes stands, and each string trips by its own estimate. -/
structure RowsTested (s t : State) : Prop where
  context : context t = context s
  granted : t.conv.granted = s.conv.granted
  store : t.store = s.store
  trips : ∀ k, (s.therm.recs.get k).tj ≥ s.store.working.tx → (strOf s k).state ≠ .isolated →
    faultState t .strTjTrip k.num = .active ∧ ((strOf s k).state ≠ .faulted → Stays k t)

theorem store_of_base {s t : State} (h : base t = base s) : t.store = s.store := congrArg (·.2.2.2.2.2.1) h

/-- In the run over all strings each trips by its own estimate, and stays as its own tests leave it. -/
theorem rowsTested_forEach {s : State} (hl : s.faults.rows.length = 79) :
    RowsTested s (forEach StringId.all testRows s) where
  context := context_forEach (fun k t => (tests_testRows k t).touches.context) StringId.all s
  granted := forEach_field (g := fun t => t.conv.granted) testRows_granted StringId.all s
  store := store_of_base (base_forEach testRows_base StringId.all s)
  trips k htj hi := by
    refine forEach_once (P := fun t => SameFor k s t ∧ base t = base s ∧ t.faults.rows.length = 79)
      (Q := fun t => faultState t .strTjTrip k.num = .active ∧ ((strOf s k).state ≠ .faulted → Stays k t)) k
      ?_ ?_ ?_ ⟨.refl k s, rfl, hl⟩
    · rintro j hj t ⟨hsame, hbase, hlt⟩
      have htest := tests_testRows j t
      exact ⟨hsame.trans (htest.touches.others k hj.symm), (testRows_base j t).trans hbase, htest.length.trans hlt⟩
    · rintro t ⟨hsame, hbase, hlt⟩
      rw [← hsame.record] at hi ⊢
      exact testRows_trips hlt (by rwa [context_therm hsame.context, store_of_base hbase]) hi
    · rintro j hj t ⟨hactive, hstays⟩
      exact ⟨(((tests_testRows j t).touches.others k hj.symm).rows _ mem_strTjTrip).trans hactive,
        fun hf => stays_testRows (hstays hf)⟩

/-! ## Step 4: the heat loads (R58), and the whole interval -/

/-- The thermal model with both heat loads formed. -/
def Thermal.heated (w : Settings) (th : Thermal) : Thermal :=
  { th with
    heat1 := (th.recs.get .s1).pLoss + (th.recs.get .s2).pLoss + (th.recs.get .s3).pLoss + w.baseLoad1
    heat2 := (th.recs.get .s4).pLoss + (th.recs.get .s5).pLoss + (th.recs.get .s6).pLoss + w.baseLoad2 }

/-- The heat loads formed, and the judgement of both loops owed. -/
def formHeatLoads (s : State) : State :=
  oweBothJudgements { s with therm := { s.therm with heat1 := heatLoad s .l1, heat2 := heatLoad s .l2 } }

theorem formHeatLoads_eq (s : State) :
    formHeatLoads s = oweBothJudgements { s with therm := s.therm.heated s.store.working } := by
  simp only [formHeatLoads, heatLoad, Thermal.heated, Liquid.strings, List.map_cons, List.map_nil, List.sum_cons,
    List.sum_nil, Nat.add_zero, Nat.add_assoc]

/-- The interval as a chain of its named steps. -/
theorem thermalInterval_steps (x y : Int) (s : State) :
    thermalInterval x y s = formHeatLoads (forEach StringId.all testRows
      (writeRecords (readInlet .l2 y (readInlet .l1 x (countInterval s))))) := by
  unfold thermalInterval formHeatLoads testRows writeRecords countInterval
  rfl

/-- Around the tests of step 3 the interval writes the thermal model and owes both judgements. -/
theorem thermalInterval_eq (x y : Int) {s : State} (hl : s.faults.rows.length = 79) :
    ∃ faults t, RowsTested { s with therm := estimated x y s, faults := faults } t ∧
      thermalInterval x y s = oweBothJudgements { t with therm := (estimated x y s).heated s.store.working } := by
  obtain ⟨faults, hread, hlength⟩ := readInlets_eq x y s
  have htested := rowsTested_forEach (s := { s with therm := estimated x y s, faults := faults }) (hlength.trans hl)
  rw [thermalInterval_steps, hread, writeRecords_eq, formHeatLoads_eq]
  generalize forEach StringId.all testRows { s with therm := estimated x y s, faults := faults } = t at htested
  exact ⟨faults, t, htested, by rw [htested.store, context_therm htested.context]⟩

/-- What an interval writes: the thermal model, and by the tests of step 3 rows and strings. -/
theorem thermalInterval_fields (x y : Int) {s : State} (hl : s.faults.rows.length = 79) :
    (thermalInterval x y s).therm = (estimated x y s).heated s.store.working ∧ (thermalInterval x y s).grid = s.grid ∧
    (thermalInterval x y s).conv.granted = s.conv.granted := by
  obtain ⟨faults, t, htested, heq⟩ := thermalInterval_eq x y hl
  have hgrid : t.grid = s.grid := (context_grid htested.context :)
  rw [heq]
  exact ⟨rfl, hgrid, htested.granted⟩

/-- An estimate at the trip point trips its string in the interval (R54). -/
theorem thermalInterval_trips {x y : Int} {s : State} {k : StringId} (hl : s.faults.rows.length = 79)
    (htj : ((estimated x y s).recs.get k).tj ≥ s.store.working.tx) (hi : (strOf s k).state ≠ .isolated) :
    faultState (thermalInterval x y s) .strTjTrip k.num = .active ∧
    ((strOf s k).state ≠ .faulted → Stays k (thermalInterval x y s)) := by
  obtain ⟨faults, t, htested, heq⟩ := thermalInterval_eq x y hl
  rw [heq]
  exact htested.trips k htj hi

/-- The record of a string, spelled out (R48 to R53). -/
theorem estimated_follows (x y : Int) (s : State) (k : StringId) :
    let r := (estimated x y s).recs.get k
    let old := (s.therm.recs.get k).tRise
    r.iUsed = usedCurrent s k ∧ r.pLoss = lossOf r.iUsed ∧ r.target = targetOf r.pLoss ∧
    r.tRise = riseAfter old r.target s.store.working.alpha ∧
    r.tj = clampInt ((inletOf { s with therm := estimated x y s } k.loop).inUse + r.tRise) (-400) 2500 ∧
    r.limit = limitAt r.tj s.store.working.td s.store.working.tx := by
  simp only [estimated_rec]
  exact ⟨rfl, rfl, rfl, rfl, by cases k <;> rfl, rfl⟩

/-- Settles O33: the record by steps 1 and 2, the trips by step 3, the heat loads by step 4; no reaction writes them. -/
theorem thermalIntervalWritesTheRecords : Obligations.ThermalIntervalWritesTheRecords := by
  unfold Obligations.ThermalIntervalWritesTheRecords
  intro s x y hp ⟨hl, _⟩
  obtain ⟨htherm, hgrid, hgranted⟩ := thermalInterval_fields x y (s := beginEvent s) hl
  have hbase : base (thermalInterval x y (beginEvent s)) = base s := base_thermalInterval x y _
  simp only [base, Prod.mk.injEq] at hbase
  obtain ⟨-, -, -, hclock, -, hstore, hretained⟩ := hbase
  have hend : (react (thermalInterval x y) s).therm = (estimated x y (beginEvent s)).heated s.store.working :=
    (react_field (g := State.therm) (fun _ => rfl) hp _).trans htherm
  refine ⟨_, rfl, ?_⟩
  rw [hend]
  refine ⟨rfl, rfl, rfl, fun k => ?_, rfl, rfl, fun k htj hi => ?_,
    (react_field (g := State.grid) (fun _ => rfl) hp _).trans hgrid,
    (react_field (g := State.store) (fun _ => rfl) hp _).trans hstore,
    (react_field (g := State.retained) (fun _ => rfl) hp _).trans hretained,
    (react_field (g := fun t => t.conv.granted) (fun _ => rfl) hp _).trans hgranted,
    (react_field (g := State.clock) (fun _ => rfl) hp _).trans hclock⟩
  · have hinlet := inletOf_therm (s := { s with therm := (estimated x y (beginEvent s)).heated s.store.working }) hend k.loop
    obtain ⟨hused, hloss, htarget, hrise, htj, hlimit⟩ := estimated_follows x y (beginEvent s) k
    rw [usedCurrent_eq] at hused
    rw [hinlet]
    exact ⟨hused, hloss, htarget, hrise, htj, hlimit⟩
  · obtain ⟨hactive, hstays⟩ := thermalInterval_trips (s := beginEvent s) hl htj hi
    refine ⟨?_, fun hf => ?_⟩
    · rw [outside_isActive (outside_react hp) mem_strTjTrip]
      exact isActive_iff.mpr hactive
    · exact (react_tripped hp mem_strTjTrip ⟨hstays hf, isActive_iff.mpr hactive⟩).1

end Sys2Proof.Machine

/-! SUPPORT. The fan channels against the grants of their loops: the outputs run no more than a grant powers, no other operation commands a channel, and a start stops all (R63, R75). -/

namespace Sys2Proof.Machine

/-! ## A list of channels -/

/-- A list of channels that runs no more of them than its stage, and none that is marked failed (R63, R75). -/
def FansWithin (stage : Nat) (fans : List FanChannel) : Prop :=
  fansRunning fans ≤ stage ∧ ∀ c ∈ fans, c.commanded = true → c.failed = false

theorem fansSafe_iff (s : State) :
    FansSafe s ↔ FansWithin (grantedStage s .l1) s.cool.l1.fans ∧ FansWithin (grantedStage s .l2) s.cool.l2.fans ∧
      FansWithin (grantedStage3 s) s.cool.l3.fans := Iff.rfl

/-- The channels chosen are as many as the stage at most, each of them unfailed. -/
theorem fansWithin_chooseFans (fans : List FanChannel) (stage : Nat) : FansWithin stage (chooseFans fans stage) := by
  induction fans generalizing stage with
  | nil => exact ⟨Nat.zero_le _, by simp [chooseFans]⟩
  | cons c rest ih =>
    cases hf : c.failed with
    | true => simpa [FansWithin, fansRunning, chooseFans, hf] using ih stage
    | false =>
      cases stage with
      | zero => simpa [FansWithin, fansRunning, chooseFans, hf] using ih 0
      | succ n => simpa [FansWithin, fansRunning, chooseFans, hf] using ih n

/-- What FansWithin reads of a channel: its command and its mark. -/
def FanChannel.order (c : FanChannel) : Bool × Bool := (c.commanded, c.failed)

theorem fansWithin_order (stage : Nat) (fans : List FanChannel) :
    FansWithin stage fans ↔
      ((fans.map FanChannel.order).filter (·.1)).length ≤ stage ∧
      ∀ o ∈ fans.map FanChannel.order, o.1 = true → o.2 = false := by
  simp [FansWithin, fansRunning, FanChannel.order, List.filter_map, Function.comp_def]

/-- A change of the channels that leaves every command and every mark. -/
theorem FansWithin.congr {stage : Nat} {fans fans' : List FanChannel} (h : FansWithin stage fans)
    (horder : fans'.map FanChannel.order = fans.map FanChannel.order) : FansWithin stage fans' := by
  rw [fansWithin_order] at h ⊢
  rwa [horder]

theorem fansWithin_watchFans (clock stage : Nat) (fans : List FanChannel) :
    FansWithin stage (watchFans clock stage fans) :=
  (fansWithin_chooseFans fans stage).congr (by simp [watchFans, FanChannel.order])

theorem fansWithin_tick {stage : Nat} {fans : List FanChannel} (h : FansWithin stage fans) :
    FansWithin stage (fans.map FanChannel.tick) := h.congr (by simp [FanChannel.order, FanChannel.tick])

/-- A feedback shown to one channel commands none. -/
theorem fansWithin_proven (i : Nat) (running : Bool) {stage : Nat} {fans : List FanChannel} (h : FansWithin stage fans) :
    FansWithin stage (updateAt fans i fun c => { c with proven := running }) := by
  refine h.congr (List.ext_getElem (by simp [updateAt]) fun n _ _ => ?_)
  simp only [updateAt, List.getElem_map, List.getElem_modify]
  split <;> rfl

/-- Every channel is commanded to stop. -/
def FansStopped (fans : List FanChannel) : Prop := ∀ c ∈ fans, c.commanded = false

theorem FansStopped.within {fans : List FanChannel} (h : FansStopped fans) (stage : Nat) : FansWithin stage fans := by
  constructor
  · have hnone : fans.filter (·.commanded) = [] := List.filter_eq_nil_iff.mpr fun c hc => by simp [h c hc]
    simp [fansRunning, hnone]
  · intro c hc hrun
    exact absurd hrun (by simp [h c hc])

theorem fansStopped_started (fans : List FanChannel) : FansStopped (fans.map FanChannel.started) := by
  intro c hc
  obtain ⟨-, -, rfl⟩ := List.mem_map.mp hc
  rfl

/-! ## The operations -/

theorem fansSafe_congr {s t : State} (hcool : t.cool = s.cool) (haux : t.aux = s.aux) (h : FansSafe s) : FansSafe t := by
  simpa only [FansSafe, grantedStage, grantedStage3, grantOf, claimOf, hcool, haux] using h

/-- The outputs drive the channels by the grants, whatever stood before. -/
theorem fansSafe_outputs (s : State) : FansSafe (outputs s) :=
  (fansSafe_iff _).mpr ⟨fansWithin_watchFans _ _ _, fansWithin_watchFans _ _ _, fansWithin_watchFans _ _ _⟩

theorem fansSafe_settle (s : State) : FansSafe (settle s) := by
  rw [settle]
  exact fansSafe_outputs _

theorem fansSafe_finish {s : State} (h : FansSafe s) : FansSafe (finish s) :=
  fansSafe_congr (finish_cool s) (finish_aux s) h

theorem fansSafe_tick {s : State} (h : FansSafe s) : FansSafe (tick s) := by
  obtain ⟨h1, h2, h3⟩ := h
  exact ⟨fansWithin_tick h1, fansWithin_tick h2, fansWithin_tick h3⟩

/-- An event whose own effect keeps the channels within their grants. -/
theorem fansSafe_event {f : State → State} (hf : ∀ u, FansSafe u → FansSafe (f u)) {s : State} (h : FansSafe s) :
    FansSafe (event f s) := by
  unfold event
  split
  · exact fansSafe_finish (hf _ (fansSafe_congr (s := s) rfl rfl h))
  · exact h

/-- An event with its reactions, whatever its own effect. -/
theorem fansSafe_react (f : State → State) {s : State} (h : FansSafe s) : FansSafe (react f s) := by
  unfold react event
  split
  · exact fansSafe_finish (fansSafe_settle _)
  · exact h

/-! ## Requests -/

theorem fansSafe_accept (s : State) : FansSafe (accept s).2 := fansSafe_settle s
theorem fansSafe_acceptClamped (b : Bool) (s : State) : FansSafe (acceptClamped b s).2 := fansSafe_settle s
theorem fansSafe_refuse {s : State} (h : FansSafe s) (st : Status) : FansSafe (refuse st s).2 := h

theorem fansSafe_armMonitor {s : State} (h : FansSafe s) (m : MonitorId) (arm : Bool) (level count : Nat) :
    FansSafe (armMonitor m arm level count s) := by
  have hset (x : Monitor) : FansSafe (setMonitor m x s) := by cases m <;> exact h
  simp only [armMonitor, followOver]
  repeat' split
  all_goals exact hset _

theorem fansSafe_serveSetting {s : State} (h : FansSafe s) (i : SettingId) (x : Int) : FansSafe (serveSetting i x s).2 := by
  simp only [serveSetting]
  repeat' split
  all_goals simp only [fansSafe_acceptClamped, fansSafe_refuse h]
  exact h

theorem fansSafe_serveYawCommand {s : State} (h : FansSafe s) (body : List Byte) :
    FansSafe (serveYawCommand body s).2 := by
  simp only [serveYawCommand, serveJog, serveGoTo, serveYawStop, serveYawAuto, serveUntwist]
  repeat' split
  all_goals simp only [fansSafe_accept, fansSafe_refuse h]
  exact h

/-- A block's answer is either settled, or leaves the channels and the claims. -/
theorem fansSafe_serve {s : State} (h : FansSafe s) (k : Kind) (body : List Byte) : FansSafe (serve k body s).2 := by
  cases k
  case yawCommand => exact fansSafe_serveYawCommand h body
  case armGridMonitor =>
    simp only [serve, serveArmGridMonitor]
    repeat' split
    all_goals simp only [fansSafe_refuse h, fansSafe_armMonitor h]
  case setSetting =>
    simp only [serve, serveSetSetting]
    repeat' split
    all_goals simp only [fansSafe_refuse h, fansSafe_serveSetting h]
  case setMode | claimControl | setStringEnable | setCooling | setAuxReserves | setHoist | setBatteryEnergy | setDriveSlots |
      setTwistReference | ackFault =>
    simp only [serve, serveSetMode, serveClaimControl, serveSetStringEnable, serveSetCooling, serveLiquidCooling,
      serveSetAuxReserves, serveSetHoist, serveSetBatteryEnergy, serveSetDriveSlots, serveSetTwistReference, serveAckFault]
    repeat' split
    all_goals simp only [fansSafe_accept, fansSafe_acceptClamped, fansSafe_refuse h]
    all_goals exact h
  all_goals
    simp only [serve, serveRead, serveSetTime, serveRestart, serveEnableSupervision, serveSetPower, serveSetRideThrough,
      serveSetYawPolicy, serveSetNoDwellWindow, serveGetFaults, serveSetFaultClass, serveGetSnapshot,
      serveClearSnapshot, serveClearCounts, serveGetSetting, serveStoreSettings, serveLockSettings]
    repeat' split
    all_goals exact h

theorem fansSafe_queueReply {s : State} (h : FansSafe s) (kind tag : Byte) (st : Status) (content : List Byte)
    (restart : Bool) : FansSafe (queueReply kind tag st content restart s) := by
  simp only [queueReply]
  split <;> exact h

theorem fansSafe_clearMarks {s : State} (h : FansSafe s) (k : Kind) : FansSafe (clearMarks k s) := by
  unfold clearMarks
  split <;> exact h

theorem fansSafe_serveFrame {s : State} (h : FansSafe s) (f : Frame) : FansSafe (serveFrame f s) := by
  simp only [serveFrame]
  split
  · next k _ _ =>
    have hmarked : FansSafe (updateMarks (serve k f.body s).2) := fansSafe_congr rfl rfl (fansSafe_serve h k f.body)
    exact fansSafe_queueReply (fansSafe_clearMarks hmarked k) _ _ _ _ _
  · exact fansSafe_queueReply h _ _ _ _ _
  · exact h

theorem fansSafe_pump (n : Nat) {s : State} (h : FansSafe s) : FansSafe (pump n s) := by
  induction n generalizing s with
  | zero => exact h
  | succ n ih =>
    rw [pump]
    split
    · split
      · exact h
      · next f rest _ =>
        have hrest : FansSafe (modLink (fun l => { l with inbound := rest }) s) := h
        exact ih (fansSafe_serveFrame hrest f)
    · exact h

theorem fansSafe_supervisionReload {s : State} (h : FansSafe s) : FansSafe (supervisionReload s) := by
  unfold supervisionReload
  split <;> exact h

theorem fansSafe_takeFrame (f : Frame) {s : State} (h : FansSafe s) : FansSafe (takeFrame f s) := by
  refine fansSafe_pump 9 ?_
  simp only [acceptFrame]
  split <;> exact fansSafe_congr rfl rfl (fansSafe_supervisionReload h)

theorem fansSafe_request (f : Frame) {s : State} (h : FansSafe s) : FansSafe (request f s) :=
  fansSafe_event (fun _ => fansSafe_takeFrame f) h

theorem fansSafe_parserEffects (l : List ParserEvent) {s : State} (h : FansSafe s) : FansSafe (parserEffects l s) := by
  refine forEach_keeps (fun e t ht => ?_) l s h
  cases e with
  | discarded => exact ht
  | accepted f => exact fansSafe_takeFrame f ht

theorem fansSafe_takeByte (b : Byte) (time : Nat) {s : State} (h : FansSafe s) : FansSafe (takeByte b time s) := by
  have hheld (held : List HeldByte) : FansSafe (modLink (fun l => { l with held := held }) s) := h
  exact fansSafe_parserEffects _ (hheld _)

theorem fansSafe_takeGap {s : State} (h : FansSafe s) : FansSafe (takeGap s) := by
  have hheld : FansSafe (modLink (fun l => { l with held := [] }) s) := h
  exact fansSafe_parserEffects _ hheld

theorem fansSafe_endBreak {s : State} (h : FansSafe s) : FansSafe (endBreak s) := by
  have hline : FansSafe (modLink (fun l => { l with breakOn := false }) s) := h
  exact fansSafe_pump 9 hline

/-! ## Starts -/

/-- The channels of the three loops. -/
def fansOf (s : State) : List FanChannel × List FanChannel × List FanChannel :=
  (s.cool.l1.fans, s.cool.l2.fans, s.cool.l3.fans)

/-- Every channel of every loop is commanded to stop. -/
def AllStopped (s : State) : Prop :=
  FansStopped (fansOf s).1 ∧ FansStopped (fansOf s).2.1 ∧ FansStopped (fansOf s).2.2

theorem AllStopped.safe {s : State} (h : AllStopped s) : FansSafe s := by
  obtain ⟨h1, h2, h3⟩ := h
  exact ⟨h1.within _, h2.within _, h3.within _⟩

theorem AllStopped.congr {s t : State} (h : AllStopped s) (hfans : fansOf t = fansOf s) : AllStopped t := by
  rwa [AllStopped, hfans]

theorem allStopped_inputsOf (c : Cooling) {s : State} (h : s.cool = c.inputsOf) : AllStopped s := by
  simp only [AllStopped, fansOf, h]
  exact ⟨fansStopped_started _, fansStopped_started _, fansStopped_started _⟩

theorem allStopped_startBlocks (reading : Nat) (s : State) : AllStopped (startBlocks reading s) :=
  ⟨fansStopped_started _, fansStopped_started _, fansStopped_started _⟩

theorem fansOf_setFault (c : FaultCode) (u : Nat) (b : Bool) (s : State) : fansOf (setFault c u b s) = fansOf s := by
  cases b <;> rfl

theorem fansOf_raise (c : FaultCode) (u : Nat) (s : State) : fansOf (raise c u s) = fansOf s := rfl
theorem fansOf_clearFault (c : FaultCode) (u : Nat) (s : State) : fansOf (clearFault c u s) = fansOf s := rfl

theorem fansOf_startRows (twistLost imageLost : Bool) (s : State) : fansOf (startRows twistLost imageLost s) = fansOf s := by
  have hclears (l : List Nat) (t : State) : fansOf (forEach l (clearFault .yawDrive) t) = fansOf t :=
    forEach_field (fun u v => fansOf_clearFault .yawDrive u v) l t
  simp only [startRows, apply_ite fansOf, fansOf_raise, fansOf_clearFault, fansOf_setFault, hclears, ite_self]

theorem fansOf_judgeCharger (s : State) : fansOf (judgeCharger s) = fansOf s := by
  unfold judgeCharger
  repeat' split
  all_goals rfl

theorem fansOf_runWalk (s : State) : fansOf (runWalk s) = fansOf s := by
  simp only [runWalk, judgeRevoked]
  repeat' split
  all_goals rfl

theorem fansOf_startSettles (twistLost imageLost : Bool) (s : State) :
    fansOf (startSettles twistLost imageLost s) = fansOf s := by
  unfold startSettles
  extract_lets marked cleared rows aux claims withYaw charged walked
  have hwalked : fansOf walked = fansOf charged := by
    unfold walked
    split
    · exact fansOf_runWalk charged
    · rfl
  calc fansOf walked = fansOf charged := hwalked
    _ = fansOf withYaw := fansOf_judgeCharger withYaw
    _ = fansOf cleared := fansOf_startRows twistLost imageLost cleared

theorem allStopped_coldStart (reading : Nat) (s : State) : AllStopped (coldStart reading s) := by
  unfold coldStart
  exact AllStopped.congr (allStopped_startBlocks reading _) (fansOf_startSettles _ _ _)

theorem allStopped_warmRestart (reading : Nat) (s : State) : AllStopped (warmRestart reading s) :=
  (allStopped_startBlocks reading _).congr (fansOf_startSettles _ _ _)

theorem allStopped_powerFails (s : State) : AllStopped (powerFails s) := allStopped_inputsOf s.cool rfl

/-! ## The line, where a start may begin -/

theorem fansSafe_frameLeaves {s : State} (h : FansSafe s) : FansSafe (frameLeaves s) := by
  simp only [frameLeaves]
  repeat' split
  · exact h
  · exact (allStopped_warmRestart _ _).safe
  · next f rest _ _ =>
    have hrest : FansSafe (modLink (fun l => { l with outbound := rest }) s) := h
    exact fansSafe_finish (fansSafe_pump 9 hrest)

theorem fansSafe_breakLine {s : State} (h : FansSafe s) : FansSafe (breakLine s) := by
  simp only [breakLine]
  split
  · exact (allStopped_warmRestart _ _).safe
  · exact fansSafe_finish (fansSafe_congr (s := s) rfl rfl h)

/-! ## Every command -/

theorem fansSafe_modFan_proven (f : FanId) (running : Bool) {s : State} (h : FansSafe s) :
    FansSafe (modFan f (fun c => { c with proven := running }) s) := by
  obtain ⟨h1, h2, h3⟩ := h
  cases f with
  | l1 c => exact ⟨fansWithin_proven c running h1, h2, h3⟩
  | l2 c => exact ⟨h1, fansWithin_proven c running h2, h3⟩
  | l3 c => exact ⟨h1, h2, fansWithin_proven c running h3⟩

theorem fansSafe_flow (l : Liquid) (flow : Bool) {s : State} (h : FansSafe s) :
    FansSafe (modLoop l (fun r => { r with flow := flow }) s) := by
  cases l <;> exact h

theorem fansSafe_modYaw (f : Yaw → Yaw) {s : State} (h : FansSafe s) : FansSafe (modYaw f s) := h

theorem fansSafe_clearFault (c : FaultCode) (u : Nat) {s : State} (h : FansSafe s) : FansSafe (clearFault c u s) := h

theorem fansSafe_ageDips {s : State} (h : FansSafe s) : FansSafe (ageDips s) := h

theorem fansSafe_qHoldEnds {s : State} (h : FansSafe s) : FansSafe (qHoldEnds s) := by
  unfold qHoldEnds
  split <;> exact h

theorem fansSafe_substituteInlet (l : Liquid) {s : State} (h : FansSafe s) : FansSafe (substituteInlet l s) := by
  simp only [substituteInlet]
  split <;> exact h

theorem fansSafe_watchProof (p : BrakeProof) (present : Bool) {s : State} (h : FansSafe s) :
    FansSafe (watchProof p present s) := by
  unfold watchProof
  split <;> exact h

theorem fansSafe_storeCompletes {s : State} (h : FansSafe s) : FansSafe (storeCompletes s) := by
  unfold storeCompletes
  split <;> exact h

/-- Every command keeps the channels within their grants: a start stops them, the reactions drive them, and a command without
reactions leaves channels and claims alone. -/
theorem fansSafe_exec (c : Instr) {s : State} (h : FansSafe s) : ∃ t, exec c s = .next t ∧ FansSafe t := by
  cases c
  case coldStart u => exact ⟨_, rfl, (allStopped_coldStart u s).safe⟩
  case warmRestart u =>
    refine ⟨_, rfl, ?_⟩
    split
    · exact (allStopped_warmRestart u _).safe
    · exact h
  case powerFailure => exact ⟨_, rfl, (allStopped_powerFails s).safe⟩
  case byteArrival b time => exact ⟨_, rfl, fansSafe_event (fun _ => fansSafe_takeByte b time) h⟩
  case frameGapTimeout => exact ⟨_, rfl, fansSafe_event (fun _ => fansSafe_takeGap) h⟩
  case frameSent =>
    refine ⟨_, rfl, ?_⟩
    split
    · exact fansSafe_frameLeaves h
    · exact h
  case linkBreak =>
    refine ⟨_, rfl, ?_⟩
    split
    · exact fansSafe_breakLine h
    · exact h
  case linkBreakEnd =>
    have hline : FansSafe (setLines (fun l => { l with lineAtBreak := false }) s) := h
    exact ⟨_, rfl, fansSafe_event (fun _ => fansSafe_endBreak) hline⟩
  case takeModeNotice =>
    exact ⟨_, rfl, fansSafe_event (fun u => fansSafe_congr (takeModeNotice_cool u) (takeModeNotice_aux u)) h⟩
  case takeFaultNotice =>
    exact ⟨_, rfl, fansSafe_event (fun u => fansSafe_congr (takeFaultNotice_cool u) (takeFaultNotice_aux u)) h⟩
  case dipListAging => exact ⟨_, rfl, fansSafe_event (fun _ => fansSafe_ageDips) h⟩
  case qHoldEnd => exact ⟨_, rfl, fansSafe_event (fun _ => fansSafe_qHoldEnds) h⟩
  case inletSubstitute l => exact ⟨_, rfl, fansSafe_event (fun _ => fansSafe_substituteInlet l) h⟩
  case brakeProofChange p present =>
    have hline : FansSafe (showProof p present s) := by cases p <;> exact h
    exact ⟨_, rfl, fansSafe_event (fun _ => fansSafe_watchProof p present) hline⟩
  case restTimerExpiry => exact ⟨_, rfl, fansSafe_event (fun _ => fansSafe_modYaw _) h⟩
  case estopChainClose =>
    have hline : FansSafe (setLines (fun l => { l with chainClosed := true }) s) := h
    exact ⟨_, rfl, fansSafe_event (fun _ => fansSafe_clearFault .estop 1) hline⟩
  case storeCompletion => exact ⟨_, rfl, fansSafe_event (fun _ => fansSafe_storeCompletes) h⟩
  case flowSwitchChange l flow =>
    refine ⟨_, rfl, ?_⟩
    split
    · exact fansSafe_react _ h
    · exact fansSafe_flow l flow h
  case fanFeedbackChange f running => exact ⟨_, rfl, fansSafe_react id (fansSafe_modFan_proven f running h)⟩
  case driveFeedbackChange c running => exact ⟨_, rfl, fansSafe_react (s := modYaw _ s) id h⟩
  case gridSample u => exact ⟨_, rfl, fansSafe_react (s := setLines _ s) _ h⟩
  case estopChainOpen => exact ⟨_, rfl, fansSafe_react (s := setLines _ s) _ h⟩
  case keySwitch p => exact ⟨_, rfl, fansSafe_react (s := setLines _ s) _ h⟩
  case jogButtonPress d | jogButtonRelease d =>
    have hheld (on : Bool) : FansSafe (holdButton d on s) := by cases d <;> exact h
    exact ⟨_, rfl, fansSafe_react _ (hheld _)⟩
  case supervisionTimerExpiry | stringReport | prechargeTimeout | shareInterval | rideThroughExceeded | recoveryTimeout |
      overvoltageTimeout | returnDwellComplete | thermalInterval | flowProofTimeout | flowDropTimeout | coolingEvaluation |
      airSensorSubstitute | runOnExpiry | fanMismatchExpiry | bridgeTimerExpiry | normalCountExpiry | batteryAccounting |
      yawSample | brakeVentExpiry | brakePressurizeExpiry | brakeProofAbsenceExpiry | rampingExpiry | manualTimerExpiry |
      driveMismatchExpiry | encoderUpdate | untwistWaitExpiry | calmTimerExpiry | idleLimitExpiry | resetButton =>
    exact ⟨_, rfl, fansSafe_react _ h⟩
  all_goals exact ⟨_, rfl, fansSafe_request _ h⟩

/-- Settles O56: a command by `fansSafe_exec`, an idle millisecond by `fansSafe_tick`. -/
theorem stepKeepsFansWithinTheirGrant : Obligations.StepKeepsFansWithinTheirGrant := by
  unfold Obligations.StepKeepsFansWithinTheirGrant
  intro s t h hstep
  unfold step at hstep
  split at hstep
  · obtain rfl := Host.Outcome.next.inj hstep
    unfold idle
    split
    · exact fansSafe_tick h
    · exact h
  · next c rest _ =>
    have hrest : FansSafe { s with pending := rest } := h
    obtain ⟨u, hu, hsafe⟩ := fansSafe_exec c hrest
    obtain rfl := Host.Outcome.next.inj (hu.symm.trans hstep)
    exact hsafe

end Sys2Proof.Machine

/-! SUPPORT. The liquid loops: what an operation on one loop leaves alone, and the record, the claims and the rows that it leaves (R62 to R70, R73). -/

namespace Sys2Proof.Machine

/-! ## Claims by name (R82) -/

theorem claimOf_aux {s t : State} (h : t.aux = s.aux) (id : ClaimId) : claimOf t id = claimOf s id := by
  rw [claimOf, claimOf, h]

theorem claimOf_setCeiling_ne {id j : ClaimId} (h : j ≠ id) (n : Nat) (s : State) :
    claimOf (setCeiling id n s) j = claimOf s j := by
  by_cases hc : (claimOf s id).ceiling = n
  · exact congrArg (fun b : Budget => b.claims.get j) (if_pos hc)
  · simp only [setCeiling, if_neg hc]
    exact claims_get_set_ne h _ _

theorem claimOf_submitClaim_ne {id j : ClaimId} (h : j ≠ id) (n : Nat) (s : State) :
    claimOf (submitClaim id n s) j = claimOf s j := by
  by_cases hs : (claimOf s id).submitted = true
  · have haux : (submitClaim id n s).aux = (setCeiling id n s).aux := if_pos hs
    exact (claimOf_aux haux j).trans (claimOf_setCeiling_ne h n s)
  · simp only [submitClaim, if_neg hs]
    exact claims_get_set_ne h _ _

theorem claimOf_withdrawClaim_ne {id j : ClaimId} (h : j ≠ id) (s : State) :
    claimOf (withdrawClaim id s) j = claimOf s j := by
  by_cases hs : (claimOf s id).submitted = true
  · simp only [withdrawClaim, if_pos hs]
    exact claims_get_set_ne h _ _
  · exact congrArg (fun b : Budget => b.claims.get j) (if_neg hs)

theorem submitted_of_claimOf {s t : State} {id : ClaimId} (h : claimOf t id = claimOf s id) :
    submitted t id = submitted s id := congrArg Claim.submitted h

theorem fanClaim_ne_pumpClaim (l m : Liquid) : fanClaim l ≠ pumpClaim m := by cases l <;> cases m <;> decide
theorem fanClaim_injective {l m : Liquid} (h : fanClaim l = fanClaim m) : l = m := by
  revert h; cases l <;> cases m <;> decide

/-! ## Records by name -/

theorem loopOf_cool {s t : State} (h : t.cool = s.cool) (l : Liquid) : loopOf t l = loopOf s l := by
  cases l <;> simp only [loopOf, h]

theorem loopOf_modLoop_self (l : Liquid) (f : LiquidLoop → LiquidLoop) (s : State) :
    loopOf (modLoop l f s) l = f (loopOf s l) := by cases l <;> rfl

theorem loopOf_modLoop_ne {l m : Liquid} (h : l ≠ m) (f : LiquidLoop → LiquidLoop) (s : State) :
    loopOf (modLoop m f s) l = loopOf s l :=
  match l, m, h with
  | .l1, .l2, _ | .l2, .l1, _ => rfl
  | .l1, .l1, h | .l2, .l2, h => absurd rfl h

/-! ## An operation on one loop -/

/-- `s` without what an operation on a liquid loop may write. -/
def aroundLoops (s : State) : State :=
  { s with
    conv := { s.conv with queue := [] }
    cool := { s.cool with l1 := .atStart, l2 := .atStart }
    aux := .atStart
    faults := .atStart }

/-- `t` is `s` after an operation on loop `m`: it writes that loop's record, its two claims, its two rows that are cleared, and the
precharge queue. -/
structure LoopStep (m : Liquid) (s t : State) : Prop where
  around : aroundLoops t = aroundLoops s
  other : ∀ l, l ≠ m → loopOf t l = loopOf s l
  claims : ∀ id, id ≠ pumpClaim m → id ≠ fanClaim m → claimOf t id = claimOf s id
  rows : ∀ i, i ≠ rowOf .loopFailed m.num → i ≠ rowOf .loopFlow m.num → rowAt t i = rowAt s i
  length : t.faults.rows.length = s.faults.rows.length

theorem LoopStep.refl (m : Liquid) (s : State) : LoopStep m s s :=
  ⟨rfl, fun _ _ => rfl, fun _ _ _ => rfl, fun _ _ _ => rfl, rfl⟩

theorem LoopStep.trans {m : Liquid} {s t u : State} (h : LoopStep m s t) (h' : LoopStep m t u) : LoopStep m s u where
  around := h'.around.trans h.around
  other l hl := (h'.other l hl).trans (h.other l hl)
  claims id hp hf := (h'.claims id hp hf).trans (h.claims id hp hf)
  rows i h1 h2 := (h'.rows i h1 h2).trans (h.rows i h1 h2)
  length := h'.length.trans h.length

/-- A field that no operation on a loop writes. -/
theorem LoopStep.field {m : Liquid} {s t : State} (h : LoopStep m s t) {β : Type} {f : State → β}
    (hf : ∀ s, f (aroundLoops s) = f s) : f t = f s := by
  rw [← hf t, ← hf s, h.around]

theorem loopStep_modLoop (m : Liquid) (f : LiquidLoop → LiquidLoop) (s : State) : LoopStep m s (modLoop m f s) where
  around := by cases m <;> rfl
  other _ hl := loopOf_modLoop_ne hl f s
  claims _ _ _ := rfl
  rows _ _ _ := rfl
  length := rfl

theorem loopStep_setQueue (m : Liquid) (q : List StringId) (s : State) : LoopStep m s (setQueue q s) :=
  ⟨rfl, fun l _ => loopOf_cool rfl l, fun _ _ _ => rfl, fun _ _ _ => rfl, rfl⟩

theorem loopStep_withdrawClaim {m : Liquid} {id : ClaimId} (hid : id = pumpClaim m ∨ id = fanClaim m) (s : State) :
    LoopStep m s (withdrawClaim id s) where
  around := rfl
  other l _ := loopOf_cool rfl l
  claims j hp hf := claimOf_withdrawClaim_ne (by rintro rfl; exact hid.elim hp hf) s
  rows _ _ _ := rfl
  length := rfl

theorem loopStep_submitClaim {m : Liquid} {id : ClaimId} (hid : id = pumpClaim m ∨ id = fanClaim m) (n : Nat) (s : State) :
    LoopStep m s (submitClaim id n s) where
  around := rfl
  other l _ := loopOf_cool rfl l
  claims j hp hf := claimOf_submitClaim_ne (by rintro rfl; exact hid.elim hp hf) n s
  rows _ _ _ := rfl
  length := rfl

theorem loopStep_setCeiling {m : Liquid} {id : ClaimId} (hid : id = pumpClaim m ∨ id = fanClaim m) (n : Nat) (s : State) :
    LoopStep m s (setCeiling id n s) where
  around := rfl
  other l _ := loopOf_cool rfl l
  claims j hp hf := claimOf_setCeiling_ne (by rintro rfl; exact hid.elim hp hf) n s
  rows _ _ _ := rfl
  length := rfl

theorem loopStep_clearFault {m : Liquid} {c : FaultCode} (hc : c = .loopFailed ∨ c = .loopFlow) (s : State) :
    LoopStep m s (clearFault c m.num s) where
  around := rfl
  other l _ := loopOf_cool rfl l
  claims _ _ _ := rfl
  rows i hfailed hflow := by
    refine getD_updateAt_ne (fun e => ?_) _ _ _
    obtain rfl | rfl := hc
    · exact hfailed e.symm
    · exact hflow e.symm
  length := clearFault_rows_length _ _ s

theorem loopStep_followFanClaim (m : Liquid) (s : State) : LoopStep m s (followFanClaim m s) := by
  simp only [followFanClaim]
  repeat' split
  · exact loopStep_withdrawClaim (.inr rfl) s
  · exact loopStep_setCeiling (.inr rfl) _ s
  · exact loopStep_submitClaim (.inr rfl) _ s
  · exact .refl m s

theorem loopStep_loopOff (m : Liquid) (s : State) : LoopStep m s (loopOff m s) :=
  (((loopStep_modLoop m _ s).trans (loopStep_withdrawClaim (.inl rfl) _)).trans
    (loopStep_withdrawClaim (.inr rfl) _)).trans (loopStep_clearFault (.inr rfl) _)

theorem loopStep_pumpGrantLost (m : Liquid) (s : State) : LoopStep m s (pumpGrantLost m s) := by
  unfold pumpGrantLost
  split
  · exact ((loopStep_modLoop m _ s).trans (loopStep_withdrawClaim (.inr rfl) _)).trans (loopStep_clearFault (.inr rfl) _)
  · exact .refl m s

theorem loopStep_proofSuccess (m : Liquid) (s : State) : LoopStep m s (proofSuccess m s) := by
  simp only [proofSuccess]
  split
  · exact loopStep_modLoop m _ s
  · exact ((loopStep_modLoop m _ s).trans (loopStep_modLoop m _ _)).trans (loopStep_followFanClaim m _)

theorem loopStep_beginTrial (m : Liquid) (p : Pump) (role : PumpRole) (s : State) :
    LoopStep m s (beginTrial m p role s) := by
  simp only [beginTrial]
  split
  · exact (loopStep_modLoop m _ s).trans (loopStep_proofSuccess m _)
  · exact loopStep_modLoop m _ s

theorem loopStep_handPump (before after : Claims) (m : Liquid) (s : State) :
    LoopStep m s (handPump before after m s) := by
  unfold handPump startLoop
  repeat' split
  · exact loopStep_beginTrial m _ _ s
  · exact .refl m s
  · exact loopStep_pumpGrantLost m s
  · exact .refl m s

/-! ## The fan claim (R73) -/

theorem followFanClaim_cool (l : Liquid) (s : State) : (followFanClaim l s).cool = s.cool := by
  simp only [followFanClaim]
  repeat' split
  all_goals rfl

/-- Once submitted, or due with a demand to serve, the fan claim follows the demand. -/
theorem fansClaimed_followFanClaim {l : Liquid} {s : State}
    (h : submitted s (fanClaim l) = true ∨ ((loopOf s l).fansDue = true ∧ 1 ≤ (loopOf s l).demand)) :
    FansClaimed (followFanClaim l s) l (loopOf s l).demand := by
  unfold FansClaimed
  rw [loopOf_cool (followFanClaim_cool l s)]
  intro most
  by_cases hnone : (loopOf s l).demand ≥ 1 ∧ most = 0
  · rw [followFanClaim, if_pos hnone]
    exact ⟨fun _ _ => submitted_withdrawClaim _ s, by omega⟩
  · simp only [followFanClaim]
    rw [if_neg hnone]
    refine ⟨fun hd hm => absurd ⟨hd, hm⟩ hnone, fun hsome => ?_⟩
    by_cases hsub : submitted s (fanClaim l) = true
    · rw [if_pos hsub, submitted_setCeiling, claimOf_setCeiling]
      exact ⟨hsub, rfl⟩
    · obtain ⟨hdue, hd⟩ := h.resolve_left hsub
      have hm : most > 0 := by omega
      rw [if_neg hsub, if_pos ⟨hdue, hm⟩]
      exact ⟨submitted_submitClaim _ _ s, ceiling_submitClaim _ _ s⟩

end Sys2Proof.Machine

/-! SUPPORT. A Failed loop through the reactions of an event: no reaction takes it out of Failed (R69). -/

namespace Sys2Proof.Machine

/-! ## What the yaw controller leaves of the loops -/

@[simp] theorem completeWaiting_cool (s : State) : (completeWaiting s).cool = s.cool := rfl
@[simp] theorem beginPressurize_cool (s : State) : (beginPressurize s).cool = s.cool := rfl
@[simp] theorem setForced_cool (s : State) : (setForced s).cool = s.cool := rfl
@[simp] theorem setYawMode_cool (m : YawMode) (s : State) : (setYawMode m s).cool = s.cool := rfl
@[simp] theorem stopUntwistWait_cool (s : State) : (stopUntwistWait s).cool = s.cool := rfl

@[simp] theorem runningStop_cool (s : State) : (runningStop s).cool = s.cool := by
  unfold runningStop; (repeat' split) <;> rfl
@[simp] theorem modeStop_cool (s : State) : (modeStop s).cool = s.cool := by
  unfold modeStop; split <;> simp
@[simp] theorem stopWaiting_cool (s : State) : (stopWaiting s).cool = s.cool := by
  simp only [stopWaiting, judgeDwell, endClearance]; (repeat' split) <;> rfl
@[simp] theorem stopKind_cool (k : MoveKind) (s : State) : (stopKind k s).cool = s.cool := by
  unfold stopKind normalStop; (repeat' split) <;> simp
@[simp] theorem forcedStop_cool (s : State) : (forcedStop s).cool = s.cool := by
  unfold forcedStop; (repeat' split) <;> rfl
@[simp] theorem yawGrantLost_cool (s : State) : (yawGrantLost s).cool = s.cool := by
  unfold yawGrantLost; (repeat' split) <;> rfl
@[simp] theorem takeYawGrant_cool (n : Nat) (s : State) : (takeYawGrant n s).cool = s.cool := by
  unfold takeYawGrant; (repeat' split) <;> rfl
@[simp] theorem handYaw_cool (before after : Claims) (s : State) : (handYaw before after s).cool = s.cool := by
  unfold handYaw yawGrantChange; (repeat' split) <;> simp
@[simp] theorem judgeYaw_cool (s : State) : (judgeYaw s).cool = s.cool := by
  simp only [judgeYaw, yawModeEffect]; (repeat' split) <;> simp
@[simp] theorem yawOnMode_cool (m : Mode) (s : State) : (yawOnMode m s).cool = s.cool := by
  unfold yawOnMode; split <;> (try split) <;> simp

/-! ## Failed -/

/-- A loop that has lost both pumps (R68). -/
def LoopFailed (l : Liquid) (s : State) : Prop := (loopOf s l).state = .failed

theorem LoopFailed.cool {l : Liquid} {s t : State} (h : LoopFailed l s) (hc : t.cool = s.cool) : LoopFailed l t := by
  rwa [LoopFailed, loopOf_cool hc]

/-- A change of a record that leaves its state. -/
theorem LoopFailed.modLoop {l m : Liquid} {f : LiquidLoop → LiquidLoop} (hf : ∀ r, (f r).state = r.state) {s : State}
    (h : LoopFailed l s) : LoopFailed l (modLoop m f s) := by
  by_cases e : l = m
  · subst e; rwa [LoopFailed, loopOf_modLoop_self, hf]
  · rwa [LoopFailed, loopOf_modLoop_ne e]

theorem LoopFailed.touched {l : Liquid} {k : StringId} {s t : State} (h : LoopFailed l s) (ht : Touches k s t) :
    LoopFailed l t := (context_loop ht.context l).1.trans h

theorem failed_oweJudgement {l : Liquid} (m : Liquid) {s : State} (h : LoopFailed l s) : LoopFailed l (oweJudgement m s) :=
  h.modLoop (by intro _; rfl)

theorem failed_oweBothJudgements {l : Liquid} {s : State} (h : LoopFailed l s) : LoopFailed l (oweBothJudgements s) :=
  failed_oweJudgement .l2 (failed_oweJudgement .l1 h)

theorem failed_stringsOnMode {l : Liquid} (b : Bool) (m : Mode) (t : Option Mode) {s : State} (h : LoopFailed l s) :
    LoopFailed l (stringsOnMode b m t s) := by
  have hstop (blocked : Bool) : LoopFailed l (stopStrings blocked s) := by
    have hrun := forEach_keeps (P := LoopFailed l) (fun k u hu => hu.touched (touches_stopOne blocked k u)) StringId.all s h
    unfold stopStrings emptyQueue
    split
    · exact hrun
    · exact failed_oweBothJudgements (hrun.cool rfl)
  rcases stringsOnMode_cases b m t s with e | e | e | e <;> rw [e]
  · exact hstop false
  · exact hstop true
  · exact forEach_keeps (fun k u hu => hu.touched (touches_testJoin k u)) StringId.all s h
  · exact h

theorem failed_coolOnMode {l : Liquid} (m : Mode) {s : State} (h : LoopFailed l s) : LoopFailed l (coolOnMode m s) := by
  simp only [coolOnMode]
  have hrun (u : State) (hu : LoopFailed l u) : LoopFailed l (modLoop .l2 (fun r => { r with runOn := none })
      (modLoop .l1 (fun r => { r with runOn := none }) u)) :=
    (hu.modLoop (by intro _; rfl)).modLoop (by intro _; rfl)
  repeat' split
  · exact failed_oweBothJudgements (hrun s h)
  · exact failed_oweBothJudgements h
  · exact (failed_oweBothJudgements (hrun s h)).cool rfl
  · exact (failed_oweBothJudgements h).cool rfl

theorem failed_changeMode {l : Liquid} (m : Mode) (t : Option Mode) (c : Cause) {s : State} (h : LoopFailed l s) :
    LoopFailed l (changeMode m t c s) := by
  have hstrings : LoopFailed l (stringsOnMode (m ≠ s.mode.current) m t { s with mode := s.mode.changed s.clock m t c }) :=
    failed_stringsOnMode _ _ _ (h.cool rfl)
  simp only [changeMode]
  repeat' split
  · exact h
  · exact hstrings
  · have hhand : LoopFailed l (yawOnMode m (coolOnMode m
        (stringsOnMode (m ≠ s.mode.current) m t { s with mode := s.mode.changed s.clock m t c }))) :=
      (failed_coolOnMode m hstrings).cool (yawOnMode_cool _ _)
    simp only [handMode]
    split
    · exact hhand.cool rfl
    · exact hhand

theorem failed_completeTransition {l : Liquid} {s : State} (h : LoopFailed l s) : LoopFailed l (completeTransition s) := by
  have hchange (m : Mode) (t : Option Mode) (c : Cause) : LoopFailed l (changeMode m t c s) := failed_changeMode m t c h
  have hend : LoopFailed l (endTransition s) := by
    unfold endTransition
    repeat' split
    all_goals exact hchange _ _ _
  unfold completeTransition
  repeat' split
  · exact hend
  · exact h
  · exact hend
  · exact h
  · exact hchange _ _ _
  · exact h
  · exact hchange _ _ _
  · exact h
  · exact h

theorem failed_followPrecharge {l : Liquid} {s : State} (h : LoopFailed l s) : LoopFailed l (followPrecharge s) := by
  have hbegin : LoopFailed l (beginPrecharge s) := (context_loop (context_beginPrecharge s) l).1.trans h
  have hfollow := forEach_keeps (fun k u hu => LoopFailed.touched hu (touches_followLoop k u)) StringId.all _ hbegin
  unfold followPrecharge
  generalize forEach StringId.all followLoop (beginPrecharge s) = u at hfollow
  unfold followPrechargeClaim
  repeat' split
  · exact hfollow
  · exact hfollow.cool rfl
  · exact hfollow.cool rfl

/-- A judgement of a Failed loop writes what is owed alone (R64). -/
theorem judgeLoop_of_failed {l : Liquid} {s : State} (h : LoopFailed l s) (hj : (loopOf s l).judge = true) :
    judgeLoop l s = modLoop l (fun r => { r with required := requiredNow s l, judge := false }) s := by
  have hfailed : (loopOf s l).state = .failed := h
  simp only [judgeLoop, hj, hfailed, if_true]

theorem loopStep_judgeLoop (m : Liquid) (s : State) : LoopStep m s (judgeLoop m s) := by
  have hjudged := loopStep_modLoop m (fun r => { r with required := requiredNow s m, judge := false }) s
  simp only [judgeLoop]
  repeat' split
  · exact hjudged
  · exact hjudged.trans (loopStep_submitClaim (.inl rfl) _ _)
  · exact hjudged
  · exact hjudged.trans (loopStep_loopOff m _)
  · exact hjudged
  · exact .refl m s

theorem failed_judgeLoop {l : Liquid} (m : Liquid) {s : State} (h : LoopFailed l s) : LoopFailed l (judgeLoop m s) := by
  by_cases e : l = m
  · subst e
    by_cases hj : (loopOf s l).judge = true
    · rw [judgeLoop_of_failed h hj]
      exact h.modLoop (by intro _; rfl)
    · rwa [judgeLoop, if_neg hj]
  · rwa [LoopFailed, (loopStep_judgeLoop m s).other l e]

/-- No pump grant starts a Failed loop, and none is taken from it (R66, R70). -/
theorem failed_handPump {l : Liquid} (before after : Claims) (m : Liquid) {s : State} (h : LoopFailed l s) :
    LoopFailed l (handPump before after m s) := by
  by_cases e : l = m
  · subst e
    have hfailed : (loopOf s l).state = .failed := h
    have hstart : startLoop l s = s := by simp [startLoop, hfailed]
    have hlost : pumpGrantLost l s = s := by simp [pumpGrantLost, loopFlowing, hfailed, LoopState.flowing]
    unfold handPump
    repeat' split
    · rwa [hstart]
    · rwa [hlost]
    · exact h
  · rwa [LoopFailed, (loopStep_handPump before after m s).other l e]

theorem failed_runWalk {l : Liquid} {s : State} (h : LoopFailed l s) : LoopFailed l (runWalk s) := by
  have hstate : (loopOf (runWalk s) l).state = (loopOf s l).state := by
    simp only [runWalk, judgeRevoked]
    repeat' split
    all_goals cases l <;> rfl
  exact hstate.trans h

theorem failed_walkAndHand {l : Liquid} {s : State} (h : LoopFailed l s) : LoopFailed l (walkAndHand s) := by
  simp only [walkAndHand, handGrants]
  split
  · have hpumps := failed_handPump s.aux.claims (runWalk s).aux.claims .l2
      (failed_handPump s.aux.claims (runWalk s).aux.claims .l1 (failed_runWalk h))
    refine LoopFailed.cool ?_ (handYaw_cool _ _ _)
    unfold handPrecharge
    split
    · refine forEach_keeps (fun k u hu => ?_) _ _ hpumps
      unfold abortPrecharge
      split
      · exact failed_oweJudgement _ (hu.cool rfl)
      · exact hu
    · exact hpumps
  · exact h

theorem failed_turn {l : Liquid} {s : State} (h : LoopFailed l s) : LoopFailed l (turn s) := by
  have hprecharge := failed_followPrecharge (failed_completeTransition h)
  have hjudged : LoopFailed l (judgeLoops (followPrecharge (completeTransition s))) :=
    failed_judgeLoop .l2 (failed_judgeLoop .l1 hprecharge)
  exact failed_walkAndHand (hjudged.cool (judgeYaw_cool _))

theorem failed_outputs {l : Liquid} {s : State} (h : LoopFailed l s) : LoopFailed l (outputs s) := by
  have hstate : (loopOf (outputs s) l).state = (loopOf s l).state := by cases l <;> rfl
  exact hstate.trans h

/-- No reaction takes a loop out of Failed. -/
theorem failed_settle {l : Liquid} {s : State} (h : LoopFailed l s) : LoopFailed l (settle s) :=
  settle_keeps (P := LoopFailed l) (fun _ => failed_turn) (fun _ => failed_outputs) s h

end Sys2Proof.Machine

/-! SUPPORT. Flow proofs, pump trials and failures, the judgement of the requirement, and the pump grant handed to a loop (R64 to R70). -/

namespace Sys2Proof.Machine

/-! ## The rows of a liquid loop -/

theorem loopRows (l : Liquid) :
    rowOf .loopFlow l.num < 79 ∧ rowOf .loopFailed l.num < 79 ∧ reactiveRow (rowOf .loopFailed l.num) = false ∧
    rowOf .loopFlow l.num ≠ rowOf .loopFailed l.num := by cases l <;> decide

/-! ## Trials and failures (R67, R68) -/

/-- The standby trial of a pump without flow. -/
theorem standbyTrial_of_no_flow {l : Liquid} {s : State} (h : (loopOf s l).flow = false) :
    standbyTrial l s = modLoop l (fun r => { r with
      state := .starting, pump := some ((loopOf s l).pump.getD (dutyOf s l)).other, role := some .standby
      proof := some ⟨s.clock, 15000⟩, drop := none }) (raise .loopFlow l.num s) := by
  have hflow : (loopOf (raise .loopFlow l.num s) l).flow = false := by rwa [loopOf_cool (raise_cool _ _ s)]
  simp only [standbyTrial, beginTrial, hflow, Bool.false_eq_true, if_false, startTimer, raise_clock]

/-- What the standby trial leaves of the record, and LOOP_FLOW Active. -/
theorem standbyTrial_leaves {l : Liquid} {s : State} (hl : s.faults.rows.length = 79) (h : (loopOf s l).flow = false) :
    (loopOf (standbyTrial l s) l).state = .starting ∧ (loopOf (standbyTrial l s) l).role = some .standby ∧
    (loopOf (standbyTrial l s) l).pump = some ((loopOf s l).pump.getD (dutyOf s l)).other ∧
    (loopOf (standbyTrial l s) l).proof = some ⟨s.clock, 15000⟩ ∧ isActive (standbyTrial l s) .loopFlow l.num = true := by
  obtain ⟨hrow, -, -, -⟩ := loopRows l
  have hactive : isActive (raise .loopFlow l.num s) .loopFlow l.num = true := isActive_raise_of_lt (hrow.trans_eq hl.symm)
  rw [standbyTrial_of_no_flow h, loopOf_modLoop_self]
  exact ⟨rfl, rfl, rfl, rfl, hactive⟩

theorem failed_stopOne {l : Liquid} (k : StringId) {s : State} (h : LoopFailed l s) : LoopFailed l (stopOne true k s) :=
  h.touched (touches_stopOne true k s)

theorem stopOne_faults (b : Bool) (k : StringId) (s : State) : (stopOne b k s).faults = s.faults := by
  unfold stopOne
  repeat' split
  all_goals rfl

/-- A loop that has lost both pumps is Failed, with its row Active (R68). -/
theorem loopFail_leaves {l : Liquid} {s : State} (hl : s.faults.rows.length = 79) :
    LoopFailed l (loopFail l s) ∧ isActive (loopFail l s) .loopFailed l.num = true := by
  obtain ⟨-, hrow, -, -⟩ := loopRows l
  simp only [loopFail]
  generalize hrest : withdrawClaim (fanClaim l) (withdrawClaim (pumpClaim l)
    (modLoop l (fun r => { r.resting .failed with selection := 0 }) (raise .loopFailed l.num s))) = rest
  have hfailed : LoopFailed l rest := by
    rw [LoopFailed, ← hrest, loopOf_cool (withdrawClaim_cool _ _), loopOf_cool (withdrawClaim_cool _ _), loopOf_modLoop_self]
    rfl
  have hfaults : rest.faults = (raise .loopFailed l.num s).faults := by rw [← hrest]; rfl
  have hstopped := forEach_keeps (fun k _ => failed_stopOne k) l.strings rest hfailed
  have hrows : (forEach l.strings (stopOne true) rest).faults = rest.faults :=
    forEach_field (g := State.faults) (stopOne_faults true) l.strings rest
  generalize forEach l.strings (stopOne true) rest = stopped at hstopped hrows
  refine ⟨failed_oweJudgement l (hstopped.cool rfl), ?_⟩
  have hactive : isActive (raise .loopFailed l.num s) .loopFailed l.num = true :=
    isActive_raise_of_lt (hrow.trans_eq hl.symm)
  refine (isActive_congr ?_).trans hactive
  exact congrArg (fun t : FaultTable => (t.rows.getD (rowOf .loopFailed l.num) .blank).state) (hrows.trans hfaults)

/-- The event of an effect that fails a loop ends with the loop Failed and its row Active. -/
theorem react_loopFailed {s : State} (hp : s.powered = true) (hl : s.faults.rows.length = 79) {l : Liquid}
    {f : State → State} (hf : f (beginEvent s) = loopFail l (beginEvent s)) :
    (loopOf (react f s) l).state = .failed ∧ isActive (react f s) .loopFailed l.num = true := by
  obtain ⟨-, -, hstill, -⟩ := loopRows l
  obtain ⟨hfailed, hactive⟩ := loopFail_leaves (l := l) (s := beginEvent s) hl
  constructor
  · rw [react_eq hp, hf, loopOf_cool (finish_cool _)]
    exact failed_settle hfailed
  · rw [outside_isActive_of_still (outside_react hp) hstill, hf]
    exact hactive

/-- The proof timer of a running trial: the pump fails (R67). -/
theorem proofTimeout_of_trial {l : Liquid} {s : State} (h : (loopOf s l).state = .starting)
    (hp : (loopOf s l).proof.isSome = true) : proofTimeout l s = pumpFails l s := if_pos ⟨h, hp⟩

/-- The drop timer of a running pump: the pump fails (R67). -/
theorem dropTimeout_of_running {l : Liquid} {s : State} (h : loopFlowing s l = true)
    (hd : (loopOf s l).drop.isSome = true) : dropTimeout l s = pumpFails l s := if_pos ⟨h, hd⟩

theorem pumpFails_duty {l : Liquid} {s : State} (h : (loopOf s l).role = some .duty) :
    pumpFails l s = standbyTrial l s := if_neg (by simp [h])

theorem pumpFails_standby {l : Liquid} {s : State} (h : (loopOf s l).role = some .standby) :
    pumpFails l s = loopFail l s := if_pos h

/-! ## The flow switch (R66, R67) -/

theorem loopOf_beginEvent (s : State) (l : Liquid) : loopOf (beginEvent s) l = loopOf s l := loopOf_cool rfl l

/-- A powered flow switch is followed by the reactions. -/
theorem exec_flowSwitchChange {s : State} (hp : s.powered = true) (l : Liquid) (flow : Bool) :
    exec (.flowSwitchChange l flow) s = .next (react (flowChange l flow) s) :=
  congrArg Host.Outcome.next (if_pos hp)

/-- But for the flow itself the flow switch moves what the reactions write. -/
theorem beside_flowChange (l : Liquid) (flow : Bool) (s : State) :
    beside (flowChange l flow s) = beside (modLoop l (fun r => { r with flow := flow }) s) := by
  simp only [flowChange]
  split
  · split
    · exact beside_proofSuccess l _
    · rfl
  · exact beside_modLoop (by intro _; rfl) _
  · exact beside_modLoop (by intro _; rfl) _
  · rfl
  · rfl

/-- A flow shown while a proof runs proves the pump (R66). -/
theorem flowChange_of_trial {l : Liquid} {s : State} (h : (loopOf s l).state = .starting)
    (hp : (loopOf s l).proof.isSome = true) :
    flowChange l true s = proofSuccess l (modLoop l (fun r => { r with flow := true }) s) := by
  simp only [flowChange, h, hp, and_self, if_true]

theorem loadedRunOn_eq (s : State) : loadedRunOn s = freshRunOn s := by
  simp [loadedRunOn, freshRunOn, scarce, startTimer]

theorem forwardStage_pos (s : State) (l : Liquid) : 1 ≤ forwardStage s l := by
  unfold forwardStage
  repeat' split
  all_goals decide

/-- The record of a loop whose pump is proven. -/
def LiquidLoop.proven (r : LiquidLoop) : LiquidLoop :=
  { r with
    state := if r.role = some .duty ∧ maxStage r.fans = r.fans.length then .running else .degraded
    proof := none }

theorem proven_state (r : LiquidLoop) :
    r.proven.state = if r.role = some .duty ∧ ∀ c ∈ r.fans, c.failed = false then .running else .degraded :=
  if_congr (and_congr_right' (maxStage_eq_length_iff _)) rfl rfl

/-- The record of a proven loop that takes up its stages (R66, R73). -/
def LiquidLoop.staged (s : State) (l : Liquid) (r : LiquidLoop) : LiquidLoop :=
  { r.proven with demand := feedForward (heatOf s l), runOn := loadedRunOn s, fansDue := true }

theorem proofSuccess_of_claimed {l : Liquid} {s : State} (h : submitted s (fanClaim l) = true) :
    proofSuccess l s = modLoop l (fun _ => (loopOf s l).proven) s := by
  rw [proofSuccess]
  simp only [h, if_true]
  cases l <;> rfl

theorem proofSuccess_of_unclaimed {l : Liquid} {s : State} (h : submitted s (fanClaim l) = false) :
    proofSuccess l s = followFanClaim l (modLoop l (·.staged s l) s) := by
  rw [proofSuccess]
  simp only [h, Bool.false_eq_true, if_false]
  cases l <;> rfl

/-- What the proof of a pump leaves: the state by its role and its loop's channels, and a fan claim at the feed-forward stage
where none stood (R66, R73). -/
theorem proofSuccess_leaves (l : Liquid) (s : State) :
    let r := proofSuccess l s
    (loopOf r l).state =
      (if (loopOf s l).role = some .duty ∧ ∀ c ∈ (loopOf s l).fans, c.failed = false then .running else .degraded) ∧
    (loopOf r l).proof = none ∧
    (submitted s (fanClaim l) = false → (loopOf r l).demand = forwardStage s l ∧ (loopOf r l).runOn = freshRunOn s ∧
      FansClaimed r l (forwardStage s l)) ∧
    (submitted s (fanClaim l) = true → (loopOf r l).demand = (loopOf s l).demand ∧
      (loopOf r l).runOn = (loopOf s l).runOn ∧ r.aux = s.aux) := by
  intro r
  cases hsub : submitted s (fanClaim l) with
  | true =>
    have hr : r = modLoop l (fun _ => (loopOf s l).proven) s := proofSuccess_of_claimed hsub
    rw [hr, loopOf_modLoop_self]
    exact ⟨proven_state _, rfl, fun h => (nomatch h), fun _ => ⟨rfl, rfl, modLoop_aux l _ s⟩⟩
  | false =>
    have hr : r = followFanClaim l (modLoop l (·.staged s l) s) := proofSuccess_of_unclaimed hsub
    have hrec : loopOf r l = (loopOf s l).staged s l := by
      rw [hr, loopOf_cool (followFanClaim_cool l _), loopOf_modLoop_self]
    have hclaim : FansClaimed r l (forwardStage s l) := by
      have hdue := fansClaimed_followFanClaim (l := l) (s := modLoop l (·.staged s l) s)
      rw [loopOf_modLoop_self, ← hr] at hdue
      exact hdue (.inr ⟨rfl, forwardStage_pos s l⟩)
    rw [hrec]
    exact ⟨proven_state _, rfl, fun _ => ⟨rfl, loadedRunOn_eq s, hclaim⟩, fun h => (nomatch h)⟩

/-! ## The requirement judged (R64, R65) -/

theorem hot_iff (s : State) (l : Liquid) : (inletOf s l).inUse > hotBar s ↔ hotInlet s l := by
  simp [hotBar, hotInlet, scarce]

theorem needsLoop_iff (s : State) (k : StringId) : (strOf s k).state.needsLoop = true ↔ HoldsLoop s k := by
  unfold HoldsLoop
  cases (strOf s k).state <;> decide

theorem requiredNow_iff (s : State) (l : Liquid) : requiredNow s l = true ↔ Required s l := by
  have hscarce : (!scarce s) = true ↔ s.mode.current ≠ .isolated ∧ s.mode.current ≠ .storm := by
    simp [scarce]
  simp only [requiredNow, Required, Bool.or_eq_true, Bool.and_eq_true, List.any_eq_true, decide_eq_true_eq, hot_iff,
    needsLoop_iff, hscarce, List.contains_iff_mem, or_assoc]

/-- The record of loop `l` with the judgement that was owed (R64). -/
def judged (l : Liquid) (s : State) : State :=
  modLoop l (fun r => { r with required := requiredNow s l, judge := false }) s

theorem loopOf_judged (l : Liquid) (s : State) :
    loopOf (judged l s) l = { loopOf s l with required := requiredNow s l, judge := false } := loopOf_modLoop_self l _ s

/-- A loop that is required and not Failed: from Off it submits its pump claim (R65). -/
theorem judgeLoop_of_required {l : Liquid} {s : State} (hj : (loopOf s l).judge = true) (hf : (loopOf s l).state ≠ .failed)
    (hr : Required s l) :
    judgeLoop l s =
      if (loopOf s l).state = .off ∧ submitted s (pumpClaim l) = false then submitClaim (pumpClaim l) 15 (judged l s)
      else judged l s := by
  have hneed := (requiredNow_iff s l).mpr hr
  simp only [judgeLoop, if_pos hj, if_neg hf, if_pos hneed]
  rfl

/-- A loop that is not required and not Failed: it ceases to be required, or was Off and not required before (R65). -/
theorem judgeLoop_of_not_required {l : Liquid} {s : State} (hj : (loopOf s l).judge = true)
    (hf : (loopOf s l).state ≠ .failed) (hr : ¬Required s l) :
    judgeLoop l s =
      if (loopOf s l).required = true ∨ (loopOf s l).state ≠ .off then loopOff l (judged l s) else judged l s := by
  have hneed : ¬requiredNow s l = true := fun h => hr ((requiredNow_iff s l).mp h)
  simp only [judgeLoop, if_pos hj, if_neg hf, if_neg hneed]
  rfl

theorem judgeLoop_of_loopFailed {l : Liquid} {s : State} (hj : (loopOf s l).judge = true)
    (hf : (loopOf s l).state = .failed) : judgeLoop l s = judged l s := judgeLoop_of_failed hf hj

/-- The record, claims and row of a loop that ceases to be required. -/
theorem loopOff_leaves (l : Liquid) (s : State) :
    loopOf (loopOff l s) l = { (loopOf s l).resting .off with selection := 0 } ∧
    submitted (loopOff l s) (pumpClaim l) = false ∧ submitted (loopOff l s) (fanClaim l) = false ∧
    isActive (loopOff l s) .loopFlow l.num = false := by
  unfold loopOff
  generalize hrest : modLoop l _ s = rest
  refine ⟨?_, ?_, submitted_withdrawClaim (fanClaim l) _, isActive_clearFault _ _ _⟩
  · rw [loopOf_cool (clearFault_cool _ _ _), loopOf_cool (withdrawClaim_cool _ _), loopOf_cool (withdrawClaim_cool _ _),
      ← hrest, loopOf_modLoop_self]
  · have hkept : claimOf (withdrawClaim (fanClaim l) (withdrawClaim (pumpClaim l) rest)) (pumpClaim l) =
        claimOf (withdrawClaim (pumpClaim l) rest) (pumpClaim l) :=
      claimOf_withdrawClaim_ne (fanClaim_ne_pumpClaim l l).symm _
    exact (congrArg Claim.submitted hkept).trans (submitted_withdrawClaim _ rest)

/-- The requirement is what R64 says, and no judgement stays owed. -/
theorem judgeLoop_requirement {l : Liquid} {s : State} (hj : (loopOf s l).judge = true) :
    ((loopOf (judgeLoop l s) l).required = true ↔ Required s l) ∧ (loopOf (judgeLoop l s) l).judge = false := by
  have hrec := loopOf_judged l s
  have hneed : (loopOf (judgeLoop l s) l).required = requiredNow s l ∧ (loopOf (judgeLoop l s) l).judge = false := by
    by_cases hf : (loopOf s l).state = .failed
    · rw [judgeLoop_of_loopFailed hj hf, hrec]; exact ⟨rfl, rfl⟩
    · by_cases hr : Required s l
      · rw [judgeLoop_of_required hj hf hr]
        split
        · rw [loopOf_cool (submitClaim_cool _ _ _), hrec]; exact ⟨rfl, rfl⟩
        · rw [hrec]; exact ⟨rfl, rfl⟩
      · rw [judgeLoop_of_not_required hj hf hr]
        split
        · obtain ⟨hoff, -⟩ := loopOff_leaves l (judged l s)
          rw [hoff, hrec]; exact ⟨rfl, rfl⟩
        · rw [hrec]; exact ⟨rfl, rfl⟩
  exact ⟨by rw [hneed.1, requiredNow_iff], hneed.2⟩

/-- An Off loop that is required stays Off with its pump claim submitted, newly at 15 kW (R65). -/
theorem judgeLoop_claims_pump {l : Liquid} {s : State} (hj : (loopOf s l).judge = true) (hoff : (loopOf s l).state = .off)
    (hr : Required s l) :
    (loopOf (judgeLoop l s) l).state = .off ∧ submitted (judgeLoop l s) (pumpClaim l) = true ∧
    (submitted s (pumpClaim l) = false → (claimOf (judgeLoop l s) (pumpClaim l)).ceiling = 15) := by
  rw [judgeLoop_of_required hj (by rw [hoff]; decide) hr]
  by_cases hsub : submitted s (pumpClaim l) = false
  · rw [if_pos ⟨hoff, hsub⟩, loopOf_cool (submitClaim_cool _ _ _), loopOf_judged]
    exact ⟨hoff, submitted_submitClaim _ _ _, fun _ => ceiling_submitClaim _ _ _⟩
  · rw [if_neg (fun h => hsub h.2), loopOf_judged]
    exact ⟨hoff, Bool.eq_true_of_not_eq_false hsub, fun h => absurd h hsub⟩

/-! ## The pump grant handed over (R66, R70) -/

theorem handPump_of_rise {before after : Claims} {l : Liquid} (hb : (before.get (pumpClaim l)).grant = 0)
    (ha : 0 < (after.get (pumpClaim l)).grant) (s : State) : handPump before after l s = startLoop l s :=
  if_pos (by simp [roseFromZero, hb, ha])

theorem handPump_of_fall {before after : Claims} {l : Liquid} (hb : 0 < (before.get (pumpClaim l)).grant)
    (ha : (after.get (pumpClaim l)).grant = 0) (hs : (after.get (pumpClaim l)).submitted = true) (s : State) :
    handPump before after l s = pumpGrantLost l s := by
  rw [handPump, if_neg (by simp [roseFromZero, ha]), if_pos (by simp [fellToZero, hb, ha, hs])]

/-- An Off loop without flow starts on its duty pump. -/
theorem startLoop_of_off {l : Liquid} {s : State} (h : (loopOf s l).state = .off) (hflow : (loopOf s l).flow = false) :
    startLoop l s = modLoop l (fun r => { r with
      state := .starting, pump := some (dutyOf s l), role := some .duty
      proof := some ⟨s.clock, 15000⟩, drop := none }) s := by
  rw [startLoop, if_pos h]
  simp only [beginTrial, hflow, Bool.false_eq_true, if_false, startTimer]

/-- A loop that loses its pump grant goes to Off, its pump claim kept (R70). -/
theorem pumpGrantLost_leaves {l : Liquid} {s : State} (h : (loopOf s l).state = .starting ∨ loopFlowing s l = true) :
    loopOf (pumpGrantLost l s) l = (loopOf s l).resting .off ∧
    submitted (pumpGrantLost l s) (pumpClaim l) = submitted s (pumpClaim l) ∧
    submitted (pumpGrantLost l s) (fanClaim l) = false ∧ isActive (pumpGrantLost l s) .loopFlow l.num = false := by
  rw [pumpGrantLost, if_pos h]
  refine ⟨?_, ?_, submitted_withdrawClaim (fanClaim l) _, isActive_clearFault _ _ _⟩
  · rw [loopOf_cool (clearFault_cool _ _ _), loopOf_cool (withdrawClaim_cool _ _), loopOf_modLoop_self]
  · have hkept : claimOf (withdrawClaim (fanClaim l) (modLoop l (fun r => r.resting .off) s)) (pumpClaim l) =
        claimOf s (pumpClaim l) := claimOf_withdrawClaim_ne (fanClaim_ne_pumpClaim l l).symm _
    exact congrArg Claim.submitted hkept

/-! ## The statement -/

/-- The flow switch recorded, and nothing else but what the reactions write. -/
theorem flowSwitch_recorded {s : State} (hp : s.powered = true) (l : Liquid) (flow : Bool) :
    ∃ t, exec (.flowSwitchChange l flow) s = .next t ∧ (loopOf t l).flow = flow ∧
      Beyond (modLoop l (fun r => { r with flow := flow }) s) t := by
  have hbeyond : Beyond (modLoop l (fun r => { r with flow := flow }) s) (react (flowChange l flow) s) := by
    refine (outside_react hp).trans ((outside_of_beside (beside_flowChange l flow _)).trans ?_)
    cases l <;> rfl
  have hflow := outside_field (f := fun u => (loopOf u l).flow) (fun u => by cases l <;> rfl) hbeyond
  exact ⟨_, exec_flowSwitchChange hp l flow, hflow.trans (by rw [loopOf_modLoop_self]), hbeyond⟩

/-- Settles O36: the timers by the pump they fail, the flow by `proofSuccess_leaves`, the judgement by the requirement, and the
hand-over by the grant's rise or fall. -/
theorem flowAndPumpFailures : Obligations.FlowAndPumpFailures := by
  unfold Obligations.FlowAndPumpFailures
  rintro s l hp ⟨hl, -⟩
  have hbegin := loopOf_beginEvent s l
  refine ⟨flowSwitch_recorded hp l, fun hst hproof hflow hrole => ?_, fun hst hproof hrole => ?_,
    fun hrun hdrop hflow hrole => ?_, fun hrun hdrop hrole => ?_, fun hst hproof => ?_, fun hj => ?_,
    fun before after hb ha hoff hflow => ?_, fun before after hb ha hsub hrun => ?_⟩
  · have hfails : proofTimeout l (beginEvent s) = standbyTrial l (beginEvent s) :=
      (proofTimeout_of_trial (by rwa [hbegin]) (by rwa [hbegin])).trans (pumpFails_duty (by rwa [hbegin]))
    obtain ⟨hstate, hrole', hpump, hproof', hactive⟩ := standbyTrial_leaves (l := l) (s := beginEvent s) hl (by rwa [hbegin])
    refine ⟨standbyTrial l (beginEvent s), ?_, hstate, hrole', ?_, hproof', hactive⟩
    · rw [← hfails]; exact congrArg Host.Outcome.next (react_eq hp _)
    · rw [hpump, hbegin]; rfl
  · have hfails : proofTimeout l (beginEvent s) = loopFail l (beginEvent s) :=
      (proofTimeout_of_trial (by rwa [hbegin]) (by rwa [hbegin])).trans (pumpFails_standby (by rwa [hbegin]))
    exact ⟨_, rfl, react_loopFailed hp hl hfails⟩
  · have hfails : dropTimeout l (beginEvent s) = standbyTrial l (beginEvent s) :=
      (dropTimeout_of_running (by rwa [loopFlowing, hbegin]) (by rwa [hbegin])).trans (pumpFails_duty (by rwa [hbegin]))
    obtain ⟨hstate, hrole', -, hproof', hactive⟩ := standbyTrial_leaves (l := l) (s := beginEvent s) hl (by rwa [hbegin])
    refine ⟨standbyTrial l (beginEvent s), ?_, hstate, hrole', hproof', hactive⟩
    rw [← hfails]; exact congrArg Host.Outcome.next (react_eq hp _)
  · have hfails : dropTimeout l (beginEvent s) = loopFail l (beginEvent s) :=
      (dropTimeout_of_running (by rwa [loopFlowing, hbegin]) (by rwa [hbegin])).trans (pumpFails_standby (by rwa [hbegin]))
    exact ⟨_, rfl, react_loopFailed hp hl hfails⟩
  · intro r sound
    have hr : r = proofSuccess l (modLoop l (fun r => { r with flow := true }) (beginEvent s)) :=
      flowChange_of_trial (by rwa [hbegin]) (by rwa [hbegin])
    obtain ⟨hstate, hproof', hnew, hold⟩ :=
      proofSuccess_leaves l (modLoop l (fun r => { r with flow := true }) (beginEvent s))
    rw [loopOf_modLoop_self, hbegin] at hstate hold
    have hforward : forwardStage (modLoop l (fun r => { r with flow := true }) (beginEvent s)) l = forwardStage s l := by
      cases l <;> rfl
    rw [hforward] at hnew
    rw [hr]
    refine ⟨?_, hstate, hproof', hnew, hold⟩
    rw [exec_flowSwitchChange hp, react_eq hp]
    exact congrArg (fun u => Host.Outcome.next (finish (settle u))) hr
  · refine ⟨judgeLoop_requirement hj |>.1, judgeLoop_requirement hj |>.2, judgeLoop_claims_pump hj, fun hmay hf hr => ?_,
      fun hon hf hr => ?_, fun hf => ?_⟩
    · rw [judgeLoop_of_not_required hj hf hr, if_pos hmay.symm]
      obtain ⟨hrec, hrest⟩ := loopOff_leaves l (judged l s)
      have hneed : requiredNow s l = false := Bool.eq_false_iff.mpr fun h => hr ((requiredNow_iff s l).mp h)
      refine ⟨?_, hrest⟩
      rw [hrec, loopOf_judged, hneed]
      rfl
    · rw [judgeLoop_of_required hj hf hr, if_neg (fun h => hon h.1), loopOf_judged, (requiredNow_iff s l).mpr hr]
      exact ⟨rfl, rfl, rfl⟩
    · rw [judgeLoop_of_loopFailed hj hf, loopOf_judged]
      exact ⟨hf, rfl, rfl⟩
  · intro r
    have hr : r = modLoop l _ s := (handPump_of_rise hb ha s).trans (startLoop_of_off hoff hflow)
    rw [hr, loopOf_modLoop_self]
    exact ⟨rfl, rfl, rfl, rfl, rfl, rfl, rfl⟩
  · intro r
    have hr : r = pumpGrantLost l s := handPump_of_fall hb ha hsub s
    obtain ⟨hrec, hrest⟩ := pumpGrantLost_leaves hrun
    rw [hr, hrec]
    exact ⟨rfl, rfl, rfl, rfl, rfl, rfl, hrest⟩

end Sys2Proof.Machine

/-! SUPPORT. The run-on timers, the fan channels' feedback and mismatch, and the failed channels returned (R72, R75, R78). -/

namespace Sys2Proof.Machine

/-! ## The run-on timer (R72) -/

theorem runOnAfter_demand (clock demand selection : Nat) :
    (runOnAfter clock demand selection).1 = if selection < demand then demand - 1 else demand := by
  unfold runOnAfter
  split <;> rfl

/-- A liquid loop's stage falls by one where the demand lies above the selection. -/
theorem runOnExpires_leaves {l : Liquid} {s : State} (h : (loopOf s l).runOn.isSome = true) :
    (loopOf (runOnExpires l s) l).demand =
      (if (loopOf s l).selection < (loopOf s l).demand then (loopOf s l).demand - 1 else (loopOf s l).demand) ∧
    (loopOf (runOnExpires l s) l).selection = (loopOf s l).selection := by
  rw [runOnExpires, if_pos h, oweJudgement, loopOf_modLoop_self, loopOf_cool (followFanClaim_cool l _),
    loopOf_modLoop_self]
  exact ⟨runOnAfter_demand _ _ _, rfl⟩

/-- L3's stage falls by one where the demand lies above the selection, and L3 goes to Off at a demand of 0 (R72, R76). -/
theorem runOnExpires3_leaves {s : State} (h : s.cool.l3.runOn.isSome = true) :
    (runOnExpires3 s).cool.l3.demand =
      (if s.cool.l3.selection < s.cool.l3.demand then s.cool.l3.demand - 1 else s.cool.l3.demand) ∧
    ((runOnExpires3 s).cool.l3.demand = 0 → (runOnExpires3 s).cool.l3.state = .off) := by
  simp only [runOnExpires3, h, if_true]
  generalize hstep : modAir _ s = t
  have hdemand : t.cool.l3.demand =
      if s.cool.l3.selection < s.cool.l3.demand then s.cool.l3.demand - 1 else s.cool.l3.demand := by
    rw [← hstep]; exact runOnAfter_demand s.clock _ _
  split
  · exact ⟨hdemand, fun _ => rfl⟩
  · next hpos =>
    rw [followFanClaim3_cool]
    exact ⟨hdemand, fun hzero => absurd hzero hpos⟩

theorem runOnExpires3_frame (s : State) :
    (runOnExpires3 s).grid = s.grid ∧ (runOnExpires3 s).therm = s.therm ∧ (runOnExpires3 s).store = s.store := by
  simp only [runOnExpires3, followFanClaim3]
  repeat' split
  all_goals exact ⟨rfl, rfl, rfl⟩

theorem react_air {s : State} (hp : s.powered = true) (f : State → State) :
    (react f s).cool.l3.state = (f (beginEvent s)).cool.l3.state ∧
    (react f s).cool.l3.demand = (f (beginEvent s)).cool.l3.demand := by
  rw [react_eq hp, finish_cool]
  exact settle_air _

/-! ## A fan channel (R75) -/

/-- A channel whose mismatch time runs is one of the loop's channels. -/
theorem lt_length_of_mismatch {fans : List FanChannel} {i : Nat}
    (h : (fans.getD i .atStart).mismatch.isSome = true) : i < fans.length := by
  by_contra hi
  rw [List.getD_eq_default _ _ (Nat.le_of_not_lt hi)] at h
  exact absurd h (by decide)

theorem fanAt_modFan {f : FanId} {s : State} (h : (fanAt s f).mismatch.isSome = true) (g : FanChannel → FanChannel) :
    fanAt (modFan f g s) f = g (fanAt s f) := by
  cases f <;> exact getD_updateAt_self (lt_length_of_mismatch h) g .atStart

theorem fanAt_cool {s t : State} (h : t.cool = s.cool) (f : FanId) : fanAt t f = fanAt s f := by
  cases f <;> simp only [fanAt, h]

theorem fanAt_modLoop (f : FanId) (l : Liquid) {g : LiquidLoop → LiquidLoop} (hg : ∀ r, (g r).fans = r.fans) (s : State) :
    fanAt (modLoop l g s) f = fanAt s f := by
  cases f <;> cases l <;> simp only [fanAt, modLoop, hg]

theorem fanAt_degradeLoop (f : FanId) (l : Liquid) (s : State) : fanAt (degradeLoop l s) f = fanAt s f :=
  (fanAt_cool (followFanClaim_cool l _) f).trans (fanAt_modLoop f l (by intro _; rfl) s)

/-- The mismatch of a channel marks it failed. -/
theorem fanFails_leaves {f : FanId} {s : State} (h : (fanAt s f).mismatch.isSome = true) :
    (fanAt (fanFails f s) f).failed = true := by
  have hmarked := congrArg FanChannel.failed (fanAt_modFan h fun c => { c with failed := true, mismatch := none })
  simp only [fanFails, h, if_true]
  cases f with
  | l1 c => exact (congrArg FanChannel.failed (fanAt_degradeLoop (.l1 c) .l1 _)).trans hmarked
  | l2 c => exact (congrArg FanChannel.failed (fanAt_degradeLoop (.l2 c) .l2 _)).trans hmarked
  | l3 c => exact (congrArg FanChannel.failed (fanAt_cool (followFanClaim3_cool _) (.l3 c))).trans hmarked

theorem fanFails_frame (f : FanId) (s : State) : (fanFails f s).grid = s.grid ∧ (fanFails f s).therm = s.therm := by
  have hliquid (l : Liquid) (t : State) : (degradeLoop l t).grid = t.grid ∧ (degradeLoop l t).therm = t.therm :=
    have hstep := (loopStep_modLoop l (fun r => { r with
      state := if r.state = .running then .degraded else r.state }) t).trans (loopStep_followFanClaim l _)
    ⟨hstep.field (f := State.grid) fun _ => rfl, hstep.field (f := State.therm) fun _ => rfl⟩
  simp only [fanFails]
  split
  · cases f with
    | l1 c => exact hliquid .l1 _
    | l2 c => exact hliquid .l2 _
    | l3 c =>
      simp only [followFanClaim3]
      split <;> exact ⟨rfl, rfl⟩
  · exact ⟨rfl, rfl⟩

/-- The mark of a channel is none of the reactions' own. -/
theorem fanAt_failed_outside (f : FanId) (s : State) : (fanAt (outside s) f).failed = (fanAt s f).failed := by
  have hget (fans : List FanChannel) (i : Nat) :
      ((fans.map FanChannel.outside).getD i .atStart).failed = (fans.getD i .atStart).failed :=
    (congrArg FanChannel.failed (List.getD_map fans FanChannel.atStart FanChannel.outside (n := i)) :)
  cases f <;> exact hget _ _

/-- No channel that is marked failed is commanded to run. -/
theorem FansWithin.getD_stopped {stage : Nat} {fans : List FanChannel} (h : FansWithin stage fans) {i : Nat}
    (hf : (fans.getD i .atStart).failed = true) : (fans.getD i .atStart).commanded = false := by
  obtain ⟨-, hsound⟩ := h
  by_contra hrun
  have hi : i < fans.length := by
    by_contra hi
    rw [List.getD_eq_default _ _ (Nat.le_of_not_lt hi)] at hf
    exact absurd hf (by decide)
  have hmem : fans.getD i .atStart ∈ fans := by
    rw [List.getD_eq_getElem _ _ hi]; exact List.getElem_mem hi
  have hsafe := hsound _ hmem (Bool.eq_true_of_not_eq_false hrun)
  exact Bool.noConfusion (hf.symm.trans hsafe)

theorem fanAt_stopped {f : FanId} {s : State} (h : FansSafe s) (hf : (fanAt s f).failed = true) :
    (fanAt s f).commanded = false := by
  obtain ⟨h1, h2, h3⟩ := h
  cases f with
  | l1 c => exact FansWithin.getD_stopped h1 hf
  | l2 c => exact FansWithin.getD_stopped h2 hf
  | l3 c => exact FansWithin.getD_stopped h3 hf

theorem powered_modFan (f : FanId) (g : FanChannel → FanChannel) (s : State) :
    (modFan f g s).powered = s.powered := congrArg (·.2.1) (base_modFan f g s)

/-- A mismatch at the end of its event: the channel is marked, and the outputs have stopped it. -/
theorem fanMismatch_event {s : State} (hp : s.powered = true) {f : FanId} (h : (fanAt s f).mismatch.isSome = true) :
    (fanAt (react (fanFails f) s) f).failed = true ∧ (fanAt (react (fanFails f) s) f).commanded = false := by
  have hfailed : (fanAt (react (fanFails f) s) f).failed = true :=
    (react_field (g := fun u => (fanAt u f).failed) (fanAt_failed_outside f) hp _).trans
      (fanFails_leaves (s := beginEvent s) (by rwa [fanAt_cool (beginEvent_cool s)]))
  refine ⟨hfailed, fanAt_stopped ?_ hfailed⟩
  rw [react_eq hp]
  exact fansSafe_finish (fansSafe_settle _)

/-- Settles O38: the expiries by what they leave of their loops, the mismatch by its mark and the outputs. -/
theorem fansAndRunOn : Obligations.FansAndRunOn := by
  unfold Obligations.FansAndRunOn
  intro s hp
  refine ⟨fun l h => ⟨runOnExpires l (beginEvent s), ?_, ?_⟩, fun h => ⟨_, rfl, ?_⟩, fun f running => ⟨_, rfl, ?_⟩,
    fun f h => ⟨_, rfl, ?_⟩⟩
  · cases l <;> exact congrArg Host.Outcome.next (react_eq hp _)
  · have hleaves := runOnExpires_leaves (l := l) (s := beginEvent s) (by rwa [loopOf_beginEvent])
    rwa [loopOf_beginEvent] at hleaves
  · obtain ⟨hdemand, hoff⟩ := runOnExpires3_leaves (s := beginEvent s) h
    obtain ⟨hgrid, htherm, hstore⟩ := runOnExpires3_frame (beginEvent s)
    obtain ⟨hstate', hdemand'⟩ := react_air hp (runOnOf .l3)
    refine ⟨hdemand'.trans hdemand, fun hzero => hstate'.trans (hoff (hdemand'.symm.trans hzero)),
      (react_field (g := State.grid) (fun _ => rfl) hp _).trans hgrid,
      (react_field (g := State.therm) (fun _ => rfl) hp _).trans htherm,
      (react_field (g := State.store) (fun _ => rfl) hp _).trans hstore⟩
  · exact outside_react (f := id) ((powered_modFan f _ s).trans hp)
  · obtain ⟨hfailed, hstopped⟩ := fanMismatch_event hp h
    obtain ⟨hgrid, htherm⟩ := fanFails_frame f (beginEvent s)
    have hbase := base_fanFails f (beginEvent s)
    simp only [base, Prod.mk.injEq] at hbase
    obtain ⟨-, -, -, -, -, hstore, hretained⟩ := hbase
    exact ⟨hfailed, hstopped, (react_field (g := State.grid) (fun _ => rfl) hp _).trans hgrid,
      (react_field (g := State.therm) (fun _ => rfl) hp _).trans htherm,
      (react_field (g := State.store) (fun _ => rfl) hp _).trans hstore,
      (react_field (g := State.retained) (fun _ => rfl) hp _).trans hretained⟩

end Sys2Proof.Machine

/-! SUPPORT. SetCooling: the body's fields, the loop settings it writes, and the channels it returns (R78, R168). -/

namespace Sys2Proof.Machine

/-! ## The body (R168) -/

/-- A SetCooling body for a liquid loop. -/
def setCoolingBody (l : Liquid) (duty : Byte) (setpoint : BitVec 16) (ret : Byte) : List Byte :=
  u8 l.num ++ [duty] ++ pair setpoint ++ [ret]

theorem setCoolingBody_fields (l : Liquid) (duty : Byte) (setpoint : BitVec 16) (ret : Byte) :
    natAt (setCoolingBody l duty setpoint ret) 0 = l.num ∧ natAt (setCoolingBody l duty setpoint ret) 1 = duty.toNat ∧
    wordAt (setCoolingBody l duty setpoint ret) 2 = setpoint.toNat ∧ byteAt (setCoolingBody l duty setpoint ret) 4 = ret :=
  ⟨by cases l <;> rfl, rfl, congrArg BitVec.toNat (append_halves setpoint), rfl⟩

/-- The loop of SetCooling that a liquid loop is. -/
def loopIdOf : Liquid → LoopId
  | .l1 => .l1
  | .l2 => .l2

/-- The duty pump a body names. -/
def dutyNamed (duty : Byte) : Pump := if duty.toNat = 0 then .a else .b

/-- The working settings with a loop's duty pump and its setpoint, clamped (R78). -/
def writeLoop (l : Liquid) (duty : Byte) (setpoint : BitVec 16) (s : State) : State :=
  modWorking (writeLoopSettings l (dutyNamed duty) (max 300 (min setpoint.toNat 550))) s

/-- The status of a setpoint taken (R78). -/
def setpointStatus (setpoint : BitVec 16) : Status :=
  if 300 ≤ setpoint.toNat ∧ setpoint.toNat ≤ 550 then .ok else .okClamped

theorem clampedIf_setpoint (setpoint : BitVec 16) :
    clampedIf (clampNat setpoint.toNat 300 550 ≠ setpoint.toNat) = setpointStatus setpoint := by
  have hin : clampNat setpoint.toNat 300 550 = setpoint.toNat ↔ 300 ≤ setpoint.toNat ∧ setpoint.toNat ≤ 550 := by
    unfold clampNat; omega
  by_cases h : 300 ≤ setpoint.toNat ∧ setpoint.toNat ≤ 550
  · simp [clampedIf, setpointStatus, h, hin.mpr h]
  · simp [clampedIf, setpointStatus, h, mt hin.mp h]

/-! ## The answer (R78) -/

/-- SetCooling for a liquid loop, by its return flag. -/
theorem serve_setCooling {s : State} (h : notRemote s = false) (hs : storing s = false) {duty : Byte}
    (hduty : duty.toNat ≤ 1) (l : Liquid) (setpoint : BitVec 16) (ret : Bool) :
    serve .setCooling (setCoolingBody l duty setpoint (BitVec.ofNat 8 (bit ret))) s =
      (setpointStatus setpoint,
        if ret then settle (returnFans (loopIdOf l) (writeLoop l duty setpoint s)) else writeLoop l duty setpoint s) := by
  obtain ⟨hloop, hd, hset, hret⟩ := setCoolingBody_fields l duty setpoint (BitVec.ofNat 8 (bit ret))
  have hliquid : serve .setCooling (setCoolingBody l duty setpoint (BitVec.ofNat 8 (bit ret))) s =
      serveLiquidCooling l (loopIdOf l) (setCoolingBody l duty setpoint (BitVec.ofNat 8 (bit ret))) s := by
    simp only [serve, serveSetCooling, h, hloop, Bool.false_eq_true, if_false]
    cases l <;> rfl
  have hflag : flagOf (BitVec.ofNat 8 (bit ret)) = ret := by cases ret <;> rfl
  have hin : ¬duty.toNat > 1 := Nat.not_lt.mpr hduty
  rw [hliquid]
  simp only [serveLiquidCooling, hd, hset, hret, hin, hs, hflag, Bool.false_eq_true, if_false]
  have hclamp : clampNat setpoint.toNat 300 550 = max 300 (min setpoint.toNat 550) := rfl
  cases ret <;> simp only [acceptClamped, clampedIf_setpoint, ← hclamp, writeLoop, dutyNamed, if_true,
    Bool.false_eq_true, if_false]

/-- SetCooling for L3 with the return flag (log 40). -/
theorem serve_returnAir {s : State} (h : notRemote s = false) (hs : storing s = false) {body : List Byte}
    (hloop : natAt body 0 = 3) (hduty : natAt body 1 = 0) (hset : wordAt body 2 = 0) (hret : flagOf (byteAt body 4) = true) :
    serve .setCooling body s = (.ok, settle (returnFans .l3 s)) := by
  simp only [serve, serveSetCooling, h, hs, hloop, hduty, hset, hret, accept, ne_eq, not_true_eq_false, or_self,
    Bool.false_eq_true, if_false, if_true]

theorem replyBody_setCooling (body : List Byte) (st : Status) (s t : State) : replyBody .setCooling body st s t = [] := by
  cases st <;> rfl

/-- A SetCooling at a ready port: its answer, and an event that is quiet but for its block's effect. -/
theorem setCooling_answered {s : State} {tag : Byte} (h : HostReady s) (ht : tag ≠ 0) {body : List Byte}
    (hb : Kind.setCooling.fits body = true) {status : Status} {t : State}
    (ha : serve .setCooling body (served s) = (status, t)) :
    ∃ u, exec (.setCooling tag body) s = .next u ∧ Answered s u 0xB0 tag status [] ∧ Quiet (replied t) u := by
  obtain ⟨hans, hquiet⟩ := request_answered (k := .setCooling) (f := ⟨Kind.setCooling.code, tag, body⟩) h.1 rfl hb ht
    (by decide) ha
  rw [replyBody_setCooling] at hans
  exact ⟨_, rfl, hans, hquiet⟩

/-! ## The channels returned (R75) -/

theorem returnFans_liquid (l : Liquid) (s : State) :
    loopOf (returnFans (loopIdOf l) s) l = { loopOf s l with
      fans := unfail (loopOf s l).fans
      state := if (loopOf s l).state = .degraded ∧ (loopOf s l).role = some .duty then .running else (loopOf s l).state } := by
  cases l <;> simp only [returnFans, loopIdOf, loopOf_cool (followFanClaim_cool _ _)] <;> rfl

theorem unfail_unfailed (fans : List FanChannel) : ∀ c ∈ unfail fans, c.failed = false := by
  intro c hc
  obtain ⟨-, -, rfl⟩ := List.mem_map.mp hc
  rfl

/-- The marks of the channels are none of the reactions' own. -/
theorem unfailed_of_outside {fans fans' : List FanChannel}
    (h : fans'.map FanChannel.outside = fans.map FanChannel.outside) (hf : ∀ c ∈ fans, c.failed = false) :
    ∀ c ∈ fans', c.failed = false := by
  intro c hc
  have hmem : c.outside ∈ fans.map FanChannel.outside := h ▸ List.mem_map_of_mem hc
  obtain ⟨d, hd, heq⟩ := List.mem_map.mp hmem
  exact (congrArg FanChannel.failed heq).symm.trans (hf d hd)

/-- What a request answered over `v`, the reactions to `t`, leaves of the channels, and of what neither a return of channels nor a
reaction writes. -/
theorem quiet_settled {t v u : State} (hsettled : outside v = outside t) (h : Quiet (replied v) u) :
    (∀ l, (∀ c ∈ (loopOf t l).fans, c.failed = false) → ∀ c ∈ (loopOf u l).fans, c.failed = false) ∧
    ((∀ c ∈ t.cool.l3.fans, c.failed = false) → ∀ c ∈ u.cool.l3.fans, c.failed = false) ∧
    u.store = t.store ∧ u.grid = t.grid ∧ u.therm = t.therm ∧ u.retained = t.retained := by
  obtain ⟨hout, -, hcool, -⟩ := h
  have hreply : (replied v).cool = v.cool := by rw [replied_eq]
  have hfield {β : Type} {f : State → β} (hf : ∀ s, f (outside s) = f s)
      (hr : ∀ (s : State) link faults, f { s with link := link, faults := faults } = f s) : f u = f t := by
    rw [outside_field hf hout, replied_eq, hr, outside_field hf hsettled]
  refine ⟨fun l => ?_, ?_, hfield (f := State.store) (fun _ => rfl) (fun _ _ _ => rfl),
    hfield (f := State.grid) (fun _ => rfl) (fun _ _ _ => rfl), hfield (f := State.therm) (fun _ => rfl) (fun _ _ _ => rfl),
    hfield (f := State.retained) (fun _ => rfl) (fun _ _ _ => rfl)⟩
  · rw [loopOf_cool (hcool.trans hreply)]
    refine unfailed_of_outside ?_
    cases l
    · exact congrArg (fun w : State => w.cool.l1.fans) hsettled
    · exact congrArg (fun w : State => w.cool.l2.fans) hsettled
  · rw [hcool.trans hreply]
    exact unfailed_of_outside (congrArg (fun w : State => w.cool.l3.fans) hsettled)

theorem returnFans_frame (l : LoopId) (s : State) :
    (returnFans l s).store = s.store ∧ (returnFans l s).grid = s.grid ∧ (returnFans l s).therm = s.therm ∧
    (returnFans l s).retained = s.retained := by
  simp only [returnFans, followFanClaim, followFanClaim3]
  cases l <;> (simp only; repeat' split) <;> exact ⟨rfl, rfl, rfl, rfl⟩

theorem served_frame (s : State) :
    (served s).store = s.store ∧ (served s).grid = s.grid ∧ (served s).therm = s.therm ∧ (served s).retained = s.retained := by
  unfold served supervisionReload
  split <;> exact ⟨rfl, rfl, rfl, rfl⟩

/-- Settles O18: the answer by the return flag, the channels by the block's effect, which no reaction marks. -/
theorem setCoolingWritesTheLoopSettings : Obligations.SetCoolingWritesTheLoopSettings := by
  unfold Obligations.SetCoolingWritesTheLoopSettings
  intro s tag duty setpoint h ht hs
  obtain ⟨hstore, hgrid, htherm, hretained⟩ := served_frame s
  have hremote := notRemote_served h
  have hstoring : storing (served s) = false := by rw [storing, hstore, hs]; rfl
  refine ⟨fun hduty l => ⟨?_, ?_⟩, ?_⟩
  · exact setCooling_answered h ht (by rfl) (serve_setCooling hremote hstoring hduty l setpoint false)
  · obtain ⟨u, hexec, -, hquiet⟩ :=
      setCooling_answered h ht (by rfl) (serve_setCooling hremote hstoring hduty l setpoint true)
    obtain ⟨hfans, -, hstore', hgrid', htherm', hretained'⟩ := quiet_settled (outside_settle _) hquiet
    obtain ⟨hstore'', hgrid'', htherm'', hretained''⟩ := returnFans_frame (loopIdOf l) (writeLoop l duty setpoint (served s))
    refine ⟨u, hexec, ?_, hfans l ?_, hgrid'.trans (hgrid''.trans hgrid), htherm'.trans (htherm''.trans htherm),
      hretained'.trans (hretained''.trans hretained)⟩
    · rw [hstore', hstore'']
      simp only [writeLoop, modWorking, hstore]
      rfl
    · rw [returnFans_liquid]
      exact unfail_unfailed _
  · obtain ⟨u, hexec, hans, hquiet⟩ := setCooling_answered h ht (body := [3, 0, 0, 0, 1]) (by rfl)
      (serve_returnAir hremote hstoring rfl rfl rfl rfl)
    obtain ⟨-, hfans, hstore', hgrid', htherm', -⟩ := quiet_settled (outside_settle _) hquiet
    obtain ⟨hstore'', hgrid'', htherm'', -⟩ := returnFans_frame .l3 (served s)
    refine ⟨u, hexec, hans, hfans ?_, hstore'.trans (hstore''.trans hstore), hgrid'.trans (hgrid''.trans hgrid),
      htherm'.trans (htherm''.trans htherm)⟩
    simp only [returnFans, followFanClaim3_cool]
    exact unfail_unfailed _

end Sys2Proof.Machine

/-! SUPPORT. The evaluation of a liquid loop: the selection, the demand that follows it, and a Failed loop released (R69, R71, R72, R73). -/

namespace Sys2Proof.Machine

/-! ## An evaluation is an operation on its loop -/

theorem loopStep_testJoin (k : StringId) (s : State) : LoopStep k.loop s (testJoin k s) := by
  unfold testJoin
  split
  · exact (loopStep_setQueue k.loop _ s).trans (loopStep_modLoop k.loop _ _)
  · exact .refl _ s

theorem loopStep_testJoins (l : Liquid) (s : State) : LoopStep l s (testJoins l.strings s) := by
  have hrun (ks : List StringId) (hks : ∀ k ∈ ks, k.loop = l) (u : State) : LoopStep l u (forEach ks testJoin u) := by
    induction ks generalizing u with
    | nil => exact .refl l u
    | cons k ks ih =>
      obtain ⟨hk, hrest⟩ := List.forall_mem_cons.mp hks
      exact (hk ▸ loopStep_testJoin k u).trans (ih hrest _)
  exact hrun l.strings (by cases l <;> decide) s

theorem loopStep_evaluateFailed (l : Liquid) (s : State) : LoopStep l s (evaluateFailed l s) := by
  have hclear : LoopStep l s (clearFault .loopFailed l.num s) := loopStep_clearFault (.inl rfl) s
  simp only [evaluateFailed]
  split
  · exact (((hclear.trans (loopStep_modLoop l _ _)).trans (loopStep_clearFault (.inr rfl) _)).trans
      (loopStep_modLoop l _ _)).trans (loopStep_testJoins l _)
  · exact hclear

/-! ## The outlet (R62) -/

/-- An outlet reading, where it is a good one. -/
def outletOf (x : Int) : Option Int := if -400 ≤ x ∧ x ≤ 1500 then some x else none

/-- The state with an outlet reading of a liquid loop. -/
def readOutlet (l : Liquid) (x : Int) (s : State) : State := modLoop l (fun r => { r with outlet := outletOf x }) s

theorem loopOf_readOutlet (l : Liquid) (x : Int) (s : State) :
    loopOf (readOutlet l x s) l = { loopOf s l with outlet := outletOf x } := loopOf_modLoop_self l _ s

theorem evaluateLoop_eq (l : Liquid) (x : Int) (s : State) :
    evaluateLoop l x s =
      if (loopOf s l).state = .failed then evaluateFailed l (readOutlet l x s)
      else if submitted s (fanClaim l) then followSelection l (selectStage s l) (readOutlet l x s)
      else readOutlet l x s := by
  have hvalid : (if validTemp x then some x else none) = outletOf x := by simp [validTemp, outletOf]
  have hselect : selectStage (readOutlet l x s) l = selectStage s l := by cases l <;> rfl
  have hstate : (loopOf (readOutlet l x s) l).state = (loopOf s l).state := by rw [loopOf_readOutlet]
  have hsub : submitted (readOutlet l x s) (fanClaim l) = submitted s (fanClaim l) := rfl
  simp only [evaluateLoop, hvalid]
  rw [← readOutlet, hstate, hsub, hselect]

theorem loopStep_evaluateLoop (l : Liquid) (x : Int) (s : State) : LoopStep l s (evaluateLoop l x s) := by
  have hread : LoopStep l s (readOutlet l x s) := loopStep_modLoop l _ s
  rw [evaluateLoop_eq]
  repeat' split
  · exact hread.trans (loopStep_evaluateFailed l _)
  · exact (hread.trans (loopStep_modLoop l _ _)).trans (loopStep_followFanClaim l _)
  · exact hread

/-! ## The selection and what follows it (R71, R72) -/

theorem selectStage_selects (s : State) (l : Liquid) : Selects s l (selectStage s l) := by
  have hcold : (!(l.strings.any fun k => (strOf s k).state.needsLoop) && decide ((inletOf s l).inUse ≤ hotBar s)) = true ↔
      (∀ k ∈ l.strings, ¬HoldsLoop s k) ∧ ¬hotInlet s l := by
    rw [← hot_iff]
    simp [← needsLoop_iff]
  have hforward : feedForward (heatOf s l) = forwardStage s l := rfl
  simp only [Selects, selectStage, hforward, ← hcold]
  refine ⟨fun h => if_pos h, fun h hhigh => ?_, fun h hlow => ?_, fun h hhigh hlow => ?_⟩
  · rw [if_neg h, if_pos hhigh]
  · rw [if_neg h, if_neg (by omega), if_pos hlow]
  · rw [if_neg h, if_neg (by omega), if_neg (by omega)]

/-- The record of a liquid loop after a selection (R72). -/
def LiquidLoop.selected (fresh : Option Countdown) (n : Nat) (r : LiquidLoop) : LiquidLoop :=
  if n ≥ r.demand then { r with selection := n, demand := n, runOn := fresh } else { r with selection := n }

theorem loopSelected_fields (fresh : Option Countdown) (n : Nat) (r : LiquidLoop) :
    (r.selected fresh n).selection = n ∧ (r.selected fresh n).demand = max r.demand n ∧
    (r.selected fresh n).state = r.state ∧ (r.selected fresh n).outlet = r.outlet ∧
    (r.selected fresh n).runOn = if r.demand ≤ n then fresh else r.runOn := by
  unfold LiquidLoop.selected
  split
  · next h => exact ⟨rfl, (max_eq_right h).symm, rfl, rfl, rfl⟩
  · next h => exact ⟨rfl, (max_eq_left (Nat.le_of_not_le h)).symm, rfl, rfl, rfl⟩

theorem loopOf_followSelection (l : Liquid) (n : Nat) (s : State) :
    loopOf (followSelection l n s) l = (loopOf s l).selected (loadedRunOn s) n := by
  rw [followSelection, loopOf_cool (followFanClaim_cool l _), loopOf_modLoop_self]
  rfl

/-- A submitted fan claim follows the demand that a selection leaves. -/
theorem fansClaimed_followSelection {l : Liquid} {s : State} (h : submitted s (fanClaim l) = true) (n : Nat) :
    FansClaimed (followSelection l n s) l (loopOf (followSelection l n s) l).demand := by
  rw [followSelection, loopOf_cool (followFanClaim_cool l _)]
  exact fansClaimed_followFanClaim (.inl h)

/-! ## A Failed loop (R69) -/

theorem testJoin_faults (k : StringId) (s : State) : (testJoin k s).faults = s.faults := by
  unfold testJoin
  split
  · cases k.loop <;> rfl
  · rfl

/-- A test of R7 writes no more of a loop than that a judgement is owed. -/
theorem testJoin_record {β : Type} {g : LiquidLoop → β} (hg : ∀ r, g { r with judge := true } = g r) (k : StringId)
    (s : State) (l : Liquid) : g (loopOf (testJoin k s) l) = g (loopOf s l) := by
  unfold testJoin
  split
  · have hqueue : loopOf (setQueue (s.conv.queue ++ [k]) s) l = loopOf s l := loopOf_cool rfl l
    by_cases h : l = k.loop
    · subst h
      rw [oweJudgement, loopOf_modLoop_self, hg, hqueue]
    · rw [oweJudgement, loopOf_modLoop_ne h, hqueue]
  · rfl

/-- The state of a Failed loop whose row is Clear, released to Off. -/
def releaseLoop (l : Liquid) (s : State) : State :=
  testJoins l.strings (oweJudgement l (clearFault .loopFlow l.num (modLoop l (fun r => { r with state := .off }) s)))

theorem evaluateFailed_eq (l : Liquid) (s : State) :
    evaluateFailed l s =
      if faultState (clearFault .loopFailed l.num s) .loopFailed l.num = .clear then
        releaseLoop l (clearFault .loopFailed l.num s)
      else clearFault .loopFailed l.num s := rfl

theorem releaseLoop_record {β : Type} {g : LiquidLoop → β} (hg : ∀ r, g { r with judge := true } = g r) (l : Liquid)
    (s : State) : g (loopOf (releaseLoop l s) l) = g { loopOf s l with state := .off } := by
  refine (forEach_field (g := fun u => g (loopOf u l)) (fun k u => testJoin_record hg k u l) l.strings _).trans ?_
  rw [oweJudgement, loopOf_modLoop_self, loopOf_cool (clearFault_cool _ _ _), loopOf_modLoop_self]
  exact hg _

theorem releaseLoop_faults (l : Liquid) (s : State) : (releaseLoop l s).faults = (clearFault .loopFlow l.num s).faults := by
  refine (forEach_field (g := State.faults) testJoin_faults l.strings _).trans ?_
  cases l <;> rfl

theorem isActive_faults {s t : State} (h : t.faults = s.faults) (c : FaultCode) (unit : Nat) :
    isActive t c unit = isActive s c unit :=
  isActive_congr (congrArg (fun t : FaultTable => (t.rows.getD (rowOf c unit) .blank).state) h)

theorem releaseLoop_rows (l : Liquid) (s : State) :
    isActive (releaseLoop l s) .loopFlow l.num = false ∧
    isActive (releaseLoop l s) .loopFailed l.num = isActive s .loopFailed l.num := by
  obtain ⟨-, -, -, hrows⟩ := loopRows l
  rw [isActive_faults (releaseLoop_faults l s), isActive_faults (releaseLoop_faults l s)]
  exact ⟨isActive_clearFault _ _ _, isActive_congr (clearFault_state_ne hrows s)⟩

theorem faultState_clearFault {c : FaultCode} {unit : Nat} {s : State} (h : rowOf c unit < s.faults.rows.length) :
    faultState (clearFault c unit s) c unit = (clearRow (classOf s c ≠ .record) (rowAt s (rowOf c unit))).state := by
  simp only [faultState, rowAt, clearFault, getD_updateAt_self h]

/-- A clear leaves a row Clear that was Clear, or Active and acknowledged (R154). -/
theorem clearRow_clear_iff (noticed : Bool) (r : FaultRow) :
    (clearRow noticed r).state = .clear ↔ r.state = .clear ∨ (r.state = .active ∧ r.ack = true) := by
  unfold clearRow
  by_cases ha : r.state = .active
  · cases hk : r.ack <;> simp [ha]
  · simp [ha]

/-- A row that a clear leaves Latched is none that it leaves Clear. -/
theorem not_clears_of_held {r : FaultRow} (h : r.state = .latched ∨ (r.state = .active ∧ r.ack = false)) :
    ¬(r.state = .clear ∨ (r.state = .active ∧ r.ack = true)) := by
  rcases h with h | ⟨h, hack⟩
  · simp [h]
  · simp [h, hack]

/-- A Failed loop is released where its row clears (R69). -/
theorem evaluateFailed_leaves {l : Liquid} {s : State} (hl : s.faults.rows.length = 79) :
    let row := rowAt s (rowOf .loopFailed l.num)
    let clears := row.state = .clear ∨ (row.state = .active ∧ row.ack = true)
    let r := evaluateFailed l s
    isActive r .loopFailed l.num = false ∧ (loopOf r l).outlet = (loopOf s l).outlet ∧
    (clears → (loopOf r l).state = .off ∧ isActive r .loopFlow l.num = false) ∧
    (¬clears → (loopOf r l).state = (loopOf s l).state) := by
  intro row clears r
  obtain ⟨-, hrow, -, -⟩ := loopRows l
  have hiff : faultState (clearFault .loopFailed l.num s) .loopFailed l.num = .clear ↔ clears := by
    rw [faultState_clearFault (hrow.trans_eq hl.symm), clearRow_clear_iff]
  have hinactive := isActive_clearFault .loopFailed l.num s
  have hrecord : loopOf (clearFault .loopFailed l.num s) l = loopOf s l := loopOf_cool rfl l
  have hr : r = _ := evaluateFailed_eq l s
  by_cases hc : clears
  · rw [if_pos (hiff.mpr hc)] at hr
    obtain ⟨hflow, hfailed⟩ := releaseLoop_rows l (clearFault .loopFailed l.num s)
    have hstate := releaseLoop_record (g := LiquidLoop.state) (by intro _; rfl) l (clearFault .loopFailed l.num s)
    have houtlet := releaseLoop_record (g := LiquidLoop.outlet) (by intro _; rfl) l (clearFault .loopFailed l.num s)
    rw [hrecord] at houtlet
    rw [hr]
    exact ⟨hfailed.trans hinactive, houtlet, fun _ => ⟨hstate, hflow⟩,
      fun h => absurd hc h⟩
  · rw [if_neg (mt hiff.mp hc)] at hr
    rw [hr, hrecord]
    exact ⟨hinactive, rfl, fun h => absurd h hc, fun _ => rfl⟩

/-! ## The judgement of a liquid loop -/

/-- An evaluation judges its loop, and reads its outlet. -/
theorem evaluateLoop_judged {s : State} (hl : s.faults.rows.length = 79) (l : Liquid) (x : Int) :
    LoopJudged s (evaluateLoop l x s) l ∧ (loopOf (evaluateLoop l x s) l).outlet = outletOf x := by
  rw [evaluateLoop_eq]
  by_cases hfailed : (loopOf s l).state = .failed
  · rw [if_pos hfailed]
    obtain ⟨hinactive, houtlet, hreleased, hkept⟩ := evaluateFailed_leaves (l := l) (s := readOutlet l x s) hl
    rw [loopOf_readOutlet] at houtlet hkept
    exact ⟨⟨fun h => absurd hfailed h, fun h => absurd hfailed h, fun _ =>
      ⟨hinactive, hreleased, fun hheld => (hkept (not_clears_of_held hheld)).trans hfailed⟩⟩, houtlet⟩
  · rw [if_neg hfailed]
    by_cases hsub : submitted s (fanClaim l) = true
    · rw [if_pos hsub]
      have hclaimed := fansClaimed_followSelection (l := l) (s := readOutlet l x s) hsub (selectStage s l)
      have hrecord := loopOf_followSelection l (selectStage s l) (readOutlet l x s)
      rw [loopOf_readOutlet] at hrecord
      obtain ⟨hselection, hdemand, hstate, houtlet, hrunOn⟩ := loopSelected_fields (loadedRunOn (readOutlet l x s))
        (selectStage s l) { loopOf s l with outlet := outletOf x }
      rw [← hrecord] at hselection hdemand hstate houtlet hrunOn
      have hselects := selectStage_selects s l
      refine ⟨⟨fun _ _ => ⟨?_, ?_, hstate, ?_, hclaimed⟩, fun _ h => ?_, fun h => absurd h hfailed⟩, houtlet⟩
      · rwa [hselection]
      · rw [hdemand, hselection]
      · rw [hrunOn, hselection, loadedRunOn_eq]; rfl
      · rw [hsub] at h; cases h
    · rw [if_neg hsub, LoopJudged, loopOf_readOutlet]
      exact ⟨⟨fun _ h => absurd h hsub, fun _ h => ⟨rfl, h⟩, fun h => absurd h hfailed⟩, rfl⟩

end Sys2Proof.Machine

/-! SUPPORT. The cooling evaluation: its loops, L3 and the heaters judged, the clamps after the budget's answer (R62, R69 to R77). -/

namespace Sys2Proof.Machine

/-! ## The judgement of a loop among the other operations -/

theorem loopRows_ne {l m : Liquid} (h : l ≠ m) {c d : FaultCode} (hc : c = .loopFailed ∨ c = .loopFlow)
    (hd : d = .loopFailed ∨ d = .loopFlow) : rowOf c l.num ≠ rowOf d m.num := by
  have hcs : c ∈ [FaultCode.loopFailed, .loopFlow] := by simpa using hc
  have hds : d ∈ [FaultCode.loopFailed, .loopFlow] := by simpa using hd
  have hrows : ∀ c ∈ [FaultCode.loopFailed, .loopFlow], ∀ d ∈ [FaultCode.loopFailed, .loopFlow],
      rowOf c 1 ≠ rowOf d 2 := by decide
  exact match l, m, h with
  | .l1, .l2, _ => hrows c hcs d hds
  | .l2, .l1, _ => (hrows d hds c hcs).symm
  | .l1, .l1, h | .l2, .l2, h => absurd rfl h

theorem loopClaims_ne {l m : Liquid} (h : l ≠ m) : fanClaim l ≠ pumpClaim m ∧ fanClaim l ≠ fanClaim m :=
  ⟨fanClaim_ne_pumpClaim l m, fun e => h (fanClaim_injective e)⟩

/-- What an operation on the other loop leaves of a loop's selection. -/
theorem LoopStep.selects {l m : Liquid} {s t : State} (h : LoopStep m s t) (hne : l ≠ m) {n : Nat} (hs : Selects t l n) :
    Selects s l n := by
  have hstr (k : StringId) : strOf t k = strOf s k := h.field (f := fun u => strOf u k) fun _ => rfl
  have hinlet : inletOf t l = inletOf s l := h.field (f := fun u => inletOf u l) fun _ => rfl
  have hmode : t.mode = s.mode := h.field (f := State.mode) fun _ => rfl
  have hsetpoint : setpointOf t l = setpointOf s l := h.field (f := fun u => setpointOf u l) fun _ => rfl
  have hforward : forwardStage t l = forwardStage s l := h.field (f := fun u => forwardStage u l) fun _ => rfl
  simpa only [Selects, HoldsLoop, hotInlet, hstr, hinlet, hmode, hsetpoint, hforward, h.other l hne] using hs

/-- A judgement of a loop that an operation on the other loop stands before. -/
theorem LoopJudged.before {l m : Liquid} {s t j : State} (h : LoopStep m s t) (hne : l ≠ m) (hj : LoopJudged t j l) :
    LoopJudged s j l := by
  obtain ⟨hpump, hfan⟩ := loopClaims_ne hne
  have hsub : submitted t (fanClaim l) = submitted s (fanClaim l) := submitted_of_claimOf (h.claims _ hpump hfan)
  have hrow : rowAt t (rowOf .loopFailed l.num) = rowAt s (rowOf .loopFailed l.num) :=
    h.rows _ (loopRows_ne hne (.inl rfl) (.inl rfl)) (loopRows_ne hne (.inl rfl) (.inr rfl))
  have hfresh : freshRunOn t = freshRunOn s := h.field (f := freshRunOn) fun _ => rfl
  simp only [LoopJudged, h.other l hne, hsub, hrow, hfresh] at hj
  obtain ⟨hclaimed, hrest⟩ := hj
  refine ⟨fun hf hs => ?_, hrest⟩
  obtain ⟨hselects, hfields⟩ := hclaimed hf hs
  exact ⟨h.selects hne hselects, hfields⟩

/-- A judgement shows in the loop's record, its fan claim and its rows. -/
theorem LoopJudged.after {l : Liquid} {s j t : State} (hloop : loopOf t l = loopOf j l)
    (hclaim : claimOf t (fanClaim l) = claimOf j (fanClaim l))
    (hfailed : isActive t .loopFailed l.num = isActive j .loopFailed l.num)
    (hflow : isActive t .loopFlow l.num = isActive j .loopFlow l.num) (hj : LoopJudged s j l) : LoopJudged s t l := by
  simpa only [LoopJudged, FansClaimed, submitted, hloop, hclaim, hfailed, hflow] using hj

/-- The operations on the other loop after it leave a judgement. -/
theorem LoopJudged.step {l m : Liquid} {s j t : State} (h : LoopStep m j t) (hne : l ≠ m) (hj : LoopJudged s j l) :
    LoopJudged s t l := by
  obtain ⟨hpump, hfan⟩ := loopClaims_ne hne
  have hrow {c : FaultCode} (hc : c = .loopFailed ∨ c = .loopFlow) : isActive t c l.num = isActive j c l.num :=
    isActive_congr (congrArg FaultRow.state (h.rows _ (loopRows_ne hne hc (.inl rfl)) (loopRows_ne hne hc (.inr rfl))))
  exact hj.after (h.other l hne) (h.claims _ hpump hfan) (hrow (.inl rfl)) (hrow (.inr rfl))

/-! ## An operation on L3 or the heaters -/

/-- `s` without what an operation on L3 or the heaters may write. -/
def aroundAir (s : State) : State :=
  { s with cool := { s.cool with l3 := .atStart, humidity := 0 }, aux := .atStart, faults := .atStart }

/-- `t` is `s` after an operation on L3 or the heaters: it writes L3, the humidity, their two claims and the sensor's row. -/
structure AirStep (s t : State) : Prop where
  around : aroundAir t = aroundAir s
  claims : ∀ id, id ≠ .fans3 → id ≠ .heaters → claimOf t id = claimOf s id
  rows : ∀ i, i ≠ rowOf .coolSensor 3 → (rowAt t i).state = (rowAt s i).state
  length : t.faults.rows.length = s.faults.rows.length

theorem AirStep.trans {s t u : State} (h : AirStep s t) (h' : AirStep t u) : AirStep s u where
  around := h'.around.trans h.around
  claims id h3 hh := (h'.claims id h3 hh).trans (h.claims id h3 hh)
  rows i hi := (h'.rows i hi).trans (h.rows i hi)
  length := h'.length.trans h.length

/-- A field that no operation on L3 or the heaters writes. -/
theorem AirStep.field {s t : State} (h : AirStep s t) {β : Type} {f : State → β} (hf : ∀ s, f (aroundAir s) = f s) :
    f t = f s := by
  rw [← hf t, ← hf s, h.around]

/-- A judgement of a liquid loop stands through the operations on L3 and the heaters. -/
theorem LoopJudged.air {l : Liquid} {s j t : State} (h : AirStep j t) (hj : LoopJudged s j l) : LoopJudged s t l := by
  have hclaim : fanClaim l ≠ .fans3 ∧ fanClaim l ≠ .heaters := by cases l <;> decide
  have hfailed : rowOf .loopFailed l.num ≠ rowOf .coolSensor 3 := by cases l <;> decide
  have hflow : rowOf .loopFlow l.num ≠ rowOf .coolSensor 3 := by cases l <;> decide
  exact hj.after (h.field (f := fun u => loopOf u l) fun _ => by cases l <;> rfl) (h.claims _ hclaim.1 hclaim.2)
    (isActive_congr (h.rows _ hfailed)) (isActive_congr (h.rows _ hflow))

theorem rowAct_state_ne {c : FaultCode} {unit j : Nat} (h : rowOf c unit ≠ j) (a : RowAct) (s : State) :
    (rowAt (rowAct a c unit s) j).state = (rowAt s j).state := by
  cases a
  · exact raise_state_ne h s
  · exact clearFault_state_ne h s
  · rfl

/-- The air temperature in use after a reading (R76). -/
def airAfter (reading : Int) (s : State) : Inlet := (readTemp s.cool.l3.air s.cool.evaluationNo 1000 450 reading).1

/-- The reading of the air sensor writes the temperature in use and the sensor's row. -/
theorem readAir_eq (reading : Int) (s : State) :
    ∃ faults, readAir reading s =
      { s with cool := { s.cool with l3 := { s.cool.l3 with air := airAfter reading s } }, faults := faults } ∧
      faults.rows.length = s.faults.rows.length :=
  rowAct_eq (readTemp s.cool.l3.air s.cool.evaluationNo 1000 450 reading).2 .coolSensor 3
    (modAir (fun a => { a with air := airAfter reading s }) s)

theorem airStep_readAir (reading : Int) (s : State) : AirStep s (readAir reading s) := by
  obtain ⟨faults, heq, hlength⟩ := readAir_eq reading s
  refine ⟨?_, fun id _ _ => ?_, fun i hi => rowAct_state_ne hi.symm _ _, ?_⟩ <;> rw [heq]
  · rfl
  · rfl
  · exact hlength

theorem claimOf_followFanClaim3_ne {id : ClaimId} (h : id ≠ .fans3) (s : State) :
    claimOf (followFanClaim3 s) id = claimOf s id := by
  unfold followFanClaim3
  split
  · exact claimOf_setCeiling_ne h _ s
  · rfl

theorem claimOf_evaluateAir_ne {id : ClaimId} (h : id ≠ .fans3) (s : State) :
    claimOf (evaluateAir s) id = claimOf s id := by
  obtain ⟨hidle, hstart, hrun⟩ := evaluateAir_cases s
  by_cases hoff : s.cool.l3.state = .off
  · rcases Nat.eq_zero_or_pos (selectStage3 s.cool.l3.air.inUse) with hn | hn
    · rw [hidle hoff hn]; rfl
    · rw [hstart hoff hn]; exact claimOf_submitClaim_ne h _ _
  · rw [hrun hoff]; exact claimOf_followFanClaim3_ne h _

theorem airStep_evaluateAir (s : State) : AirStep s (evaluateAir s) := by
  obtain ⟨l3, aux, heq, -⟩ := evaluateAir_eq s
  refine ⟨?_, fun id h3 _ => claimOf_evaluateAir_ne h3 s, fun i _ => ?_, ?_⟩ <;> rw [heq] <;> rfl

/-! ## The heaters (R77) -/

/-- The humidity after a reading (R77). -/
def humidityAfter (h : Int) (s : State) : Nat := if 0 ≤ h ∧ h ≤ 100 then h.toNat else s.cool.humidity

/-- The state with the humidity read. -/
def readHumidity (h : Int) (s : State) : State := { s with cool := { s.cool with humidity := humidityAfter h s } }

theorem evaluateHeaters_eq (h : Int) (s : State) :
    evaluateHeaters h s =
      if heaterMode s.mode.current ∧ humidityAfter h s ≥ 85 ∧ submitted s .heaters = false then
        submitClaim .heaters 20 (readHumidity h s)
      else if humidityAfter h s < 80 then withdrawClaim .heaters (readHumidity h s)
      else readHumidity h s := rfl

theorem evaluateHeaters_cool (h : Int) (s : State) :
    (evaluateHeaters h s).cool = { s.cool with humidity := humidityAfter h s } := by
  rw [evaluateHeaters_eq]
  repeat' split
  all_goals rfl

theorem claimOf_evaluateHeaters_ne {id : ClaimId} (hid : id ≠ .heaters) (h : Int) (s : State) :
    claimOf (evaluateHeaters h s) id = claimOf s id := by
  rw [evaluateHeaters_eq]
  repeat' split
  · exact claimOf_submitClaim_ne hid _ _
  · exact claimOf_withdrawClaim_ne hid _
  · rfl

theorem airStep_evaluateHeaters (h : Int) (s : State) : AirStep s (evaluateHeaters h s) := by
  refine ⟨?_, fun id _ hh => claimOf_evaluateHeaters_ne hh h s, fun i _ => ?_, ?_⟩ <;>
  · rw [evaluateHeaters_eq]
    repeat' split
    all_goals rfl

theorem heaterMode_iff (m : Mode) : heaterMode m = true ↔ m = .parked ∨ m = .storm ∨ m = .isolated := by
  cases m <;> decide

/-- The heater claim by the humidity and the mode (R77). -/
theorem evaluateHeaters_claim (h : Int) (s : State) :
    let heats := s.mode.current = .parked ∨ s.mode.current = .storm ∨ s.mode.current = .isolated
    let humid := humidityAfter h s
    let j := evaluateHeaters h s
    (heats → 85 ≤ humid → submitted j .heaters = true ∧
      (submitted s .heaters = false → (claimOf j .heaters).ceiling = 20)) ∧
    (humid < 80 → submitted j .heaters = false) ∧
    (80 ≤ humid → humid < 85 ∨ ¬heats → submitted j .heaters = submitted s .heaters) := by
  intro heats humid j
  have hj : j = _ := evaluateHeaters_eq h s
  have hread : submitted (readHumidity h s) .heaters = submitted s .heaters := rfl
  simp only [heaterMode_iff] at hj
  by_cases hstart : heats ∧ humid ≥ 85 ∧ submitted s .heaters = false
  · obtain ⟨hheats, hwet, -⟩ := id hstart
    rw [if_pos hstart] at hj
    rw [hj]
    exact ⟨fun _ _ => ⟨submitted_submitClaim _ _ _, fun _ => ceiling_submitClaim _ _ _⟩, fun hdry => by omega,
      fun _ hno => by rcases hno with hno | hno; omega; exact absurd hheats hno⟩
  · rw [if_neg hstart] at hj
    by_cases hdry : humid < 80
    · rw [if_pos hdry] at hj
      rw [hj]
      exact ⟨fun _ hwet => by omega, fun _ => submitted_withdrawClaim _ _, fun hwet => by omega⟩
    · rw [if_neg hdry] at hj
      rw [hj, hread]
      refine ⟨fun hheats hwet => ?_, fun h => absurd h hdry, fun _ _ => rfl⟩
      have hsub : submitted s .heaters ≠ false := fun hno => hstart ⟨hheats, hwet, hno⟩
      exact ⟨Bool.eq_true_of_not_eq_false hsub, fun hno => absurd hno hsub⟩

/-! ## The evaluation up to the budget's answer -/

/-- The state of the next evaluation's number. -/
def countEvaluation (s : State) : State := { s with cool := { s.cool with evaluationNo := s.cool.evaluationNo + 1 } }

/-- The state after the liquid loops of an evaluation. -/
def loopsEvaluated (a b : Int) (s : State) : State := evaluateLoop .l2 b (evaluateLoop .l1 a (countEvaluation s))

theorem evaluateCooling_eq (a b air h : Int) (s : State) :
    evaluateCooling a b air h s = evaluateHeaters h (evaluateAir (readAir air (loopsEvaluated a b s))) := rfl

/-- Both liquid loops are judged, with their outlets read. -/
theorem loopsEvaluated_judged {s : State} (hl : s.faults.rows.length = 79) (a b : Int) :
    (∀ l, LoopJudged (countEvaluation s) (loopsEvaluated a b s) l) ∧
    (loopsEvaluated a b s).cool.l1.outlet = outletOf a ∧ (loopsEvaluated a b s).cool.l2.outlet = outletOf b := by
  have hstep1 := loopStep_evaluateLoop .l1 a (countEvaluation s)
  obtain ⟨hjudged1, houtlet1⟩ := evaluateLoop_judged (s := countEvaluation s) hl .l1 a
  have hstep2 := loopStep_evaluateLoop .l2 b (evaluateLoop .l1 a (countEvaluation s))
  obtain ⟨hjudged2, houtlet2⟩ := evaluateLoop_judged (hstep1.length.trans hl) .l2 b
  refine ⟨fun l => ?_, ?_, houtlet2⟩
  · cases l with
    | l1 => exact hjudged1.step hstep2 (by decide)
    | l2 => exact hjudged2.before hstep1 (by decide)
  · exact (congrArg LiquidLoop.outlet (hstep2.other .l1 (by decide))).trans houtlet1

/-- A field that no operation on a liquid loop writes. -/
theorem loopsEvaluated_field {β : Type} {f : State → β} (hf : ∀ s, f (aroundLoops s) = f s) (a b : Int) (s : State) :
    f (loopsEvaluated a b s) = f (countEvaluation s) :=
  ((loopStep_evaluateLoop .l2 b _).field hf).trans ((loopStep_evaluateLoop .l1 a _).field hf)

/-- A claim or row of no liquid loop. -/
theorem loopsEvaluated_claimOf {id : ClaimId} (h : ∀ l, id ≠ pumpClaim l ∧ id ≠ fanClaim l) (a b : Int) (s : State) :
    claimOf (loopsEvaluated a b s) id = claimOf s id :=
  ((loopStep_evaluateLoop .l2 b _).claims id (h .l2).1 (h .l2).2).trans
    ((loopStep_evaluateLoop .l1 a (countEvaluation s)).claims id (h .l1).1 (h .l1).2)

theorem loopsEvaluated_rowAt {i : Nat} (h : ∀ l : Liquid, i ≠ rowOf .loopFailed l.num ∧ i ≠ rowOf .loopFlow l.num)
    (a b : Int) (s : State) : rowAt (loopsEvaluated a b s) i = rowAt s i :=
  ((loopStep_evaluateLoop .l2 b _).rows i (h .l2).1 (h .l2).2).trans
    ((loopStep_evaluateLoop .l1 a (countEvaluation s)).rows i (h .l1).1 (h .l1).2)

theorem loopsEvaluated_rows_length (a b : Int) (s : State) :
    (loopsEvaluated a b s).faults.rows.length = s.faults.rows.length :=
  (loopStep_evaluateLoop .l2 b _).length.trans (loopStep_evaluateLoop .l1 a (countEvaluation s)).length

/-- What follows the liquid loops in an evaluation is operations on L3 and the heaters. -/
theorem airStep_evaluateCooling (a b air h : Int) (s : State) :
    AirStep (loopsEvaluated a b s) (evaluateCooling a b air h s) :=
  ((airStep_readAir air _).trans (airStep_evaluateAir _)).trans (airStep_evaluateHeaters h _)

/-- A judgement of L3 shows in its record and its claim; it is judged by the record as the reading leaves it. -/
theorem AirJudged.read {s u j t : State} {n : Nat} {x : Inlet} (hair : u.cool.l3 = { s.cool.l3 with air := x })
    (hclock : u.clock = s.clock) (hsub : submitted u .fans3 = submitted s .fans3) (hl3 : t.cool.l3 = j.cool.l3)
    (hclaim : claimOf t .fans3 = claimOf j .fans3) (h : AirJudged u j n) : AirJudged s t n := by
  have hsubmitted : submitted t .fans3 = submitted j .fans3 := submitted_of_claimOf hclaim
  simpa only [AirJudged, hair, hclock, hsub, hl3, hclaim, hsubmitted] using h

end Sys2Proof.Machine

/-! SUPPORT. The clamps of the loops and the rows LOOP_LIMITED after the budget's answer, and the event of a cooling evaluation (R74, R76). -/

namespace Sys2Proof.Machine

/-! ## The clamp of a liquid loop (R74) -/

theorem clampOf_clampAt (m : State) (l : Liquid) : ClampAt m l (clampOf m l) := by
  have hruns : (loopOf m l).state.flowing = true ↔ (loopOf m l).state = .running ∨ (loopOf m l).state = .degraded := by
    cases (loopOf m l).state <;> decide
  have hcarries : (l.strings.any fun k => (strOf m k).state.eligible) = true ↔
      ∃ k ∈ l.strings, (strOf m k).state = .running ∨ (strOf m k).state = .derated := by
    have heligible (st : StrState) : st.eligible = true ↔ st = .running ∨ st = .derated := by cases st <;> decide
    simp only [List.any_eq_true, heligible]
  have hdeficit : (loopOf m l).demand - grantedStage m l = (loopOf m l).demand - grantOf m (fanClaim l) / 8 := rfl
  simp only [ClampAt, clampOf, ← hruns, ← hcarries, hdeficit]
  refine ⟨fun hr hg => ?_, fun hr hg => ?_, fun hr hc => ?_, fun hr hc => ?_⟩
  · rw [if_pos hr, if_pos hg]
  · rw [if_pos hr, if_neg hg]
    generalize (loopOf m l).demand - grantOf m (fanClaim l) / 8 = deficit
    match deficit with
    | 0 => rfl
    | 1 => rfl
    | 2 => rfl
    | n + 3 => rfl
  · rw [if_neg hr, if_pos hc]
  · rw [if_neg hr, if_neg hc]

/-- A clamp set writes the clamp and the row of its loop. -/
theorem setClamp_eq (l : Liquid) (s : State) :
    ∃ faults, setClamp l s = { modLoop l (fun r => { r with clamp := clampOf s l }) s with faults := faults } :=
  setFault_eq .loopLimited l.num (clampOf s l < 100) (modLoop l (fun r => { r with clamp := clampOf s l }) s)

theorem clampOf_setClamp (l m : Liquid) (s : State) : clampOf (setClamp l s) m = clampOf s m := by
  obtain ⟨faults, h⟩ := setClamp_eq l s
  rw [h]
  cases l <;> cases m <;> rfl

theorem setClamp_rows_length (l : Liquid) (s : State) : (setClamp l s).faults.rows.length = s.faults.rows.length := by
  refine (setFault_rows_length .loopLimited l.num (clampOf s l < 100) _).trans ?_
  cases l <;> rfl

theorem limitRow (l : Liquid) :
    rowOf .loopLimited l.num < 79 ∧ reactiveRow (rowOf .loopLimited l.num) = false ∧
    rowOf .loopLimited l.num ≠ rowOf .loopLimited 3 := by cases l <;> decide

theorem isActive_setClamp {l : Liquid} {s : State} (hl : s.faults.rows.length = 79) :
    isActive (setClamp l s) .loopLimited l.num = decide (clampOf s l < 100) := by
  refine isActive_setFault ?_ _
  cases l <;> rw [show (modLoop _ _ s).faults = s.faults from rfl, hl] <;> decide

theorem isActive_setClamp_ne {l : Liquid} {n : Nat} (h : rowOf .loopLimited l.num ≠ rowOf .loopLimited n) (s : State) :
    isActive (setClamp l s) .loopLimited n = isActive s .loopLimited n := by
  refine (isActive_congr (setFault_state_ne h _ _)).trans ?_
  cases l <;> rfl

theorem isActive_limitAir_ne {n : Nat} (h : rowOf .loopLimited 3 ≠ rowOf .loopLimited n) (s : State) :
    isActive (limitAir s) .loopLimited n = isActive s .loopLimited n := by
  unfold limitAir
  split
  · rfl
  · exact isActive_congr (setFault_state_ne h _ s)

/-! ## All clamps and rows after the budget's answer -/

/-- The end of an evaluation writes the two clamps and fault rows. -/
theorem clampLoops_eq (s : State) :
    ∃ faults, clampLoops s =
      { s with
        cool := { s.cool with
          l1 := { s.cool.l1 with clamp := clampOf s .l1 }, l2 := { s.cool.l2 with clamp := clampOf s .l2 } }
        faults := faults } := by
  obtain ⟨faults1, h1⟩ := setClamp_eq .l1 s
  obtain ⟨faults2, h2⟩ := setClamp_eq .l2 (setClamp .l1 s)
  obtain ⟨faults3, h3⟩ := limitAir_eq (setClamp .l2 (setClamp .l1 s))
  refine ⟨faults3, h3.trans ?_⟩
  rw [h2, clampOf_setClamp, h1]
  rfl

theorem clampLoops_clamp (l : Liquid) (s : State) : (loopOf (clampLoops s) l).clamp = clampOf s l := by
  obtain ⟨faults, h⟩ := clampLoops_eq s
  rw [h]
  cases l <;> rfl

/-- LOOP_LIMITED of a liquid loop, by its clamp. -/
theorem clampLoops_limited {s : State} (hl : s.faults.rows.length = 79) (l : Liquid) :
    isActive (clampLoops s) .loopLimited l.num = decide (clampOf s l < 100) := by
  obtain ⟨-, -, hair⟩ := limitRow l
  refine (isActive_limitAir_ne hair.symm _).trans ?_
  cases l with
  | l1 => exact (isActive_setClamp_ne (by decide) _).trans (isActive_setClamp hl)
  | l2 =>
    have hactive := isActive_setClamp (l := .l2) (s := setClamp .l1 s) ((setClamp_rows_length _ _).trans hl)
    rwa [clampOf_setClamp] at hactive

/-- LOOP_LIMITED of L3, by its grant while it runs; an Off L3 leaves it. -/
theorem clampLoops_airLimited {s : State} (hl : s.faults.rows.length = 79) :
    (s.cool.l3.state ≠ .off →
      isActive (clampLoops s) .loopLimited 3 = decide (grantOf s .fans3 / 6 < s.cool.l3.demand)) ∧
    (s.cool.l3.state = .off → isActive (clampLoops s) .loopLimited 3 = isActive s .loopLimited 3) := by
  obtain ⟨faults1, h1⟩ := setClamp_eq .l1 s
  obtain ⟨faults2, h2⟩ := setClamp_eq .l2 (setClamp .l1 s)
  have hair : (setClamp .l2 (setClamp .l1 s)).cool.l3 = s.cool.l3 := by rw [h2, h1]; rfl
  have hgrant : grantOf (setClamp .l2 (setClamp .l1 s)) .fans3 = grantOf s .fans3 := by rw [h2, h1]; rfl
  have hlength := (setClamp_rows_length .l2 (setClamp .l1 s)).trans (setClamp_rows_length .l1 s)
  refine ⟨fun hon => ?_, fun hoff => ?_⟩
  · have hactive := isActive_limitAir (hlength.trans hl) (by rwa [hair])
    rwa [hair, hgrant] at hactive
  · have hlimit : limitAir (setClamp .l2 (setClamp .l1 s)) = setClamp .l2 (setClamp .l1 s) := if_pos (by rwa [hair])
    rw [clampLoops, hlimit]
    exact (isActive_setClamp_ne (by decide) _).trans (isActive_setClamp_ne (by decide) s)

/-! ## The event -/

/-- The end of the event whose evaluation is judged in `j`. -/
def cooled (j : State) : State := finish (settle (clampLoops (settle j)))

theorem exec_coolingEvaluation {s : State} (hp : s.powered = true) (a b air h : Int) :
    exec (.coolingEvaluation a b air h) s = .next (cooled (evaluateCooling a b air h (beginEvent s))) :=
  congrArg Host.Outcome.next (react_eq hp (coolingEvaluation a b air h))

theorem outside_cooled (j : State) : outside (cooled j) = outside (clampLoops (settle j)) :=
  (outside_finish _).trans (outside_settle _)

/-- A field that no reaction, no clamp, no notice and no fault row writes stands as the judgement leaves it. -/
theorem cooled_field {β : Type} {f : State → β} (hout : ∀ s, f (outside s) = f s)
    (hclamp : ∀ (s : State) c1 c2 faults, f { s with
      cool := { s.cool with l1 := { s.cool.l1 with clamp := c1 }, l2 := { s.cool.l2 with clamp := c2 } }
      faults := faults } = f s) (j : State) : f (cooled j) = f j := by
  obtain ⟨faults, h⟩ := clampLoops_eq (settle j)
  calc f (cooled j) = f (clampLoops (settle j)) := outside_field hout (outside_cooled j)
    _ = f (settle j) := by rw [h, hclamp]
    _ = f j := outside_field hout (outside_settle j)

/-- The clamp and LOOP_LIMITED of a liquid loop at the end of the event, by the budget's answer. -/
theorem cooled_clamp {j : State} (hl : j.faults.rows.length = 79) (l : Liquid) :
    ClampAt (settle j) l (loopOf (cooled j) l).clamp ∧
    isActive (cooled j) .loopLimited l.num = decide ((loopOf (cooled j) l).clamp < 100) := by
  obtain ⟨-, hstill, -⟩ := limitRow l
  have hclamp : (loopOf (cooled j) l).clamp = clampOf (settle j) l :=
    (outside_field (f := fun u => (loopOf u l).clamp) (fun _ => by cases l <;> rfl) (outside_cooled j)).trans
      (clampLoops_clamp l _)
  rw [hclamp, outside_isActive_of_still (outside_cooled j) hstill]
  exact ⟨clampOf_clampAt _ l, clampLoops_limited ((settle_rows_length j).trans hl) l⟩

/-- LOOP_LIMITED of L3 at the end of the event. -/
theorem cooled_airLimited {j : State} (hl : j.faults.rows.length = 79) :
    (j.cool.l3.state ≠ .off →
      isActive (cooled j) .loopLimited 3 = decide (grantOf (settle j) .fans3 / 6 < j.cool.l3.demand)) ∧
    (j.cool.l3.state = .off → isActive (cooled j) .loopLimited 3 = isActive j .loopLimited 3) := by
  obtain ⟨hstate, hdemand⟩ := settle_air j
  obtain ⟨hon, hoff⟩ := clampLoops_airLimited ((settle_rows_length j).trans hl)
  rw [hstate, hdemand] at hon
  rw [hstate] at hoff
  rw [outside_isActive_of_still (outside_cooled j) airLimitRow.2]
  exact ⟨hon, fun h => (hoff h).trans (outside_isActive_of_still (outside_settle j) airLimitRow.2)⟩

end Sys2Proof.Machine

/-! SUPPORT. The parts of a cooling evaluation put together: L3, the heaters, what is left alone (R62, R76, R77). -/

namespace Sys2Proof.Machine

/-! ## The judgement of L3 and of the heaters -/

/-- What L3 and the heaters are judged from: the state after the reading of the air. -/
theorem airRead_fields (a b air : Int) (s : State) :
    (readAir air (loopsEvaluated a b s)).cool.l3 =
      { s.cool.l3 with air := (readTemp s.cool.l3.air (s.cool.evaluationNo + 1) 1000 450 air).1 } ∧
    (readAir air (loopsEvaluated a b s)).clock = s.clock ∧ (readAir air (loopsEvaluated a b s)).mode = s.mode ∧
    (readAir air (loopsEvaluated a b s)).cool.humidity = s.cool.humidity ∧
    submitted (readAir air (loopsEvaluated a b s)) .fans3 = submitted s .fans3 ∧
    submitted (readAir air (loopsEvaluated a b s)) .heaters = submitted s .heaters := by
  obtain ⟨faults, hread, -⟩ := readAir_eq air (loopsEvaluated a b s)
  have hl3 : (loopsEvaluated a b s).cool.l3 = s.cool.l3 := loopsEvaluated_field (f := fun u => u.cool.l3) (fun _ => rfl) a b s
  have hno : (loopsEvaluated a b s).cool.evaluationNo = s.cool.evaluationNo + 1 :=
    loopsEvaluated_field (f := fun u => u.cool.evaluationNo) (fun _ => rfl) a b s
  rw [hread]
  refine ⟨?_, loopsEvaluated_field (f := State.clock) (fun _ => rfl) a b s,
    loopsEvaluated_field (f := State.mode) (fun _ => rfl) a b s,
    loopsEvaluated_field (f := fun u => u.cool.humidity) (fun _ => rfl) a b s,
    submitted_of_claimOf (loopsEvaluated_claimOf (fun l => by cases l <;> decide) a b s),
    submitted_of_claimOf (loopsEvaluated_claimOf (fun l => by cases l <;> decide) a b s)⟩
  simp only [airAfter, hl3, hno]

/-- L3 is judged by the selection of the air temperature in use, which the reading leaves. -/
theorem evaluateCooling_air (a b air h : Int) (s : State) :
    let warm := (readTemp s.cool.l3.air (s.cool.evaluationNo + 1) 1000 450 air).1
    AirJudged s (evaluateCooling a b air h s) (selectStage3 warm.inUse) ∧
    (evaluateCooling a b air h s).cool.l3.air = warm := by
  intro warm
  obtain ⟨hl3, hclock, -, -, hfans, -⟩ := airRead_fields a b air s
  obtain ⟨l3, aux, hjudged, hkept⟩ := evaluateAir_eq (readAir air (loopsEvaluated a b s))
  have hair : (readAir air (loopsEvaluated a b s)).cool.l3.air = warm := by rw [hl3]
  have hheaters := evaluateHeaters_cool h (evaluateAir (readAir air (loopsEvaluated a b s)))
  have hsame : (evaluateCooling a b air h s).cool.l3 = (evaluateAir (readAir air (loopsEvaluated a b s))).cool.l3 := by
    rw [evaluateCooling_eq, hheaters]
  refine ⟨?_, ?_⟩
  · rw [← hair]
    exact (evaluateAir_judged _).read hl3 hclock hfans hsame (claimOf_evaluateHeaters_ne (by decide) h _)
  · rw [hsame, ← hair, ← hkept, hjudged]

/-- The humidity is read, and the heater claim follows it and the mode. -/
theorem evaluateCooling_heaters (a b air h : Int) (s : State) :
    let heats := s.mode.current = .parked ∨ s.mode.current = .storm ∨ s.mode.current = .isolated
    let humid := humidityAfter h s
    let j := evaluateCooling a b air h s
    j.cool.humidity = humid ∧
    (heats → 85 ≤ humid → submitted j .heaters = true ∧
      (submitted s .heaters = false → (claimOf j .heaters).ceiling = 20)) ∧
    (humid < 80 → submitted j .heaters = false) ∧
    (80 ≤ humid → humid < 85 ∨ ¬heats → submitted j .heaters = submitted s .heaters) := by
  obtain ⟨-, -, hmode, hhumidity, -, hsub⟩ := airRead_fields a b air s
  obtain ⟨l3, aux, hjudged, -⟩ := evaluateAir_eq (readAir air (loopsEvaluated a b s))
  have hclaim := claimOf_evaluateAir_ne (id := .heaters) (by decide) (readAir air (loopsEvaluated a b s))
  have hcool := evaluateHeaters_cool h (evaluateAir (readAir air (loopsEvaluated a b s)))
  have hheaters := evaluateHeaters_claim h (evaluateAir (readAir air (loopsEvaluated a b s)))
  have hmode' : (evaluateAir (readAir air (loopsEvaluated a b s))).mode = s.mode := by rw [hjudged]; exact hmode
  have hhumid : humidityAfter h (evaluateAir (readAir air (loopsEvaluated a b s))) = humidityAfter h s := by
    rw [hjudged]; simp only [humidityAfter, hhumidity]
  rw [hmode', hhumid, submitted_of_claimOf hclaim, hsub] at hheaters
  rw [hhumid] at hcool
  exact ⟨congrArg Cooling.humidity hcool, hheaters⟩

/-! ## What the evaluation leaves alone -/

/-- A field that no operation of an evaluation writes, but for the count. -/
theorem evaluateCooling_field {β : Type} {f : State → β} (hloops : ∀ s, f (aroundLoops s) = f s)
    (hair : ∀ s, f (aroundAir s) = f s) (a b air h : Int) (s : State) :
    f (evaluateCooling a b air h s) = f (countEvaluation s) :=
  ((airStep_evaluateCooling a b air h s).field hair).trans (loopsEvaluated_field hloops a b s)

theorem evaluateCooling_rows_length (a b air h : Int) (s : State) :
    (evaluateCooling a b air h s).faults.rows.length = s.faults.rows.length :=
  (airStep_evaluateCooling a b air h s).length.trans (loopsEvaluated_rows_length a b s)

/-- LOOP_LIMITED of L3 is no row of a judgement. -/
theorem evaluateCooling_airLimited (a b air h : Int) (s : State) :
    isActive (evaluateCooling a b air h s) .loopLimited 3 = isActive s .loopLimited 3 := by
  have hloops := congrArg FaultRow.state (loopsEvaluated_rowAt (i := rowOf .loopLimited 3)
    (fun l => by cases l <;> decide) a b s)
  exact isActive_congr (((airStep_evaluateCooling a b air h s).rows _ (by decide)).trans hloops)

/-- The outlets read, at the end of the event. -/
theorem cooled_outlets {s : State} (hl : s.faults.rows.length = 79) (a b air h : Int) :
    (cooled (evaluateCooling a b air h s)).cool.l1.outlet = outletOf a ∧
    (cooled (evaluateCooling a b air h s)).cool.l2.outlet = outletOf b := by
  obtain ⟨-, houtlet1, houtlet2⟩ := loopsEvaluated_judged hl a b
  have hair := airStep_evaluateCooling a b air h s
  rw [cooled_field (f := fun u => u.cool.l1.outlet) (fun _ => rfl) (fun _ _ _ _ => rfl),
    cooled_field (f := fun u => u.cool.l2.outlet) (fun _ => rfl) (fun _ _ _ _ => rfl),
    hair.field (f := fun u => u.cool.l1.outlet) (fun _ => rfl), hair.field (f := fun u => u.cool.l2.outlet) (fun _ => rfl)]
  exact ⟨houtlet1, houtlet2⟩

/-- A field that neither the judgement nor the budget's answer writes. -/
theorem cooled_frame {β : Type} {f : State → β} (hout : ∀ s, f (outside s) = f s) (hloops : ∀ s, f (aroundLoops s) = f s)
    (hair : ∀ s, f (aroundAir s) = f s)
    (hclamp : ∀ (s : State) c1 c2 faults, f { s with
      cool := { s.cool with l1 := { s.cool.l1 with clamp := c1 }, l2 := { s.cool.l2 with clamp := c2 } }
      faults := faults } = f s) (a b air h : Int) (s : State) :
    f (cooled (evaluateCooling a b air h s)) = f (countEvaluation s) :=
  (cooled_field hout hclamp _).trans (evaluateCooling_field hloops hair a b air h s)

/-! ## The statement -/

/-- Settles O37: each part of the evaluation judged where it acts, the others left alone, and the clamps by the budget's answer. -/
theorem coolingEvaluationSetsClamps : Obligations.CoolingEvaluationSetsClamps := by
  unfold Obligations.CoolingEvaluationSetsClamps
  rintro s a b air h hp ⟨hrows, -⟩
  have hl : (beginEvent s).faults.rows.length = 79 := hrows
  obtain ⟨hair, hwarm⟩ := evaluateCooling_air a b air h (beginEvent s)
  obtain ⟨hhumid, hheat, hdry, hkeep⟩ := evaluateCooling_heaters a b air h (beginEvent s)
  obtain ⟨hloops, -⟩ := loopsEvaluated_judged hl a b
  have hjudged (l : Liquid) := (hloops l).air (airStep_evaluateCooling a b air h (beginEvent s))
  obtain ⟨houtlet1, houtlet2⟩ := cooled_outlets hl a b air h
  have hlength := (evaluateCooling_rows_length a b air h (beginEvent s)).trans hl
  have hlimited := evaluateCooling_airLimited a b air h (beginEvent s)
  obtain ⟨hon, hoff⟩ := cooled_airLimited hlength
  have hexec := exec_coolingEvaluation hp a b air h
  intro j m t humid heats warm
  have hj : j = evaluateCooling a b air h (beginEvent s) := rfl
  have hm : m = settle j := rfl
  have ht : t = cooled j := rfl
  clear_value t m j
  rw [ht, hm, hj]
  refine ⟨hexec, ?_, houtlet1, houtlet2, ?_, ?_, hjudged, hair, hheat, hdry, hkeep, cooled_clamp hlength, hon,
    fun h => (hoff h).trans hlimited, ?_, ?_, ?_, ?_, ?_⟩
  · exact cooled_frame (f := fun u => u.cool.evaluationNo) (fun _ => rfl) (fun _ => rfl) (fun _ => rfl) (fun _ _ _ _ => rfl)
      a b air h _
  · rw [cooled_field (f := fun u => u.cool.l3.air) (fun _ => rfl) (fun _ _ _ _ => rfl)]
    exact hwarm
  · rw [cooled_field (f := fun u => u.cool.humidity) (fun _ => rfl) (fun _ _ _ _ => rfl)]
    exact hhumid
  · exact cooled_frame (f := State.grid) (fun _ => rfl) (fun _ => rfl) (fun _ => rfl) (fun _ _ _ _ => rfl)
      a b air h _
  · exact cooled_frame (f := State.therm) (fun _ => rfl) (fun _ => rfl) (fun _ => rfl) (fun _ _ _ _ => rfl)
      a b air h _
  · exact cooled_frame (f := State.store) (fun _ => rfl) (fun _ => rfl) (fun _ => rfl) (fun _ _ _ _ => rfl)
      a b air h _
  · exact cooled_frame (f := State.retained) (fun _ => rfl) (fun _ => rfl) (fun _ => rfl) (fun _ _ _ _ => rfl)
      a b air h _
  · exact cooled_frame (f := fun u => u.conv.granted) (fun _ => rfl) (fun _ => rfl) (fun _ => rfl) (fun _ _ _ _ => rfl)
      a b air h _

end Sys2Proof.Machine

/-! SUPPORT. What the ranges of energy and power rest on: the power request, the granted powers, the source and the battery energy, which no operation writes but a SetPower, the share interval, the budget's own rules and a start (R15, R16, R88 to R92, R97). -/

namespace Sys2Proof.Machine

/-- The power request, the granted powers, the source and the battery energy. -/
def ratings (s : State) : PowerRequest × Granted × Source × Nat :=
  (s.conv.request, s.conv.granted, s.aux.source, s.retained.energy)

theorem ratings_fields {s t : State} (h : ratings t = ratings s) :
    t.conv.request = s.conv.request ∧ t.conv.granted = s.conv.granted ∧ t.aux.source = s.aux.source ∧
    t.retained.energy = s.retained.energy := by
  simpa only [ratings, Prod.mk.injEq] using h

theorem ratings_outside (s : State) : ratings (outside s) = ratings s := rfl

theorem ratings_of_outside {s t : State} (h : outside t = outside s) : ratings t = ratings s :=
  outside_field ratings_outside h

theorem ratings_of_beside {s t : State} (h : beside t = beside s) : ratings t = ratings s :=
  ratings_of_outside (outside_of_beside h)

theorem ratings_forEach {α : Type} {f : α → State → State} (h : ∀ a s, ratings (f a s) = ratings s) (l : List α)
    (s : State) : ratings (forEach l f s) = ratings s := forEach_field h l s

/-! ## Plain updates -/

@[simp] theorem ratings_beginEvent (s : State) : ratings (beginEvent s) = ratings s := rfl
@[simp] theorem ratings_modYaw (f : Yaw → Yaw) (s : State) : ratings (modYaw f s) = ratings s := rfl
@[simp] theorem ratings_modGrid (f : Grid → Grid) (s : State) : ratings (modGrid f s) = ratings s := rfl
@[simp] theorem ratings_modStr (k : StringId) (f : StringRec → StringRec) (s : State) :
    ratings (modStr k f s) = ratings s := rfl
@[simp] theorem ratings_modLoop (l : Liquid) (f : LiquidLoop → LiquidLoop) (s : State) :
    ratings (modLoop l f s) = ratings s := rfl
@[simp] theorem ratings_modAir (f : AirLoop → AirLoop) (s : State) : ratings (modAir f s) = ratings s := rfl
@[simp] theorem ratings_modTwist (f : TwistRecord → TwistRecord) (s : State) : ratings (modTwist f s) = ratings s := rfl
@[simp] theorem ratings_modWorking (f : Settings → Settings) (s : State) : ratings (modWorking f s) = ratings s := rfl
@[simp] theorem ratings_modLink (f : Link → Link) (s : State) : ratings (modLink f s) = ratings s := rfl
@[simp] theorem ratings_withMode (x : ModeCtl) (s : State) : ratings { s with mode := x } = ratings s := rfl
@[simp] theorem ratings_withTherm (x : Thermal) (s : State) : ratings { s with therm := x } = ratings s := rfl
@[simp] theorem ratings_withCool (x : Cooling) (s : State) : ratings { s with cool := x } = ratings s := rfl
@[simp] theorem ratings_setQueue (q : List StringId) (s : State) : ratings (setQueue q s) = ratings s := rfl
@[simp] theorem ratings_raise (c : FaultCode) (u : Nat) (s : State) : ratings (raise c u s) = ratings s := rfl
@[simp] theorem ratings_clearFault (c : FaultCode) (u : Nat) (s : State) : ratings (clearFault c u s) = ratings s := rfl
@[simp] theorem ratings_setFault (c : FaultCode) (u : Nat) (b : Bool) (s : State) :
    ratings (setFault c u b s) = ratings s := by cases b <;> rfl
@[simp] theorem ratings_rowAct (a : RowAct) (c : FaultCode) (u : Nat) (s : State) :
    ratings (rowAct a c u s) = ratings s := by cases a <;> rfl
@[simp] theorem ratings_ackWhere (p : Nat → FaultRow → Bool) (s : State) : ratings (ackWhere p s) = ratings s := rfl
@[simp] theorem ratings_setInlet (l : Liquid) (x : Inlet) (s : State) : ratings (setInlet l x s) = ratings s := rfl
@[simp] theorem ratings_setMonitor (m : MonitorId) (x : Monitor) (s : State) : ratings (setMonitor m x s) = ratings s := by
  cases m <;> rfl
@[simp] theorem ratings_oweWalk (s : State) : ratings (oweWalk s) = ratings s := rfl
@[simp] theorem ratings_updateMarks (s : State) : ratings (updateMarks s) = ratings s := rfl

@[simp] theorem ratings_setCeiling (id : ClaimId) (n : Nat) (s : State) : ratings (setCeiling id n s) = ratings s := by
  unfold ratings setCeiling
  simp only
  split <;> rfl
@[simp] theorem ratings_submitClaim (id : ClaimId) (n : Nat) (s : State) : ratings (submitClaim id n s) = ratings s := by
  have hceiling := ratings_setCeiling id n s
  unfold ratings submitClaim at *
  simp only
  split
  · exact hceiling
  · rfl
@[simp] theorem ratings_withdrawClaim (id : ClaimId) (s : State) : ratings (withdrawClaim id s) = ratings s := by
  unfold ratings withdrawClaim
  simp only
  split <;> rfl

/-! ## Operations of the reactions, used by the commands too -/

@[simp] theorem ratings_settle (s : State) : ratings (settle s) = ratings s := ratings_of_beside (beside_settle s)
@[simp] theorem ratings_finish (s : State) : ratings (finish s) = ratings s := ratings_of_outside (outside_finish s)
@[simp] theorem ratings_setStrState (k : StringId) (st : StrState) (s : State) : ratings (setStrState k st s) = ratings s := rfl
@[simp] theorem ratings_oweJudgement (l : Liquid) (s : State) : ratings (oweJudgement l s) = ratings s := rfl
@[simp] theorem ratings_oweBothJudgements (s : State) : ratings (oweBothJudgements s) = ratings s := rfl
@[simp] theorem ratings_testJoin (k : StringId) (s : State) : ratings (testJoin k s) = ratings s :=
  ratings_of_beside (beside_testJoin k s)
@[simp] theorem ratings_testJoins (l : List StringId) (s : State) : ratings (testJoins l s) = ratings s :=
  ratings_of_beside (beside_testJoins l s)
@[simp] theorem ratings_stopOne (b : Bool) (k : StringId) (s : State) : ratings (stopOne b k s) = ratings s :=
  ratings_of_beside (beside_stopOne b k s)
@[simp] theorem ratings_followFanClaim (l : Liquid) (s : State) : ratings (followFanClaim l s) = ratings s :=
  ratings_of_beside (beside_followFanClaim l s)
@[simp] theorem ratings_proofSuccess (l : Liquid) (s : State) : ratings (proofSuccess l s) = ratings s :=
  ratings_of_beside (beside_proofSuccess l s)
@[simp] theorem ratings_beginTrial (l : Liquid) (p : Pump) (r : PumpRole) (s : State) :
    ratings (beginTrial l p r s) = ratings s := ratings_of_beside (beside_beginTrial l p r s)
@[simp] theorem ratings_completeWaiting (s : State) : ratings (completeWaiting s) = ratings s :=
  ratings_of_beside (beside_completeWaiting s)
@[simp] theorem ratings_runningStop (s : State) : ratings (runningStop s) = ratings s :=
  ratings_of_beside (beside_runningStop s)
@[simp] theorem ratings_forcedStop (s : State) : ratings (forcedStop s) = ratings s :=
  ratings_of_beside (beside_forcedStop s)
@[simp] theorem ratings_beginPressurize (s : State) : ratings (beginPressurize s) = ratings s := rfl
@[simp] theorem ratings_beginRamp (sp : SpeedRef) (s : State) : ratings (beginRamp sp s) = ratings s := rfl
@[simp] theorem ratings_setForced (s : State) : ratings (setForced s) = ratings s := rfl
@[simp] theorem ratings_stopUntwistWait (s : State) : ratings (stopUntwistWait s) = ratings s := rfl
@[simp] theorem ratings_judgeYaw (s : State) : ratings (judgeYaw s) = ratings s := ratings_of_beside (beside_judgeYaw s)
@[simp] theorem ratings_changeMode (m : Mode) (t : Option Mode) (c : Cause) (s : State) :
    ratings (changeMode m t c s) = ratings s := ratings_of_beside (beside_changeMode m t c s)
@[simp] theorem ratings_endTransition (s : State) : ratings (endTransition s) = ratings s :=
  ratings_of_beside (beside_endTransition s)
@[simp] theorem ratings_runWalk (s : State) : ratings (runWalk s) = ratings s := ratings_of_beside (beside_runWalk s)

/-! ## Converter supervisor -/

@[simp] theorem ratings_dequeue (k : StringId) (s : State) : ratings (dequeue k s) = ratings s := rfl
@[simp] theorem ratings_faultString (k : StringId) (s : State) : ratings (faultString k s) = ratings s := by
  unfold faultString; split <;> simp
@[simp] theorem ratings_tripString (c : FaultCode) (k : StringId) (s : State) : ratings (tripString c k s) = ratings s := by
  simp [tripString]
@[simp] theorem ratings_chargeSuccess (k : StringId) (s : State) : ratings (chargeSuccess k s) = ratings s := by
  unfold chargeSuccess; split <;> simp
@[simp] theorem ratings_testCurrent (k : StringId) (n : Nat) (s : State) : ratings (testCurrent k n s) = ratings s := by
  simp only [testCurrent]; split
  · split <;> simp
  · simp
@[simp] theorem ratings_testDcLink (k : StringId) (s : State) : ratings (testDcLink k s) = ratings s := by
  unfold testDcLink; split
  · simp
  · split <;> simp
@[simp] theorem ratings_testGate (k : StringId) (b : Bool) (s : State) : ratings (testGate k b s) = ratings s := by
  unfold testGate; split <;> simp
@[simp] theorem ratings_takeReport (k : StringId) (i u : Nat) (b : Bool) (s : State) :
    ratings (takeReport k i u b s) = ratings s := by
  simp only [takeReport]; split <;> simp
@[simp] theorem ratings_timeoutPrecharge (k : StringId) (s : State) : ratings (timeoutPrecharge k s) = ratings s := by
  unfold timeoutPrecharge; split <;> simp
@[simp] theorem ratings_turnString (on : Bool) (k : StringId) (s : State) : ratings (turnString on k s) = ratings s :=
  (ratings_of_beside (beside_turnString on k s)).trans (ratings_modStr k _ s)
@[simp] theorem ratings_silenceStep (k : StringId) (s : State) : ratings (silenceStep k s) = ratings s := by
  simp only [silenceStep]; split
  · simp
  · split <;> simp
@[simp] theorem ratings_clearPrechargeRow (k : StringId) (s : State) : ratings (clearPrechargeRow k s) = ratings s := rfl
@[simp] theorem ratings_releaseStep (k : StringId) (s : State) : ratings (releaseStep k s) = ratings s := by
  unfold releaseStep; split
  · split <;> simp
  · rfl
@[simp] theorem ratings_runStep (k : StringId) (s : State) : ratings (runStep k s) = ratings s := by
  unfold runStep; split <;> simp
@[simp] theorem ratings_limitStep (k : StringId) (s : State) : ratings (limitStep k s) = ratings s := by
  simp only [limitStep]; split <;> simp
@[simp] theorem ratings_beforeSharing (s : State) : ratings (beforeSharing s) = ratings s := by
  simp only [beforeSharing]
  rw [ratings_forEach ratings_limitStep, ratings_forEach ratings_runStep, ratings_forEach ratings_releaseStep,
    ratings_forEach ratings_clearPrechargeRow, ratings_forEach ratings_silenceStep]

/-! ## Grid monitor, thermal model and cooling -/

@[simp] theorem ratings_followOver (a b : Bool) (s : State) : ratings (followOver a b s) = ratings s := by
  unfold followOver; split
  · split <;> simp
  · split <;> simp
@[simp] theorem ratings_armMonitor (m : MonitorId) (a : Bool) (x n : Nat) (s : State) :
    ratings (armMonitor m a x n s) = ratings s := by
  simp only [armMonitor]; split
  · split <;> simp
  · simp
@[simp] theorem ratings_ageDips (s : State) : ratings (ageDips s) = ratings s := rfl
@[simp] theorem ratings_qHoldEnds (s : State) : ratings (qHoldEnds s) = ratings s := by
  unfold qHoldEnds; split <;> simp
@[simp] theorem ratings_readInlet (l : Liquid) (x : Int) (s : State) : ratings (readInlet l x s) = ratings s := by
  simp [readInlet]
@[simp] theorem ratings_substituteInlet (l : Liquid) (s : State) : ratings (substituteInlet l s) = ratings s := by
  simp only [substituteInlet]; split <;> simp
@[simp] theorem ratings_testJunction (k : StringId) (s : State) : ratings (testJunction k s) = ratings s := by
  simp only [testJunction]; split
  · split <;> simp
  · split <;> simp
@[simp] theorem ratings_testDerate (k : StringId) (s : State) : ratings (testDerate k s) = ratings s := by
  unfold testDerate; split
  · split <;> simp
  · simp
@[simp] theorem ratings_thermalInterval (a b : Int) (s : State) : ratings (thermalInterval a b s) = ratings s := by
  simp only [thermalInterval, ratings_oweBothJudgements, ratings_withTherm]
  rw [ratings_forEach (by intro k t; simp)]
  simp
@[simp] theorem ratings_applyThermalSettings (s : State) : ratings (applyThermalSettings s) = ratings s := by
  unfold applyThermalSettings
  rw [ratings_forEach (by intro k t; simp [relimit])]
@[simp] theorem ratings_followFanClaim3 (s : State) : ratings (followFanClaim3 s) = ratings s := by
  unfold followFanClaim3; split <;> simp
@[simp] theorem ratings_loopFail (l : Liquid) (s : State) : ratings (loopFail l s) = ratings s := by
  simp only [loopFail, ratings_oweJudgement, ratings_setQueue]
  rw [ratings_forEach (ratings_stopOne true)]
  simp
@[simp] theorem ratings_pumpFails (l : Liquid) (s : State) : ratings (pumpFails l s) = ratings s := by
  unfold pumpFails; split <;> simp [standbyTrial]
@[simp] theorem ratings_proofTimeout (l : Liquid) (s : State) : ratings (proofTimeout l s) = ratings s := by
  unfold proofTimeout; split <;> simp
@[simp] theorem ratings_dropTimeout (l : Liquid) (s : State) : ratings (dropTimeout l s) = ratings s := by
  unfold dropTimeout; split <;> simp
@[simp] theorem ratings_flowChange (l : Liquid) (b : Bool) (s : State) : ratings (flowChange l b s) = ratings s := by
  simp only [flowChange]; split
  · split <;> simp
  all_goals simp
@[simp] theorem ratings_followSelection (l : Liquid) (n : Nat) (s : State) :
    ratings (followSelection l n s) = ratings s := by simp [followSelection]
@[simp] theorem ratings_evaluateFailed (l : Liquid) (s : State) : ratings (evaluateFailed l s) = ratings s := by
  simp only [evaluateFailed]; split <;> simp
@[simp] theorem ratings_evaluateLoop (l : Liquid) (x : Int) (s : State) : ratings (evaluateLoop l x s) = ratings s := by
  simp only [evaluateLoop, apply_ite ratings, ratings_evaluateFailed, ratings_followSelection, ratings_modLoop, ite_self]
@[simp] theorem ratings_readAir (x : Int) (s : State) : ratings (readAir x s) = ratings s := by simp [readAir]
@[simp] theorem ratings_substituteAir (s : State) : ratings (substituteAir s) = ratings s := by simp [substituteAir]
@[simp] theorem ratings_evaluateAir (s : State) : ratings (evaluateAir s) = ratings s := by
  simp only [evaluateAir]; split
  · split <;> simp
  · simp
@[simp] theorem ratings_limitAir (s : State) : ratings (limitAir s) = ratings s := by
  unfold limitAir; split <;> simp
@[simp] theorem ratings_evaluateHeaters (h : Int) (s : State) : ratings (evaluateHeaters h s) = ratings s := by
  simp only [evaluateHeaters, apply_ite ratings, ratings_submitClaim, ratings_withdrawClaim, ratings_withCool, ite_self]
@[simp] theorem ratings_clampLoops (s : State) : ratings (clampLoops s) = ratings s := by simp [clampLoops, setClamp]
@[simp] theorem ratings_coolingEvaluation (a b c d : Int) (s : State) :
    ratings (coolingEvaluation a b c d s) = ratings s := by simp [coolingEvaluation, evaluateCooling]
@[simp] theorem ratings_airSubstitution (s : State) : ratings (airSubstitution s) = ratings s := by
  unfold airSubstitution; split <;> simp
@[simp] theorem ratings_runOnExpires (l : Liquid) (s : State) : ratings (runOnExpires l s) = ratings s := by
  unfold runOnExpires; split <;> simp
@[simp] theorem ratings_runOnExpires3 (s : State) : ratings (runOnExpires3 s) = ratings s := by
  simp only [runOnExpires3]; split
  · split <;> simp [airOff]
  · rfl
@[simp] theorem ratings_modFan (f : FanId) (g : FanChannel → FanChannel) (s : State) :
    ratings (modFan f g s) = ratings s := by cases f <;> rfl
@[simp] theorem ratings_fanFails (f : FanId) (s : State) : ratings (fanFails f s) = ratings s := by
  simp only [fanFails]; split
  · split <;> simp [degradeLoop]
  · rfl
@[simp] theorem ratings_returnFans (l : LoopId) (s : State) : ratings (returnFans l s) = ratings s := by
  simp only [returnFans]; split <;> simp

/-! ## Budget, mode controller and port -/

@[simp] theorem ratings_judgeCharger (s : State) : ratings (judgeCharger s) = ratings s := by
  unfold judgeCharger; split
  · split <;> simp
  · rfl
@[simp] theorem ratings_writeMarks (a b : Bool) (s : State) : ratings (writeMarks a b s) = ratings s := by
  simp only [writeMarks, apply_ite ratings, ratings_setFault, ite_self]
  rfl
@[simp] theorem ratings_judgeMarks (s : State) : ratings (judgeMarks s) = ratings s := by simp [judgeMarks]
@[simp] theorem ratings_idleLimitExpires (s : State) : ratings (idleLimitExpires s) = ratings s := by
  unfold idleLimitExpires; split <;> simp
@[simp] theorem ratings_testStormEntry (s : State) : ratings (testStormEntry s) = ratings s := by
  unfold testStormEntry; split <;> simp
@[simp] theorem ratings_testCalm (s : State) : ratings (testCalm s) = ratings s := by
  unfold testCalm; split <;> simp
@[simp] theorem ratings_calmExpires (s : State) : ratings (calmExpires s) = ratings s := by
  unfold calmExpires; split <;> simp
@[simp] theorem ratings_estopOpens (s : State) : ratings (estopOpens s) = ratings s := by
  simp only [estopOpens]
  split <;> simp [ratings_forEach ratings_faultString]
@[simp] theorem ratings_resetPressed (s : State) : ratings (resetPressed s) = ratings s := rfl
@[simp] theorem ratings_supervisionReload (s : State) : ratings (supervisionReload s) = ratings s := by
  unfold supervisionReload; split <;> simp
@[simp] theorem ratings_supervisionExpires (s : State) : ratings (supervisionExpires s) = ratings s := by
  simp only [supervisionExpires]; split
  · split
    · simp
    · split <;> simp
  · rfl
@[simp] theorem ratings_storeCompletes (s : State) : ratings (storeCompletes s) = ratings s := by
  unfold storeCompletes; split <;> rfl
@[simp] theorem ratings_clearMarks (k : Kind) (s : State) : ratings (clearMarks k s) = ratings s := by
  unfold clearMarks; split <;> simp
@[simp] theorem ratings_queueReply (kind tag : Byte) (st : Status) (c : List Byte) (r : Bool) (s : State) :
    ratings (queueReply kind tag st c r s) = ratings s := by
  simp only [queueReply]; split <;> rfl
@[simp] theorem ratings_acceptFrame (f : Frame) (s : State) : ratings (acceptFrame f s) = ratings s := by
  simp only [acceptFrame]; split <;> simp

/-! ## Yaw controller -/

@[simp] theorem ratings_endClearance (s : State) : ratings (endClearance s) = ratings s := rfl
@[simp] theorem ratings_judgeDwell (k : Option MoveKind) (b : Bool) (s : State) :
    ratings (judgeDwell k b s) = ratings s := by
  unfold judgeDwell; split
  · rfl
  · split
    · split <;> simp
    · split <;> simp
@[simp] theorem ratings_stopWaiting (s : State) : ratings (stopWaiting s) = ratings s := by simp [stopWaiting]
@[simp] theorem ratings_normalStop (s : State) : ratings (normalStop s) = ratings s := by
  unfold normalStop; split <;> simp
@[simp] theorem ratings_stopKind (k : MoveKind) (s : State) : ratings (stopKind k s) = ratings s := by
  unfold stopKind; split <;> simp
@[simp] theorem ratings_setOwner (o : Owner) (s : State) : ratings (setOwner o s) = ratings s := by
  simp only [setOwner]; split <;> simp
@[simp] theorem ratings_keyReaches (a b : KeyPos) (s : State) : ratings (keyReaches a b s) = ratings s := by
  simp only [keyReaches]; split
  · simp
  · split <;> simp
@[simp] theorem ratings_judgeDrives (s : State) : ratings (judgeDrives s) = ratings s := by simp [judgeDrives]
@[simp] theorem ratings_raiseTwistHard (s : State) : ratings (raiseTwistHard s) = ratings s := rfl
@[simp] theorem ratings_windowsAct (s : State) : ratings (windowsAct s) = ratings s := rfl
@[simp] theorem ratings_completeMove (b : Bool) (s : State) : ratings (completeMove b s) = ratings s := by
  simp [completeMove]
@[simp] theorem ratings_sensorStop (s : State) : ratings (sensorStop s) = ratings s := by
  unfold sensorStop; split
  · split <;> simp
  all_goals simp
@[simp] theorem ratings_brakeFailed (s : State) : ratings (brakeFailed s) = ratings s := by
  simp only [brakeFailed]; split
  · split <;> simp
  · simp
@[simp] theorem ratings_startMove (k : MoveKind) (d : Dir) (x : Option Int) (s : State) :
    ratings (startMove k d x s) = ratings s := by simp [startMove]
@[simp] theorem ratings_ventSettles (s : State) : ratings (ventSettles s) = ratings s := by
  unfold ventSettles; split
  · split <;> simp
  · rfl
@[simp] theorem ratings_pressurizeSettles (s : State) : ratings (pressurizeSettles s) = ratings s := by
  unfold pressurizeSettles; split
  · split <;> simp
  · rfl
@[simp] theorem ratings_rampSettles (s : State) : ratings (rampSettles s) = ratings s := by
  unfold rampSettles; split <;> simp
@[simp] theorem ratings_startUntwist (x : Int) (s : State) : ratings (startUntwist x s) = ratings s := by
  simp [startUntwist]
@[simp] theorem ratings_twistSensorFails (s : State) : ratings (twistSensorFails s) = ratings s := by
  simp [twistSensorFails]
@[simp] theorem ratings_applyHardLimit (s : State) : ratings (applyHardLimit s) = ratings s := by
  unfold applyHardLimit; split
  · rfl
  · split
    · split
      · split
        · simp only; split <;> simp
        · rfl
      all_goals simp
    · rfl
@[simp] theorem ratings_judgeSoftLimit (s : State) : ratings (judgeSoftLimit s) = ratings s := by
  unfold judgeSoftLimit; split
  · split <;> simp [untwistBecomesDue]
  · rfl
@[simp] theorem ratings_judgeUntwistEnd (s : State) : ratings (judgeUntwistEnd s) = ratings s := by
  unfold judgeUntwistEnd; split
  · split <;> simp
  · rfl
@[simp] theorem ratings_carryStop (s : State) (x : Int) : ratings (carryStop s x) = ratings s := by
  unfold carryStop; split
  · rfl
  · split
    · split <;> simp
    · rfl
@[simp] theorem ratings_applyTheta (s : State) : ratings (applyTheta s) = ratings s := by
  simp only [applyTheta]; split
  · simp
  · simp only [ratings_carryStop]; split <;> simp
@[simp] theorem ratings_encoderUpdate (r : EncoderReading) (s : State) : ratings (encoderUpdate r s) = ratings s := by
  simp only [encoderUpdate]; split
  · simp
  · split
    · split <;> simp
    · simp
@[simp] theorem ratings_sampleVanes (a b : Reading) (w : Nat) (s : State) : ratings (sampleVanes a b w s) = ratings s := by
  simp only [sampleVanes, apply_ite ratings, ratings_raise, ratings_clearFault, ratings_setFault, ratings_modYaw, ite_self]
@[simp] theorem ratings_sampleWind (a b : Reading) (w : Nat) (s : State) : ratings (sampleWind a b w s) = ratings s := by
  simp [sampleWind, formCap, formMeans]
@[simp] theorem ratings_clearBrakeFault (s : State) : ratings (clearBrakeFault s) = ratings s := by
  unfold clearBrakeFault; split <;> simp
@[simp] theorem ratings_testStops (s : State) : ratings (testStops s) = ratings s := by
  unfold testStops; split
  · simp
  · split <;> simp
@[simp] theorem ratings_testUntwistWait (w : Nat) (s : State) : ratings (testUntwistWait w s) = ratings s := by
  simp only [testUntwistWait]; split
  · split
    · split <;> simp
    · split <;> simp
  · rfl
@[simp] theorem ratings_testAutoStart (s : State) : ratings (testAutoStart s) = ratings s := by
  unfold testAutoStart; split
  · split
    · rfl
    · split <;> simp
  · rfl
@[simp] theorem ratings_testStarts (s : State) : ratings (testStarts s) = ratings s := by
  unfold testStarts; split
  · split <;> simp
  · simp
@[simp] theorem ratings_startClearanceMove (n : Nat) (x : Int) (s : State) :
    ratings (startClearanceMove n x s) = ratings s := by
  simp only [startClearanceMove]; split <;> simp
@[simp] theorem ratings_testClearance (s : State) : ratings (testClearance s) = ratings s := by
  unfold testClearance; split
  · rfl
  · split
    · rfl
    · split <;> simp
@[simp] theorem ratings_sampleMotion (w : Nat) (s : State) : ratings (sampleMotion w s) = ratings s := by
  simp only [sampleMotion]; split <;> simp
@[simp] theorem ratings_yawSample (a b : Reading) (w : Int) (s : State) : ratings (yawSample a b w s) = ratings s := by
  simp [yawSample]
@[simp] theorem ratings_takeManual (s : State) : ratings (takeManual s) = ratings s := rfl
@[simp] theorem ratings_jog (d : Dir) (s : State) : ratings (jog d s) = ratings s := by
  simp only [jog, ratings_modYaw]; split <;> simp
@[simp] theorem ratings_goTo (x y : Int) (s : State) : ratings (goTo x y s) = ratings s := by
  simp only [goTo]; split
  · split <;> simp
  · simp
@[simp] theorem ratings_manualStop (s : State) : ratings (manualStop s) = ratings s := by simp [manualStop]
@[simp] theorem ratings_manualAuto (s : State) : ratings (manualAuto s) = ratings s := by
  simp only [manualAuto]; split <;> simp
@[simp] theorem ratings_pressJog (d : Dir) (s : State) : ratings (pressJog d s) = ratings s := by
  simp only [pressJog]; split
  · split <;> simp
  · rfl
@[simp] theorem ratings_releaseJog (d : Dir) (s : State) : ratings (releaseJog d s) = ratings s := by
  unfold releaseJog; split <;> simp
@[simp] theorem ratings_manualTimeout (s : State) : ratings (manualTimeout s) = ratings s := by
  unfold manualTimeout; split <;> simp
@[simp] theorem ratings_driveFails (c : Fin 10) (s : State) : ratings (driveFails c s) = ratings s := by
  simp only [driveFails]; split <;> simp
@[simp] theorem ratings_returnDrives (l : List (Fin 10)) (s : State) : ratings (returnDrives l s) = ratings s := by
  simp only [returnDrives, ratings_judgeDrives]
  rw [ratings_forEach (by intro c t; simp)]
  simp
@[simp] theorem ratings_clearanceBecomesDue (s : State) : ratings (clearanceBecomesDue s) = ratings s := by
  unfold clearanceBecomesDue; split
  · rfl
  · split <;> simp
@[simp] theorem ratings_setReference (x : Int) (a : Nat) (s : State) : ratings (setReference x a s) = ratings s := by
  simp only [setReference, ratings_clearanceBecomesDue, ratings_judgeUntwistEnd, ratings_judgeSoftLimit,
    ratings_clearFault, ratings_windowsAct]
  rfl
@[simp] theorem ratings_applyTwistLimits (old : Settings) (s : State) : ratings (applyTwistLimits old s) = ratings s := by
  simp only [applyTwistLimits]
  split <;> split <;> simp
@[simp] theorem ratings_untwistWaitExpires (s : State) : ratings (untwistWaitExpires s) = ratings s := by
  simp only [untwistWaitExpires]; split
  · split <;> simp
  · rfl
@[simp] theorem ratings_commandUntwist (x : Int) (s : State) : ratings (commandUntwist x s) = ratings s := by
  simp only [commandUntwist]; split <;> simp [untwistBecomesDue]
@[simp] theorem ratings_watchProof (p : BrakeProof) (b : Bool) (s : State) : ratings (watchProof p b s) = ratings s := by
  unfold watchProof; split <;> simp
@[simp] theorem ratings_proofLost (p : BrakeProof) (s : State) : ratings (proofLost p s) = ratings s := by
  unfold proofLost; split
  · split <;> simp
  · split <;> simp

end Sys2Proof.Machine

/-! SUPPORT. The energy within the capacity and the powers within their ranges: the share interval and the accounting by their arithmetic, every other command by leaving them alone, and a start by its start values (R15, R16, R20, R21, R92, R97). -/

namespace Sys2Proof.Machine

/-! ## The relation every command meets -/

/-- `t` is reached from `s` with the powers and the energy kept in their ranges, and off Grid with no energy gained. -/
structure Bounded (s t : State) : Prop where
  power : PowerSound s → PowerSound t
  energy : EnergySound s → EnergySound t
  falls : s.aux.source ≠ .grid → t.retained.energy ≤ s.retained.energy

theorem powerSound_congr {s t : State} (hrequest : t.conv.request = s.conv.request)
    (hgranted : t.conv.granted = s.conv.granted) (h : PowerSound s) : PowerSound t := by
  simpa only [PowerSound, hrequest, hgranted] using h

theorem Bounded.of_fields {s t : State} (hrequest : t.conv.request = s.conv.request)
    (hgranted : t.conv.granted = s.conv.granted) (henergy : t.retained.energy = s.retained.energy) : Bounded s t where
  power := powerSound_congr hrequest hgranted
  energy h := henergy.trans_le h
  falls _ := henergy.le

theorem Bounded.of_ratings {s t : State} (h : ratings t = ratings s) : Bounded s t := by
  obtain ⟨hrequest, hgranted, -, henergy⟩ := ratings_fields h
  exact .of_fields hrequest hgranted henergy

theorem Bounded.refl (s : State) : Bounded s s := .of_ratings rfl

/-- Around a bounded change, what leaves the ratings alone does not count. -/
theorem Bounded.between {s s' t t' : State} (h : Bounded s t) (hs : ratings s = ratings s') (ht : ratings t' = ratings t) :
    Bounded s' t' := by
  obtain ⟨hrequest, hgranted, hsource, henergy⟩ := ratings_fields hs
  have hafter := Bounded.of_ratings ht
  have henergy' : t'.retained.energy = t.retained.energy := (ratings_fields ht).2.2.2
  refine ⟨fun hp => hafter.power (h.power (powerSound_congr hrequest hgranted hp)),
    fun he => hafter.energy (h.energy (henergy.trans_le he)), fun hoff => ?_⟩
  rw [henergy', ← henergy]
  exact h.falls (hsource.trans_ne hoff)

/-- An operation of the grid monitor, which may change the source but writes no power and no energy. -/
theorem Bounded.of_grid {s t : State} (h : GridStep s t) (hbase : base t = base s) : Bounded s t := by
  simp only [base, Prod.mk.injEq] at hbase
  obtain ⟨-, -, -, -, -, -, hretained⟩ := hbase
  exact .of_fields h.request h.granted (congrArg Retained.energy hretained)

/-- An answer of the budget to the grid, which may change the source but writes no power and no energy. -/
theorem Bounded.of_budget {s t : State} (h : BudgetStep s t) : Bounded s t :=
  .of_fields (h.field (f := fun u => u.conv.request) fun _ _ _ => rfl)
    (h.field (f := fun u => u.conv.granted) fun _ _ _ => rfl) (h.field (f := fun u => u.retained.energy) fun _ _ _ => rfl)

/-- An event whose own effect is bounded. -/
theorem bounded_event {f : State → State} (hf : ∀ u, Bounded u (f u)) {s s' : State} (hs : ratings s' = ratings s) :
    Bounded s (event f s') := by
  unfold event
  split
  · exact (hf (beginEvent s')).between hs (ratings_finish _)
  · exact .of_ratings hs

/-- An event with its reactions, whose own effect is bounded. -/
theorem bounded_react {f : State → State} (hf : ∀ u, Bounded u (f u)) {s s' : State} (hs : ratings s' = ratings s) :
    Bounded s (react f s') :=
  bounded_event (fun u => (hf u).between rfl (ratings_settle (f u))) hs

/-! ## The granted powers (R20, R21) -/

theorem moveToward_within {value target low high : Int} (step : Nat) (hv : low ≤ value ∧ value ≤ high)
    (ht : low ≤ target ∧ target ≤ high) :
    low ≤ moveToward value target step ∧ moveToward value target step ≤ high := by
  unfold moveToward
  split
  · exact ht
  · split <;> omega

theorem limitMagnitude_le (x : Int) (limit : Nat) : (limitMagnitude x limit).natAbs ≤ x.natAbs := by
  unfold limitMagnitude; split <;> omega

/-- Neither priority grants more than is asked for. -/
theorem grantPQ_le (pr qr : Int) (capacity : Nat) (prio : Priority) :
    (grantPQ pr qr capacity prio).1 ≤ pr ∧ (grantPQ pr qr capacity prio).2.natAbs ≤ qr.natAbs := by
  unfold grantPQ
  split
  · exact ⟨le_rfl, le_rfl⟩
  · cases prio with
    | p => exact ⟨min_le_left _ _, limitMagnitude_le _ _⟩
    | q => exact ⟨min_le_left _ _, limitMagnitude_le _ _⟩

theorem injection_le (s : State) (deviation : Nat) : injection s deviation ≤ 7000 := min_le_left _ _

theorem demandQ_within {s : State} (h : -7000 ≤ s.conv.request.q ∧ s.conv.request.q ≤ 7000) :
    -7000 ≤ demandQ s ∧ demandQ s ≤ 7000 := by
  have hlow := injection_le s (900 - s.grid.u)
  have hhigh := injection_le s (s.grid.u - 1100)
  unfold demandQ
  split
  · omega
  · split
    · omega
    · exact h

/-- The granted record lies in the ranges of the request and the injection. -/
theorem grantedNow_ranges {s : State} (h : PowerSound s) :
    (0 ≤ (grantedNow s).p ∧ (grantedNow s).p ≤ 15000) ∧ (-7000 ≤ (grantedNow s).q ∧ (grantedNow s).q ≤ 7000) := by
  obtain ⟨hreqP, hreqQ, -, -, hp, hq⟩ := h
  obtain ⟨-, hpos⟩ := grantedNow_within hreqP.1 hp.1
  have hrampedP : 0 ≤ rampedP s ∧ rampedP s ≤ 15000 := moveToward_within _ hp hreqP
  have hrampedQ : -7000 ≤ rampedQ s ∧ rampedQ s ≤ 7000 := moveToward_within _ hq (demandQ_within hreqQ)
  obtain ⟨hleP, hleQ⟩ := grantPQ_le (rampedP s) (rampedQ s) (capEff s) (priorityNow s)
  refine ⟨⟨hpos, ?_⟩, ?_⟩
  · simp only [grantedNow]
    split <;> omega
  · simp only [grantedNow]
    omega

theorem powerSound_shareInterval {s : State} (h : PowerSound s) : PowerSound (shareInterval s) := by
  have hrequest : (shareInterval s).conv.request = s.conv.request := context_request (context_shareInterval s)
  obtain ⟨hzero, hshared⟩ := shareInterval_granted_cases s
  have hbefore : PowerSound (beforeSharing s) := (Bounded.of_ratings (ratings_beforeSharing s)).power h
  obtain ⟨hreqP, hreqQ, hrampP, hrampQ, -, -⟩ := h
  rw [PowerSound, hrequest]
  refine ⟨hreqP, hreqQ, hrampP, hrampQ, ?_⟩
  by_cases hgen : s.mode.current = .generating
  · rw [hshared hgen]
    exact grantedNow_ranges hbefore
  · rw [hzero hgen]
    decide

theorem bounded_shareInterval (s : State) : Bounded s (shareInterval s) := by
  have hbase := base_shareInterval s
  simp only [base, Prod.mk.injEq] at hbase
  obtain ⟨-, -, -, -, -, -, hretained⟩ := hbase
  exact ⟨powerSound_shareInterval, fun h => by rwa [EnergySound, hretained], fun _ => by rw [hretained]⟩

/-! ## The battery energy (R92) -/

theorem energyAfter_eq (s : State) :
    energyAfter s = if s.aux.source = .grid then min 648000 (s.retained.energy + grantOf s .charger)
      else s.retained.energy - ((claimList.map (grantOf s)).sum + s.store.working.controlReserve +
        s.store.working.brakeReserve) := by
  unfold energyAfter
  cases s.aux.source <;> rfl

/-- A written energy is bounded where it lies within the capacity and, off Grid, does not rise. -/
theorem bounded_writeEnergy {n : Nat} {s : State} (hcap : EnergySound s → n ≤ 648000)
    (hfalls : s.aux.source ≠ .grid → n ≤ s.retained.energy) : Bounded s (writeEnergy n s) :=
  ⟨id, hcap, hfalls⟩

theorem ratings_accountCharger (s : State) : ratings (accountCharger s) = ratings s := by
  unfold accountCharger
  split <;> simp

theorem bounded_accountBattery (s : State) : Bounded s (accountBattery s) := by
  have hwrite : Bounded s (writeEnergy (energyAfter s) s) := by
    refine bounded_writeEnergy (fun h => ?_) fun hoff => ?_
    · have hcap : s.retained.energy ≤ 648000 := h
      rw [energyAfter_eq]
      split <;> omega
    · rw [energyAfter_eq, if_neg hoff]
      exact Nat.sub_le _ _
  exact hwrite.between rfl ((ratings_accountCharger _).trans (ratings_judgeMarks _))

/-! ## Requests -/

/-- A bounded change that leaves the source: several of them in a row are bounded. -/
structure Answers (s t : State) : Prop extends Bounded s t where
  source : t.aux.source = s.aux.source

theorem Answers.of_ratings {s t : State} (h : ratings t = ratings s) : Answers s t :=
  ⟨.of_ratings h, (ratings_fields h).2.2.1⟩

theorem Answers.refl (s : State) : Answers s s := .of_ratings rfl

theorem Answers.trans {s t u : State} (h : Answers s t) (h' : Answers t u) : Answers s u where
  power hp := h'.power (h.power hp)
  energy he := h'.energy (h.energy he)
  falls hoff := (h'.falls (h.source.trans_ne hoff)).trans (h.falls hoff)
  source := h'.source.trans h.source

@[simp] theorem ratings_accept (s : State) : ratings (accept s).2 = ratings s := ratings_settle s
@[simp] theorem ratings_acceptClamped (b : Bool) (s : State) : ratings (acceptClamped b s).2 = ratings s := ratings_settle s
@[simp] theorem ratings_refuse (st : Status) (s : State) : ratings (refuse st s).2 = ratings s := rfl

theorem requestOf_ranges (body : List Byte) :
    (0 ≤ (requestOf body).p ∧ (requestOf body).p ≤ 15000) ∧ (-7000 ≤ (requestOf body).q ∧ (requestOf body).q ≤ 7000) ∧
    (1 ≤ (requestOf body).rampP ∧ (requestOf body).rampP ≤ 1500) ∧
    (1 ≤ (requestOf body).rampQ ∧ (requestOf body).rampQ ≤ 7000) := by
  simp only [requestOf, clampInt, clampNat, Config.pMax, Config.qMax]
  omega

theorem answers_serveSetPower (body : List Byte) (s : State) : Answers s (serveSetPower body s).2 := by
  unfold serveSetPower
  split
  · exact .refl s
  · obtain ⟨hp, hq, hrampP, hrampQ⟩ := requestOf_ranges body
    exact ⟨⟨fun ⟨_, _, _, _, hgranted⟩ => ⟨hp, hq, hrampP, hrampQ, hgranted⟩, id, fun _ => le_rfl⟩, rfl⟩

theorem answers_serveSetBatteryEnergy (body : List Byte) (s : State) : Answers s (serveSetBatteryEnergy body s).2 := by
  simp only [serveSetBatteryEnergy]
  split
  · exact .refl s
  · split
    · exact .refl s
    · next hlet =>
      have hwrite : Answers s (writeEnergy (min (longAt body 0).toNat Config.batteryCapacity) s) :=
        ⟨bounded_writeEnergy (fun _ => min_le_right _ _) fun hoff => Nat.le_of_not_lt fun hrise => hlet ⟨hoff, hrise⟩, rfl⟩
      exact hwrite.trans (.of_ratings (by simp))

theorem ratings_applySetting (i : SettingId) (old : Settings) (s : State) : ratings (applySetting i old s) = ratings s := by
  cases i
  case td | tx => exact ratings_applyThermalSettings s
  case softLimit | hardLimit => exact ratings_applyTwistLimits old s
  all_goals rfl

theorem ratings_serveSetting (i : SettingId) (x : Int) (s : State) : ratings (serveSetting i x s).2 = ratings s := by
  simp only [serveSetting]
  repeat' split
  all_goals simp only [ratings_refuse, ratings_acceptClamped, ratings_applySetting, ratings_modWorking]

theorem ratings_serveYawCommand (body : List Byte) (s : State) : ratings (serveYawCommand body s).2 = ratings s := by
  simp only [serveYawCommand, serveJog, serveGoTo, serveYawStop, serveYawAuto, serveUntwist]
  repeat' split
  all_goals simp only [ratings_refuse, ratings_accept, ratings_jog, ratings_goTo, ratings_manualStop, ratings_manualAuto,
    ratings_commandUntwist]

/-- No request but SetPower and SetBatteryEnergy writes a power, the source or the energy. -/
theorem ratings_serve {k : Kind} (hpower : k ≠ .setPower) (henergy : k ≠ .setBatteryEnergy) (body : List Byte) (s : State) :
    ratings (serve k body s).2 = ratings s := by
  cases k
  case setPower => exact absurd rfl hpower
  case setBatteryEnergy => exact absurd rfl henergy
  case yawCommand => exact ratings_serveYawCommand body s
  case setStringEnable =>
    simp only [serve, serveSetStringEnable]
    repeat' split
    all_goals simp only [ratings_refuse, ratings_accept]
    · exact ratings_turnString true _ s
    · exact ratings_turnString false _ s
  case setSetting =>
    simp only [serve, serveSetSetting]
    repeat' split
    all_goals simp only [ratings_refuse, ratings_serveSetting]
  case setMode | claimControl | armGridMonitor | setCooling | setAuxReserves | setHoist | setDriveSlots | setTwistReference |
      ackFault =>
    simp only [serve, serveSetMode, serveClaimControl, serveArmGridMonitor, serveSetCooling, serveLiquidCooling,
      serveSetAuxReserves, serveSetHoist, serveSetDriveSlots, serveSetTwistReference, serveAckFault]
    repeat' split
    all_goals simp
  all_goals
    simp only [serve, serveRead, serveSetTime, serveRestart, serveEnableSupervision, serveSetRideThrough,
      serveSetYawPolicy, serveSetNoDwellWindow, serveGetFaults, serveSetFaultClass, serveGetSnapshot,
      serveClearSnapshot, serveClearCounts, serveGetSetting, serveStoreSettings, serveLockSettings]
    repeat' split
    all_goals rfl

theorem answers_serve (k : Kind) (body : List Byte) (s : State) : Answers s (serve k body s).2 := by
  by_cases hpower : k = .setPower
  · subst hpower
    exact answers_serveSetPower body s
  · by_cases henergy : k = .setBatteryEnergy
    · subst henergy
      exact answers_serveSetBatteryEnergy body s
    · exact .of_ratings (ratings_serve hpower henergy body s)

theorem answers_serveFrame (f : Frame) (s : State) : Answers s (serveFrame f s) := by
  simp only [serveFrame]
  split
  · next k _ _ => exact (answers_serve k f.body s).trans (.of_ratings (by simp))
  · exact .of_ratings (ratings_queueReply _ _ _ _ _ s)
  · exact .refl s

theorem answers_pump (n : Nat) (s : State) : Answers s (pump n s) := by
  induction n generalizing s with
  | zero => exact .refl s
  | succ n ih =>
    rw [pump]
    split
    · split
      · exact .refl s
      · exact ((Answers.of_ratings (ratings_modLink _ s)).trans (answers_serveFrame _ _)).trans (ih _)
    · exact .refl s

theorem answers_takeFrame (f : Frame) (s : State) : Answers s (takeFrame f s) :=
  (Answers.of_ratings (ratings_acceptFrame f s)).trans (answers_pump 9 _)

theorem answers_parserEffects (l : List ParserEvent) (s : State) : Answers s (parserEffects l s) := by
  refine forEach_keeps (P := Answers s) (fun e t ht => ht.trans ?_) l s (.refl s)
  cases e with
  | discarded => exact .of_ratings rfl
  | accepted f => exact answers_takeFrame f t

theorem answers_takeByte (b : Byte) (time : Nat) (s : State) : Answers s (takeByte b time s) :=
  (Answers.of_ratings (ratings_modLink _ s)).trans (answers_parserEffects _ _)

theorem answers_takeGap (s : State) : Answers s (takeGap s) :=
  (Answers.of_ratings (ratings_modLink _ s)).trans (answers_parserEffects _ _)

theorem answers_endBreak (s : State) : Answers s (endBreak s) :=
  (Answers.of_ratings (ratings_modLink _ s)).trans (answers_pump 9 _)

/-! ## Starts -/

theorem ratings_startRows (twistLost imageLost : Bool) (s : State) : ratings (startRows twistLost imageLost s) = ratings s := by
  have hclears (l : List Nat) (t : State) : ratings (forEach l (clearFault .yawDrive) t) = ratings t :=
    ratings_forEach (fun u v => ratings_clearFault .yawDrive u v) l t
  simp only [startRows, apply_ite ratings, ratings_raise, ratings_clearFault, ratings_setFault, hclears, ite_self]

theorem ratings_startSettles (twistLost imageLost : Bool) (s : State) :
    ratings (startSettles twistLost imageLost s) = ratings s := by
  unfold startSettles
  extract_lets marked cleared rows aux claims withYaw charged walked
  have hwalked : ratings walked = ratings charged := by
    unfold walked
    split
    · exact ratings_runWalk charged
    · rfl
  calc ratings walked = ratings charged := hwalked
    _ = ratings withYaw := ratings_judgeCharger withYaw
    _ = ratings cleared := ratings_startRows twistLost imageLost cleared

/-- Powers at their start values are in range; the energy, which a start keeps or loses, does not rise. -/
theorem bounded_started {s t : State} (hrequest : t.conv.request = Converter.atStart.request)
    (hgranted : t.conv.granted = Converter.atStart.granted) (henergy : t.retained.energy ≤ s.retained.energy) :
    Bounded s t where
  power _ := by
    rw [PowerSound, hrequest, hgranted]
    decide
  energy h := henergy.trans h
  falls _ := henergy

theorem bounded_startSettles {s u : State} (twistLost imageLost : Bool) (h : Bounded s u) :
    Bounded s (startSettles twistLost imageLost u) := h.between rfl (ratings_startSettles twistLost imageLost u)

theorem bounded_warmRestart {s s' : State} (reading : Nat) (h : s'.retained = s.retained) :
    Bounded s (warmRestart reading s') :=
  bounded_startSettles false false (bounded_started rfl rfl (congrArg Retained.energy h).le)

theorem bounded_coldStart (reading : Nat) (s : State) : Bounded s (coldStart reading s) := by
  unfold coldStart
  refine bounded_startSettles _ _ (bounded_started rfl rfl ?_)
  show (if s.retained.energyCheck then s.retained.energy else 0) ≤ s.retained.energy
  split
  · exact le_rfl
  · exact Nat.zero_le _

theorem bounded_powerFails (s : State) : Bounded s (powerFails s) := bounded_started rfl rfl le_rfl

/-! ## The line, where a start may begin -/

theorem bounded_frameLeaves (s : State) : Bounded s (frameLeaves s) := by
  simp only [frameLeaves]
  split
  · exact .refl s
  · split
    · exact bounded_warmRestart _ rfl
    · exact (answers_pump 9 _).toBounded.between (ratings_modLink _ s) (ratings_finish _)

theorem bounded_breakLine (s : State) : Bounded s (breakLine s) := by
  simp only [breakLine]
  split
  · exact bounded_warmRestart _ rfl
  · exact .of_ratings ((ratings_finish _).trans rfl)

/-! ## Every command -/

theorem ratings_runOnOf (l : LoopId) (s : State) : ratings (runOnOf l s) = ratings s := by
  cases l
  · exact ratings_runOnExpires .l1 s
  · exact ratings_runOnExpires .l2 s
  · exact ratings_runOnExpires3 s

theorem ratings_holdButton (d : Dir) (held : Bool) (s : State) : ratings (holdButton d held s) = ratings s := by
  cases d <;> rfl

theorem ratings_showProof (p : BrakeProof) (present : Bool) (s : State) : ratings (showProof p present s) = ratings s := by
  cases p <;> rfl

/-! ### The grid and the budget -/

theorem bounded_gridSample (reading : Nat) (s : State) : Bounded s (gridSample reading s) := by
  have hjudged : ratings (judgeMonitors (takeVoltage reading s)) = ratings s := by
    simp [judgeMonitors, takeVoltage]
  obtain ⟨hrequest, hgranted, -, -⟩ := ratings_fields hjudged
  have hstep := gridStep_gridSample reading s
  have hbase := base_gridSample reading s
  simp only [base, Prod.mk.injEq] at hbase
  obtain ⟨-, -, -, -, -, -, hretained⟩ := hbase
  exact .of_fields (hstep.request.trans hrequest) (hstep.granted.trans hgranted) (congrArg Retained.energy hretained)

theorem bounded_lostBy {c : FaultCode} {s : State} (h : s.grid.m3.beyond = false → c ≠ .gridOv) :
    Bounded s (lostBy c s) := .of_grid (gridStep_lostBy h) (base_lostBy c s)

theorem bounded_rideThroughEnds (s : State) : Bounded s (rideThroughEnds s) := by
  unfold rideThroughEnds
  split
  · split
    · exact .refl s
    · exact bounded_lostBy fun _ => by decide
  · exact .refl s

theorem bounded_overTimesOut (s : State) : Bounded s (overTimesOut s) := by
  unfold overTimesOut
  split
  · next h => exact bounded_lostBy fun hwithin => absurd h.1 (by simp [hwithin])
  · exact .refl s

theorem bounded_recoveryTimesOut (s : State) : Bounded s (recoveryTimesOut s) := by
  unfold recoveryTimesOut
  split
  · exact .of_grid (gridStep_recoveryEnds s) (base_recoveryEnds s)
  · exact .refl s

theorem bounded_dwellCompletes (s : State) : Bounded s (dwellCompletes s) := by
  unfold dwellCompletes
  split
  · exact .of_grid (gridStep_gridReturns s) (base_gridReturns s)
  · exact .refl s

theorem bounded_bridgeExpires (s : State) : Bounded s (bridgeExpires s) := by
  unfold bridgeExpires
  split
  · exact .of_budget (budgetStep_sourceToBattery s)
  · exact .refl s

theorem bounded_normalCountExpires (s : State) : Bounded s (normalCountExpires s) := by
  unfold normalCountExpires
  split
  · exact .of_budget (budgetStep_sourceToGrid s)
  · exact .refl s

/-! ### The dispatch -/

theorem react_of_ratings {f : State → State} (hf : ∀ u, ratings (f u) = ratings u) {s s' : State}
    (hs : ratings s' = ratings s) : Bounded s (react f s') := bounded_react (fun u => .of_ratings (hf u)) hs

theorem event_of_ratings {f : State → State} (hf : ∀ u, ratings (f u) = ratings u) {s s' : State}
    (hs : ratings s' = ratings s) : Bounded s (event f s') := bounded_event (fun u => .of_ratings (hf u)) hs

/-- Every command keeps powers and energy in their ranges, and off Grid gains no energy. -/
theorem bounded_exec (c : Instr) (s : State) : ∃ t, exec c s = .next t ∧ Bounded s t := by
  cases c
  case coldStart u => exact ⟨_, rfl, bounded_coldStart u s⟩
  case warmRestart u =>
    refine ⟨_, rfl, ?_⟩
    split
    · exact bounded_warmRestart u rfl
    · exact .refl s
  case powerFailure => exact ⟨_, rfl, bounded_powerFails s⟩
  case byteArrival b time => exact ⟨_, rfl, bounded_event (fun u => (answers_takeByte b time u).toBounded) rfl⟩
  case frameGapTimeout => exact ⟨_, rfl, bounded_event (fun u => (answers_takeGap u).toBounded) rfl⟩
  case frameSent =>
    refine ⟨_, rfl, ?_⟩
    split
    · exact (bounded_frameLeaves (beginEvent s)).between rfl rfl
    · exact .refl s
  case linkBreak =>
    refine ⟨_, rfl, ?_⟩
    split
    · exact (bounded_breakLine (beginEvent (setLines (fun l => { l with lineAtBreak := true }) s))).between rfl rfl
    · exact .of_ratings rfl
  case linkBreakEnd => exact ⟨_, rfl, bounded_event (fun u => (answers_endBreak u).toBounded) rfl⟩
  case takeModeNotice =>
    exact ⟨_, rfl, event_of_ratings (fun u => ratings_of_outside (outside_takeModeNotice u)) rfl⟩
  case takeFaultNotice =>
    exact ⟨_, rfl, event_of_ratings (fun u => ratings_of_outside (outside_takeFaultNotice u)) rfl⟩
  case supervisionTimerExpiry => exact ⟨_, rfl, react_of_ratings ratings_supervisionExpires rfl⟩
  case stringReport k i u bad => exact ⟨_, rfl, react_of_ratings (ratings_takeReport k i u bad) rfl⟩
  case prechargeTimeout => exact ⟨_, rfl, react_of_ratings (ratings_forEach ratings_timeoutPrecharge _) rfl⟩
  case shareInterval => exact ⟨_, rfl, bounded_react bounded_shareInterval rfl⟩
  case gridSample u => exact ⟨_, rfl, bounded_react (bounded_gridSample u) rfl⟩
  case dipListAging => exact ⟨_, rfl, event_of_ratings ratings_ageDips rfl⟩
  case rideThroughExceeded => exact ⟨_, rfl, bounded_react bounded_rideThroughEnds rfl⟩
  case qHoldEnd => exact ⟨_, rfl, event_of_ratings ratings_qHoldEnds rfl⟩
  case recoveryTimeout => exact ⟨_, rfl, bounded_react bounded_recoveryTimesOut rfl⟩
  case overvoltageTimeout => exact ⟨_, rfl, bounded_react bounded_overTimesOut rfl⟩
  case returnDwellComplete => exact ⟨_, rfl, bounded_react bounded_dwellCompletes rfl⟩
  case thermalInterval x y => exact ⟨_, rfl, react_of_ratings (ratings_thermalInterval x y) rfl⟩
  case inletSubstitute l => exact ⟨_, rfl, event_of_ratings (ratings_substituteInlet l) rfl⟩
  case flowSwitchChange l flow =>
    refine ⟨_, rfl, ?_⟩
    split
    · exact react_of_ratings (ratings_flowChange l flow) rfl
    · exact .of_ratings rfl
  case flowProofTimeout l => exact ⟨_, rfl, react_of_ratings (ratings_proofTimeout l) rfl⟩
  case flowDropTimeout l => exact ⟨_, rfl, react_of_ratings (ratings_dropTimeout l) rfl⟩
  case coolingEvaluation a b air h => exact ⟨_, rfl, react_of_ratings (ratings_coolingEvaluation a b air h) rfl⟩
  case airSensorSubstitute => exact ⟨_, rfl, react_of_ratings ratings_airSubstitution rfl⟩
  case runOnExpiry l => exact ⟨_, rfl, react_of_ratings (ratings_runOnOf l) rfl⟩
  case fanFeedbackChange f running => exact ⟨_, rfl, react_of_ratings (fun _ => rfl) (ratings_modFan f _ s)⟩
  case fanMismatchExpiry f => exact ⟨_, rfl, react_of_ratings (ratings_fanFails f) rfl⟩
  case bridgeTimerExpiry => exact ⟨_, rfl, bounded_react bounded_bridgeExpires rfl⟩
  case normalCountExpiry => exact ⟨_, rfl, bounded_react bounded_normalCountExpires rfl⟩
  case batteryAccounting => exact ⟨_, rfl, bounded_react bounded_accountBattery rfl⟩
  case yawSample a b w => exact ⟨_, rfl, react_of_ratings (ratings_yawSample a b w) rfl⟩
  case brakeVentExpiry => exact ⟨_, rfl, react_of_ratings ratings_ventSettles rfl⟩
  case brakePressurizeExpiry => exact ⟨_, rfl, react_of_ratings ratings_pressurizeSettles rfl⟩
  case brakeProofChange p present =>
    exact ⟨_, rfl, event_of_ratings (ratings_watchProof p present) (ratings_showProof p present s)⟩
  case brakeProofAbsenceExpiry p => exact ⟨_, rfl, react_of_ratings (ratings_proofLost p) rfl⟩
  case rampingExpiry => exact ⟨_, rfl, react_of_ratings ratings_rampSettles rfl⟩
  case manualTimerExpiry => exact ⟨_, rfl, react_of_ratings ratings_manualTimeout rfl⟩
  case restTimerExpiry => exact ⟨_, rfl, event_of_ratings (ratings_modYaw _) rfl⟩
  case driveFeedbackChange c running => exact ⟨_, rfl, react_of_ratings (fun _ => rfl) (ratings_modYaw _ s)⟩
  case driveMismatchExpiry c => exact ⟨_, rfl, react_of_ratings (ratings_driveFails c) rfl⟩
  case jogButtonPress d =>
    refine ⟨_, rfl, react_of_ratings (fun u => ?_) (ratings_holdButton d true s)⟩
    split
    · exact ratings_releaseJog _ u
    · exact ratings_pressJog d u
  case jogButtonRelease d => exact ⟨_, rfl, react_of_ratings (ratings_releaseJog d) (ratings_holdButton d false s)⟩
  case encoderUpdate r => exact ⟨_, rfl, react_of_ratings (ratings_encoderUpdate r) rfl⟩
  case untwistWaitExpiry => exact ⟨_, rfl, react_of_ratings ratings_untwistWaitExpires rfl⟩
  case calmTimerExpiry => exact ⟨_, rfl, react_of_ratings ratings_calmExpires rfl⟩
  case idleLimitExpiry => exact ⟨_, rfl, react_of_ratings ratings_idleLimitExpires rfl⟩
  case estopChainOpen => exact ⟨_, rfl, react_of_ratings ratings_estopOpens rfl⟩
  case estopChainClose => exact ⟨_, rfl, event_of_ratings (ratings_clearFault .estop 1) rfl⟩
  case keySwitch p => exact ⟨_, rfl, react_of_ratings (ratings_keyReaches s.lines.key p) rfl⟩
  case resetButton => exact ⟨_, rfl, react_of_ratings ratings_resetPressed rfl⟩
  case storeCompletion => exact ⟨_, rfl, event_of_ratings ratings_storeCompletes rfl⟩
  all_goals exact ⟨_, rfl, bounded_event (fun u => (answers_takeFrame _ u).toBounded) rfl⟩

theorem bounded_idle (s : State) : Bounded s (idle s) := by
  unfold idle
  split
  · exact .of_ratings rfl
  · exact .refl s

/-- Settles O57: a command by `bounded_exec`, an idle millisecond by `bounded_idle`. -/
theorem stepKeepsEnergyAndPowerInRange : Obligations.StepKeepsEnergyAndPowerInRange := by
  unfold Obligations.StepKeepsEnergyAndPowerInRange
  intro s t ⟨henergy, hpower⟩ hstep
  have hbounded : Bounded s t := by
    unfold step at hstep
    split at hstep
    · obtain rfl := Host.Outcome.next.inj hstep
      exact bounded_idle s
    · next c rest _ =>
      obtain ⟨u, hexec, hbounded⟩ := bounded_exec c { s with pending := rest }
      obtain rfl := Host.Outcome.next.inj (hexec.symm.trans hstep)
      exact hbounded.between rfl rfl
  exact ⟨hbounded.energy henergy, hbounded.power hpower⟩

end Sys2Proof.Machine

/-! SUPPORT. The walk claim by claim: what one claim is granted out of what remains, and what a walk over claims named once leaves of each (R83, R84). -/

namespace Sys2Proof.Machine

/-! ## One claim -/

theorem grantFrom_le (s : State) (c : Claim) (id : ClaimId) (n : Nat) : grantFrom s c id n ≤ n := by
  simp only [grantFrom]
  split <;> omega

theorem grantFrom_floor_ceiling (s : State) (c : Claim) (id : ClaimId) (n : Nat) :
    grantFrom s c id n = 0 ∨ c.floor ≤ grantFrom s c id n ∧ grantFrom s c id n ≤ c.ceiling := by
  simp only [grantFrom]
  split
  · next hfloor => exact .inr ⟨hfloor, Nat.min_le_left _ _⟩
  · exact .inl rfl

theorem grantFrom_of_capped {s : State} {id : ClaimId} (h : markCap s id = some 0) (c : Claim) (n : Nat) :
    grantFrom s c id n = 0 := by
  simp [grantFrom, h]

/-- Under the critical mark no Motion claim but yaw's is granted (R84). -/
theorem markCap_motion {s : State} {id : ClaimId} (hsource : s.aux.source = .battery) (hmark : s.aux.criticalMark = true)
    (hclass : claimClass id = .motion) (hyaw : id ≠ .yaw) : markCap s id = some 0 := by
  simp [markCap, hsource, hmark, hclass, hyaw]

/-! ## The walk -/

/-- The claims once one claim has its grant. -/
def grantOne (s : State) (c : Claims) (id : ClaimId) (n : Nat) : Claims :=
  c.set id { c.get id with grant := grantFrom s (c.get id) id n }

theorem grantOne_get_self (s : State) (c : Claims) (id : ClaimId) (n : Nat) :
    (grantOne s c id n).get id = { c.get id with grant := grantFrom s (c.get id) id n } := claims_get_set_self _ _ _

theorem grantOne_get_ne {id j : ClaimId} (h : id ≠ j) (s : State) (c : Claims) (n : Nat) :
    (grantOne s c j n).get id = c.get id := claims_get_set_ne h _ _

theorem allocate_cons (s : State) (id : ClaimId) (l : List ClaimId) (c : Claims) (n : Nat) :
    allocate s (id :: l) c n = allocate s l (grantOne s c id n) (n - grantFrom s (c.get id) id n) := rfl

theorem allocate_get_of_not_mem (s : State) {l : List ClaimId} {id : ClaimId} (h : id ∉ l) (c : Claims) (n : Nat) :
    (allocate s l c n).1.get id = c.get id := by
  induction l generalizing c n with
  | nil => rfl
  | cons j l ih =>
    obtain ⟨hne, hl⟩ := List.ne_and_not_mem_of_not_mem_cons h
    rw [allocate_cons, ih hl, grantOne_get_ne hne]

/-- A claim named once keeps the grant it takes at its own place, out of what then remains. -/
theorem allocate_get_of_mem (s : State) {l : List ClaimId} (hl : l.Nodup) {id : ClaimId} (h : id ∈ l) (c : Claims) (n : Nat) :
    ∃ m, (allocate s l c n).1.get id = { c.get id with grant := grantFrom s (c.get id) id m } := by
  induction l generalizing c n with
  | nil => cases h
  | cons j l ih =>
    obtain ⟨hj, hl⟩ := List.nodup_cons.mp hl
    rw [allocate_cons]
    rcases List.mem_cons.mp h with rfl | hmem
    · exact ⟨n, by rw [allocate_get_of_not_mem s hj, grantOne_get_self]⟩
    · have hne : id ≠ j := fun he => hj (he ▸ hmem)
      simpa only [grantOne_get_ne hne] using ih hl hmem (grantOne s c j n) (n - grantFrom s (c.get j) j n)

/-- The grants of a walk and what it leaves add up to what it started with. -/
theorem allocate_conserves (s : State) {l : List ClaimId} (hl : l.Nodup) (c : Claims) (n : Nat) :
    (l.map fun id => ((allocate s l c n).1.get id).grant).sum + (allocate s l c n).2 = n := by
  induction l generalizing c n with
  | nil => exact Nat.zero_add n
  | cons j l ih =>
    obtain ⟨hj, hl⟩ := List.nodup_cons.mp hl
    have hrest := ih hl (grantOne s c j n) (n - grantFrom s (c.get j) j n)
    have hle := grantFrom_le s (c.get j) j n
    simp only [allocate_cons, List.map_cons, List.sum_cons, allocate_get_of_not_mem s hj, grantOne_get_self]
    omega

/-- Settles O39: the sum by induction over the list, the rest by what one claim is granted. -/
theorem walkHandsOutNoMoreThanItHas : Obligations.WalkHandsOutNoMoreThanItHas := by
  unfold Obligations.WalkHandsOutNoMoreThanItHas
  intro s l c n hl
  refine ⟨allocate_conserves s hl c n, fun id hid => ?_, fun id hid => allocate_get_of_not_mem s hid c n,
    fun id hid hsource hmark hclass hyaw _ => ?_⟩
  · obtain ⟨m, hget⟩ := allocate_get_of_mem s hl hid c n
    rw [hget]
    exact grantFrom_floor_ceiling s (c.get id) id m
  · obtain ⟨m, hget⟩ := allocate_get_of_mem s hl hid c n
    rw [hget]
    exact grantFrom_of_capped (markCap_motion hsource hmark hclass hyaw) _ m

end Sys2Proof.Machine

/-! SUPPORT. The source, the marks and the charger: what each of the budget's own rules writes, and how an event whose effect is theirs ends (R88 to R94). -/

namespace Sys2Proof.Machine

/-! ## Only the budget and the fault table -/

/-- `t` is `s` but for the budget's record and the fault table. -/
def BudgetOnly (s t : State) : Prop := ∃ aux faults, t = { s with aux := aux, faults := faults }

theorem BudgetOnly.refl (s : State) : BudgetOnly s s := ⟨_, _, rfl⟩

theorem BudgetOnly.of_aux (s : State) (aux : Budget) : BudgetOnly s { s with aux := aux } := ⟨_, _, rfl⟩

theorem BudgetOnly.trans {s t u : State} (h : BudgetOnly s t) (h' : BudgetOnly t u) : BudgetOnly s u := by
  obtain ⟨_, _, rfl⟩ := h
  obtain ⟨_, _, rfl⟩ := h'
  exact ⟨_, _, rfl⟩

theorem BudgetOnly.frame {s t : State} (h : BudgetOnly s t) :
    t.grid = s.grid ∧ t.therm = s.therm ∧ t.store = s.store ∧ t.retained = s.retained := by
  obtain ⟨_, _, rfl⟩ := h
  exact ⟨rfl, rfl, rfl, rfl⟩

theorem budgetOnly_setFault (c : FaultCode) (unit : Nat) (b : Bool) (s : State) : BudgetOnly s (setFault c unit b s) := by
  cases b <;> exact ⟨_, _, rfl⟩

theorem budgetOnly_judgeCharger (s : State) : BudgetOnly s (judgeCharger s) := (budgetStep_judgeCharger s).budget

/-- A row that follows its mark where the mark changes. -/
theorem budgetOnly_followMark (p : Prop) [Decidable p] (c : FaultCode) (unit : Nat) (b : Bool) (s : State) :
    BudgetOnly s (if p then setFault c unit b s else s) := by
  split
  · exact budgetOnly_setFault c unit b s
  · exact .refl s

theorem budgetOnly_writeMarks (low critical : Bool) (s : State) : BudgetOnly s (writeMarks low critical s) :=
  ((BudgetOnly.of_aux s _).trans (budgetOnly_followMark _ .battLow 1 low _)).trans
    (budgetOnly_followMark _ .battCritical 1 critical _)

theorem budgetOnly_accountCharger (s : State) : BudgetOnly s (accountCharger s) := by
  unfold accountCharger
  split
  · exact .of_aux s _
  · exact budgetOnly_judgeCharger s

/-- An event whose effect lies in the budget and the fault table ends with the rest of `u` as it was. -/
theorem react_budgetOnly {s u : State} (hp : s.powered = true) {f : State → State} (h : BudgetOnly u (f (beginEvent s))) :
    (react f s).grid = u.grid ∧ (react f s).therm = u.therm ∧ (react f s).store = u.store ∧
    (react f s).retained = u.retained := by
  obtain ⟨hgrid, htherm, hstore, hretained⟩ := h.frame
  exact ⟨(react_field (g := State.grid) (fun _ => rfl) hp f).trans hgrid,
    (react_field (g := State.therm) (fun _ => rfl) hp f).trans htherm,
    (react_field (g := State.store) (fun _ => rfl) hp f).trans hstore,
    (react_field (g := State.retained) (fun _ => rfl) hp f).trans hretained⟩

/-! ## The supply: the source with its timers, and the marks -/

/-- The source, the held dispatchable, the two timers and the two marks. -/
def supply (s : State) : Source × Option Nat × Option Countdown × Option Countdown × Bool × Bool :=
  (s.aux.source, s.aux.held, s.aux.bridge, s.aux.normal, s.aux.lowMark, s.aux.criticalMark)

theorem supply_fields {s t : State} (h : supply t = supply s) :
    t.aux.source = s.aux.source ∧ t.aux.held = s.aux.held ∧ t.aux.bridge = s.aux.bridge ∧ t.aux.normal = s.aux.normal ∧
    t.aux.lowMark = s.aux.lowMark ∧ t.aux.criticalMark = s.aux.criticalMark := by
  simpa only [supply, Prod.mk.injEq] using h

theorem supply_setFault (c : FaultCode) (unit : Nat) (b : Bool) (s : State) : supply (setFault c unit b s) = supply s := by
  cases b <;> rfl

theorem supply_setCeiling (id : ClaimId) (n : Nat) (s : State) : supply (setCeiling id n s) = supply s := by
  unfold supply setCeiling
  simp only
  split <;> rfl

theorem supply_submitClaim (id : ClaimId) (n : Nat) (s : State) : supply (submitClaim id n s) = supply s := by
  have hceiling := supply_setCeiling id n s
  unfold supply submitClaim at *
  simp only
  split
  · exact hceiling
  · rfl

theorem supply_withdrawClaim (id : ClaimId) (s : State) : supply (withdrawClaim id s) = supply s := by
  unfold supply withdrawClaim
  simp only
  split <;> rfl

theorem supply_judgeCharger (s : State) : supply (judgeCharger s) = supply s := by
  unfold judgeCharger
  split
  · split
    · rfl
    · exact supply_submitClaim .charger 40 s
  · rfl

theorem supply_accountCharger (s : State) : supply (accountCharger s) = supply s := by
  unfold accountCharger
  split
  · exact supply_withdrawClaim .charger s
  · exact supply_judgeCharger s

/-- The reactions and the end of an event leave the supply as the event's own effect left it. -/
theorem react_supply {s : State} (hp : s.powered = true) (f : State → State) :
    supply (react f s) = supply (f (beginEvent s)) := react_field (fun _ => rfl) hp f

/-! ## The charger (R94) -/

theorem charger_judgeCharger {s : State} (hsource : s.aux.source = .grid) (hroom : s.retained.energy < 648000) :
    submitted (judgeCharger s) .charger = true := by
  rw [judgeCharger, if_pos ⟨hsource, hroom⟩]
  split
  · assumption
  · exact submitted_submitClaim .charger 40 s

/-- After an accounting on Grid the charger stands below full alone. -/
theorem charger_accountCharger {s : State} (hsource : s.aux.source = .grid) (hcap : s.retained.energy ≤ 648000) :
    submitted (accountCharger s) .charger = decide (s.retained.energy < 648000) := by
  unfold accountCharger
  rcases hcap.lt_or_eq with hroom | hfull
  · rw [if_neg fun h => hroom.ne h.2, charger_judgeCharger hsource hroom]
    exact (decide_eq_true hroom).symm
  · rw [if_pos ⟨hsource, hfull⟩, submitted_withdrawClaim]
    exact (decide_eq_false hfull.not_lt).symm

/-- The reactions leave the charger submitted or not as the event's own effect left it. -/
theorem react_charger {s : State} (hp : s.powered = true) (f : State → State) :
    (react f s).aux.claims.charger.submitted = submitted (f (beginEvent s)) .charger :=
  react_field (g := fun t => t.aux.claims.charger.submitted) (fun _ => rfl) hp f

/-! ## The marks (R93) -/

theorem supply_writeMarks (low critical : Bool) (s : State) :
    supply (writeMarks low critical s) =
      (s.aux.source, s.aux.held, s.aux.bridge, s.aux.normal, low, critical) := by
  simp only [writeMarks, apply_ite supply, supply_setFault, ite_self]
  rfl

theorem supply_judgeMarks (s : State) :
    supply (judgeMarks s) = (s.aux.source, s.aux.held, s.aux.bridge, s.aux.normal,
      judgedMark s.aux.lowMark 129600 s.retained.energy, judgedMark s.aux.criticalMark 64800 s.retained.energy) :=
  supply_writeMarks _ _ s

/-! ## The two expiries (R89, R91) -/

theorem charger_sourceToBattery (s : State) : submitted (sourceToBattery s) .charger = false := by
  have hwithdrawn := submitted_withdrawClaim .charger s
  simp only [sourceToBattery]
  split <;> exact hwithdrawn

theorem auxBridge_sourceToBattery {s : State} (h : s.aux.source = .bridged) :
    isActive (sourceToBattery s) .auxBridge 1 = false := by
  simp only [sourceToBattery, h, if_true]
  exact isActive_clearFault .auxBridge 1 _

/-- The state a return to Grid leaves before the charger is judged. -/
def returnedToGrid (s : State) : State :=
  let t := { s with aux := { s.aux with source := .grid, held := none, bridge := none, normal := none, walkDue := true } }
  if s.aux.source = .bridged then clearFault .auxBridge 1 t else t

theorem sourceToGrid_eq (s : State) : sourceToGrid s = judgeCharger (returnedToGrid s) := rfl

theorem supply_returnedToGrid (s : State) :
    supply (returnedToGrid s) = (.grid, none, none, none, s.aux.lowMark, s.aux.criticalMark) := by
  unfold returnedToGrid
  split <;> rfl

theorem supply_sourceToGrid (s : State) :
    supply (sourceToGrid s) = (.grid, none, none, none, s.aux.lowMark, s.aux.criticalMark) := by
  rw [sourceToGrid_eq, supply_judgeCharger, supply_returnedToGrid]

theorem charger_sourceToGrid {s : State} (hroom : s.retained.energy < 648000) :
    submitted (sourceToGrid s) .charger = true := by
  have hsource : (returnedToGrid s).aux.source = .grid := congrArg Prod.fst (supply_returnedToGrid s)
  have henergy : (returnedToGrid s).retained = s.retained := by
    unfold returnedToGrid
    split <;> rfl
  rw [sourceToGrid_eq]
  exact charger_judgeCharger hsource (henergy ▸ hroom)

theorem bridgeTimerExpiry_reaches {s : State} (hp : s.powered = true) (hsource : s.aux.source = .bridged)
    (hbridge : s.aux.bridge.isSome = true) :
    ∃ t, exec .bridgeTimerExpiry s = .next t ∧
      t.aux.source = .battery ∧ t.aux.held = none ∧ t.aux.bridge = none ∧ t.aux.claims.charger.submitted = false ∧
      isActive t .auxBridge 1 = false ∧ t.grid = s.grid ∧ t.therm = s.therm ∧ t.store = s.store ∧
      t.retained = s.retained := by
  have heffect : bridgeExpires (beginEvent s) = sourceToBattery (beginEvent s) := if_pos ⟨hsource, hbridge⟩
  obtain ⟨hbattery, hheld, hstopped, -⟩ := sourceToBattery_aux (beginEvent s)
  obtain ⟨hsource', hheld', hbridge', -⟩ := supply_fields ((react_supply hp bridgeExpires).trans (congrArg supply heffect))
  refine ⟨_, rfl, hsource'.trans hbattery, hheld'.trans hheld, hbridge'.trans hstopped, ?_, ?_,
    react_budgetOnly (u := beginEvent s) hp (heffect ▸ (budgetStep_sourceToBattery _).budget)⟩
  · rw [react_charger hp, heffect]
    exact charger_sourceToBattery _
  · rw [react_isActive hp (by decide), heffect]
    exact auxBridge_sourceToBattery hsource

theorem normalCountExpiry_reaches {s : State} (hp : s.powered = true) (hsource : s.aux.source = .battery)
    (hnormal : s.aux.normal.isSome = true) :
    ∃ t, exec .normalCountExpiry s = .next t ∧ t.aux.source = .grid ∧ t.aux.normal = none ∧
      (s.retained.energy < 648000 → t.aux.claims.charger.submitted = true) ∧ t.grid = s.grid ∧ t.therm = s.therm ∧
      t.store = s.store ∧ t.retained = s.retained := by
  have heffect : normalCountExpires (beginEvent s) = sourceToGrid (beginEvent s) := if_pos ⟨hsource, hnormal⟩
  have hsupply : supply (react normalCountExpires s) =
      (.grid, none, none, none, s.aux.lowMark, s.aux.criticalMark) := by
    rw [react_supply hp, heffect]
    exact supply_sourceToGrid _
  simp only [supply, Prod.mk.injEq] at hsupply
  obtain ⟨hgrid, -, -, hstopped, -⟩ := hsupply
  refine ⟨_, rfl, hgrid, hstopped, fun hroom => ?_,
    react_budgetOnly (u := beginEvent s) hp (heffect ▸ (budgetStep_sourceToGrid _).budget)⟩
  rw [react_charger hp, heffect]
  exact charger_sourceToGrid hroom

/-- Settles O40: each expiry is its change of source, seen through the reactions. -/
theorem sourceAndBatteryExpiries : Obligations.SourceAndBatteryExpiries := by
  unfold Obligations.SourceAndBatteryExpiries
  exact fun s hp => ⟨bridgeTimerExpiry_reaches hp, normalCountExpiry_reaches hp⟩

/-! ## The accounting (R92) -/

theorem budgetOnly_accountBattery (s : State) : BudgetOnly (writeEnergy (energyAfter s) s) (accountBattery s) :=
  (budgetOnly_writeMarks _ _ _).trans (budgetOnly_accountCharger _)

theorem supply_accountBattery (s : State) :
    supply (accountBattery s) = (s.aux.source, s.aux.held, s.aux.bridge, s.aux.normal,
      judgedMark s.aux.lowMark 129600 (energyAfter s), judgedMark s.aux.criticalMark 64800 (energyAfter s)) :=
  (supply_accountCharger _).trans (supply_judgeMarks _)

theorem charger_accountBattery {s : State} (h : s.aux.source = .grid) :
    submitted (accountBattery s) .charger = decide (energyAfter s < 648000) := by
  obtain ⟨-, -, hsource, henergy⟩ := ratings_fields (ratings_judgeMarks (writeEnergy (energyAfter s) s))
  have hcap : energyAfter s ≤ 648000 := by
    rw [energyAfter_eq, if_pos h]
    exact Nat.min_le_left _ _
  have hcharger := charger_accountCharger (hsource.trans h) (henergy.trans_le hcap)
  rwa [henergy] at hcharger

theorem batteryAccounting_accounts {s : State} (hp : s.powered = true) :
    ∃ t, exec .batteryAccounting s = .next t ∧
      t.retained.energy = (if s.aux.source = .grid then min 648000 (s.retained.energy + grantOf s .charger)
        else s.retained.energy - ((claimList.map (grantOf s)).sum + s.store.working.controlReserve +
          s.store.working.brakeReserve)) ∧
      t.aux.lowMark = judgedMark s.aux.lowMark 129600 t.retained.energy ∧
      t.aux.criticalMark = judgedMark s.aux.criticalMark 64800 t.retained.energy ∧
      (s.aux.source = .grid → t.aux.claims.charger.submitted = decide (t.retained.energy < 648000)) ∧
      t.aux.source = s.aux.source ∧ t.retained.twist = s.retained.twist ∧ t.grid = s.grid ∧ t.therm = s.therm ∧
      t.store = s.store := by
  obtain ⟨hgrid, htherm, hstore, hretained⟩ :=
    react_budgetOnly (f := accountBattery) hp (budgetOnly_accountBattery (beginEvent s))
  have henergy : (react accountBattery s).retained.energy = energyAfter s := congrArg Retained.energy hretained
  have hsupply := (react_supply hp accountBattery).trans (supply_accountBattery (beginEvent s))
  simp only [supply, Prod.mk.injEq] at hsupply
  obtain ⟨hsource, -, -, -, hlow, hcritical⟩ := hsupply
  refine ⟨_, rfl, henergy.trans (energyAfter_eq s), ?_, ?_, fun h => ?_, hsource, congrArg (·.twist) hretained,
    hgrid, htherm, hstore⟩
  · rw [henergy]; exact hlow
  · rw [henergy]; exact hcritical
  · rw [henergy, react_charger hp]
    exact charger_accountBattery h

/-- Settles O41: the accounting seen through the reactions, and the bound that every command keeps. -/
theorem energyFollowsItsAccounting : Obligations.EnergyFollowsItsAccounting := by
  unfold Obligations.EnergyFollowsItsAccounting
  refine ⟨fun s hp => batteryAccounting_accounts hp, fun c s hcap t ht => ?_⟩
  obtain ⟨u, hu, hbounded⟩ := bounded_exec c s
  obtain rfl := Host.Outcome.next.inj (hu.symm.trans ht)
  exact ⟨hbounded.energy hcap, hbounded.falls⟩

end Sys2Proof.Machine

/-! SUPPORT. The three requests of the budget: the answer of a block whose effect is followed by the reactions, and what of that effect stands at the end of the event (R95 to R97). -/

namespace Sys2Proof.Machine

/-! ## A request whose effect the reactions follow -/

/-- What a reply over `r` shows outside stands at the end of the request's event. -/
theorem beyond_field {β : Type} {f : State → β} (hf : ∀ s, f (outside s) = f s)
    (hr : ∀ (s : State) link faults, f { s with link := link, faults := faults } = f s) {r t : State}
    (h : Beyond (replied r) t) : f t = f r := by
  rw [outside_field hf h, replied_eq, hr]

theorem beyond_supply {r t : State} (h : Beyond (replied r) t) : supply t = supply r :=
  beyond_field (fun _ => rfl) (fun _ _ _ => rfl) h

/-- An effect in the budget and the fault table leaves the rest of the request's state as it was. -/
theorem beyond_budgetOnly {u r t : State} (h : BudgetOnly u r) (ht : Beyond (replied r) t) :
    t.store = u.store ∧ t.grid = u.grid ∧ t.therm = u.therm ∧ t.retained = u.retained := by
  obtain ⟨hgrid, htherm, hstore, hretained⟩ := h.frame
  exact ⟨(beyond_field (f := State.store) (fun _ => rfl) (fun _ _ _ => rfl) ht).trans hstore,
    (beyond_field (f := State.grid) (fun _ => rfl) (fun _ _ _ => rfl) ht).trans hgrid,
    (beyond_field (f := State.therm) (fun _ => rfl) (fun _ _ _ => rfl) ht).trans htherm,
    (beyond_field (f := State.retained) (fun _ => rfl) (fun _ _ _ => rfl) ht).trans hretained⟩

theorem served_clock (s : State) : (served s).clock = s.clock := by unfold served supervisionReload; split <;> rfl

/-- A request at a ready port whose block changes the state to `r` and reacts: the answer, the budget's record that it reports,
and the effect. -/
theorem settled_answered {k : Kind} (hr : k ≠ .restart) {body : List Byte}
    (hb : k.fits body = true) {s : State} {tag : Byte} (h : HostReady s) (ht : tag ≠ 0) {status : Status} {r : State}
    (ha : serve k body (served s) = (status, settle r)) :
    Answered s (request ⟨k.code, tag, body⟩ s) (replyKind k.code) tag status
      (replyBody k body status (served s) (updateMarks (settle r))) ∧
    (request ⟨k.code, tag, body⟩ s).aux = (settle r).aux ∧ Beyond (replied r) (request ⟨k.code, tag, body⟩ s) := by
  obtain ⟨hans, houtside, -, -, haux, -⟩ :=
    request_answered (f := ⟨k.code, tag, body⟩) h.1 (kind_ofByte_code k) hb ht hr ha
  exact ⟨hans, haux.trans (replied_aux _), houtside.trans (outside_replied (outside_settle r))⟩

/-! ## SetAuxReserves (R95) -/

/-- Both reserves written, each at most 50. -/
def writeReserves (control brake : Byte) (s : State) : State :=
  modWorking (fun w => { w with controlReserve := min control.toNat 50, brakeReserve := min brake.toNat 50 }) s

/-- The status of two reserves taken. -/
def reservesStatus (control brake : Byte) : Status :=
  if control.toNat ≤ 50 ∧ brake.toNat ≤ 50 then .ok else .okClamped

theorem serve_setAuxReserves {s : State} (h : notRemote s = false) (hlock : s.store.lock = false) (hs : storing s = false)
    {control brake : Byte} (hsum : min control.toNat 50 + min brake.toNat 50 ≤ 90) :
    serve .setAuxReserves [control, brake] s =
      (reservesStatus control brake, settle (oweWalk (writeReserves control brake s))) := by
  have hfirst : natAt [control, brake] 0 = control.toNat := rfl
  have hsecond : natAt [control, brake] 1 = brake.toNat := rfl
  have hin : ¬min control.toNat 50 + min brake.toNat 50 > Config.batteryLimit := Nat.not_lt.mpr hsum
  have hstatus : clampedIf (min control.toNat 50 ≠ control.toNat || min brake.toNat 50 ≠ brake.toNat) =
      reservesStatus control brake := by
    simp only [clampedIf, reservesStatus, Bool.or_eq_true, decide_eq_true_eq]
    refine (if_congr ?_ rfl rfl).trans (ite_not _ _ _)
    omega
  simp only [serve, serveSetAuxReserves, h, hlock, hs, hfirst, hsecond, hin, Bool.false_eq_true, if_false, acceptClamped,
    hstatus, writeReserves]

theorem setAuxReserves_answered {s : State} {tag : Byte} (h : HostReady s) (ht : tag ≠ 0) {control brake : Byte}
    (hlock : s.store.lock = false) (hs : s.store.storing = none)
    (hsum : min control.toNat 50 + min brake.toNat 50 ≤ 90) :
    ∃ t, exec (.setAuxReserves tag [control, brake]) s = .next t ∧
      Answered s t 0xC0 tag (reservesStatus control brake) [] ∧
      Beyond (replied (writeReserves control brake (served s))) t := by
  obtain ⟨hstore, -⟩ := served_frame s
  have hstoring : storing (served s) = false := by rw [storing, hstore, hs]; rfl
  obtain ⟨hans, -, hbeyond⟩ := settled_answered (k := .setAuxReserves) (by decide) rfl h ht
    (serve_setAuxReserves (notRemote_served h) (hstore ▸ hlock) hstoring hsum)
  have hbody (st : Status) (x y : State) : replyBody .setAuxReserves [control, brake] st x y = [] := by cases st <;> rfl
  rw [hbody] at hans
  exact ⟨_, rfl, hans, hbeyond.trans (outside_replied rfl)⟩

/-! ## SetHoist (R96) -/

theorem claimOf_submitClaim_self {id : ClaimId} {s : State} (h : submitted s id = false) (n : Nat) :
    claimOf (submitClaim id n s) id =
      { claimOf s id with submitted := true, time := some s.clock, ceiling := n, grant := 0 } := by
  have hs : ¬(claimOf s id).submitted = true := Bool.eq_false_iff.mp h
  simp only [submitClaim, if_neg hs]
  exact claims_get_set_self _ _ _

/-- The effect of a SetHoist. -/
def turnHoist (on : Bool) (s : State) : State := if on then submitClaim .hoist 30 s else withdrawClaim .hoist s

theorem budgetOnly_turnHoist (on : Bool) (s : State) : BudgetOnly s (turnHoist on s) := by
  cases on <;> exact .of_aux s _

theorem supply_turnHoist (on : Bool) (s : State) : supply (turnHoist on s) = supply s := by
  cases on
  · exact supply_withdrawClaim .hoist s
  · exact supply_submitClaim .hoist 30 s

theorem submitted_turnHoist (on : Bool) (s : State) : submitted (turnHoist on s) .hoist = on := by
  cases on
  · exact submitted_withdrawClaim .hoist s
  · exact submitted_submitClaim .hoist 30 s

/-- A hoist claim submitted takes the time of its submission. -/
theorem time_turnHoist {s : State} (h : submitted s .hoist = false) :
    (claimOf (turnHoist true s) .hoist).time = some s.clock :=
  congrArg Claim.time (claimOf_submitClaim_self h 30)

theorem serve_setHoist {s : State} (h : notRemote s = false) {on : Bool} (hon : on = true → submitted s .hoist = false) :
    serve .setHoist (u8 (bit on)) s = (.ok, settle (turnHoist on s)) := by
  cases on
  · have hzero : natAt (u8 (bit false)) 0 = 0 := rfl
    simp only [serve, serveSetHoist, h, hzero, turnHoist, accept, Bool.false_eq_true, if_false]
  · have hone : natAt (u8 (bit true)) 0 = 1 := rfl
    simp only [serve, serveSetHoist, h, hone, hon rfl, turnHoist, accept, Bool.false_eq_true, if_false, if_true]

theorem replyBody_setHoist (body : List Byte) (s t : State) :
    replyBody .setHoist body .ok s (updateMarks t) = u8 t.aux.claims.hoist.grant ++ u16 t.aux.spare := rfl

theorem setHoist_answered {s : State} {tag : Byte} (h : HostReady s) (ht : tag ≠ 0) {on : Bool}
    (hon : on = true → s.aux.claims.hoist.submitted = false) :
    ∃ t, exec (.setHoist tag (u8 (bit on))) s = .next t ∧ t.aux.claims.hoist.submitted = on ∧
      (on = true → t.aux.claims.hoist.time = some s.clock) ∧
      Answered s t 0xC2 tag .ok (u8 t.aux.claims.hoist.grant ++ u16 t.aux.spare) ∧ t.store = s.store ∧ t.grid = s.grid ∧
      t.therm = s.therm ∧ t.retained = s.retained ∧ t.aux.source = s.aux.source := by
  obtain ⟨hstore, hgrid, htherm, hretained⟩ := served_frame s
  have hfree : on = true → submitted (served s) .hoist = false := by
    intro htrue
    rw [submitted, claimOf, served_aux]
    exact hon htrue
  obtain ⟨hans, haux, hbeyond⟩ := settled_answered (k := .setHoist) (by decide) rfl h ht
    (serve_setHoist (notRemote_served h) hfree)
  obtain ⟨hstore', hgrid', htherm', hretained'⟩ := beyond_budgetOnly (budgetOnly_turnHoist on _) hbeyond
  obtain ⟨hsource, -⟩ := supply_fields ((beyond_supply hbeyond).trans (supply_turnHoist on _))
  have hsubmitted := beyond_field (f := fun u => u.aux.claims.hoist.submitted) (fun _ => rfl) (fun _ _ _ => rfl) hbeyond
  have htime := beyond_field (f := fun u => u.aux.claims.hoist.time) (fun _ => rfl) (fun _ _ _ => rfl) hbeyond
  refine ⟨_, rfl, hsubmitted.trans (submitted_turnHoist on _), fun htrue => htime.trans ?_, ?_, hstore'.trans hstore,
    hgrid'.trans hgrid, htherm'.trans htherm, hretained'.trans hretained,
    hsource.trans (congrArg Budget.source (served_aux s))⟩
  · subst htrue
    exact (time_turnHoist (hfree rfl)).trans (congrArg some (served_clock s))
  · rw [haux]
    rw [replyBody_setHoist] at hans
    exact hans

/-! ## SetBatteryEnergy (R97) -/

theorem longAt_quad (x : BitVec 32) : longAt (quad x) 0 = x := by
  show (x.extractLsb' 24 8 ++ x.extractLsb' 16 8) ++ (x.extractLsb' 8 8 ++ x.extractLsb' 0 8) = x
  rw [BitVec.extractLsb'_append_extractLsb'_eq_extractLsb' (by rfl),
    BitVec.extractLsb'_append_extractLsb'_eq_extractLsb' (by rfl),
    BitVec.extractLsb'_append_extractLsb'_eq_extractLsb' (by rfl)]
  exact BitVec.extractLsb'_eq_self

/-- The effect of a SetBatteryEnergy. -/
def takeEnergy (energy : Nat) (s : State) : State := judgeCharger (judgeMarks (writeEnergy energy s))

theorem budgetOnly_takeEnergy (energy : Nat) (s : State) : BudgetOnly (writeEnergy energy s) (takeEnergy energy s) :=
  (budgetOnly_writeMarks _ _ _).trans (budgetOnly_judgeCharger _)

theorem supply_takeEnergy (energy : Nat) (s : State) :
    supply (takeEnergy energy s) = (s.aux.source, s.aux.held, s.aux.bridge, s.aux.normal,
      judgedMark s.aux.lowMark 129600 energy, judgedMark s.aux.criticalMark 64800 energy) :=
  (supply_judgeCharger _).trans (supply_judgeMarks _)

theorem serve_setBatteryEnergy {s : State} (h : notRemote s = false) {e : BitVec 32}
    (hallowed : s.aux.source = .grid ∨ min e.toNat 648000 ≤ s.retained.energy) :
    serve .setBatteryEnergy (quad e) s = (clampedIf (e.toNat > 648000), settle (takeEnergy (min e.toNat 648000) s)) := by
  have hlet : ¬(s.aux.source ≠ .grid ∧ min e.toNat 648000 > s.retained.energy) := by
    rintro ⟨hoff, hrise⟩
    exact hallowed.elim hoff (Nat.not_le.mpr hrise)
  have hclamped : decide (min e.toNat 648000 ≠ e.toNat) = decide (e.toNat > 648000) := by
    simp only [decide_eq_decide]
    omega
  simp only [serve, serveSetBatteryEnergy, h, longAt_quad, Config.batteryCapacity, hlet, Bool.false_eq_true, if_false,
    acceptClamped, hclamped, takeEnergy]

theorem setBatteryEnergy_answered {s : State} {tag : Byte} (h : HostReady s) (ht : tag ≠ 0) {e : BitVec 32}
    (hallowed : s.aux.source = .grid ∨ min e.toNat 648000 ≤ s.retained.energy) :
    ∃ t, exec (.setBatteryEnergy tag (quad e)) s = .next t ∧
      Answered s t 0xF4 tag (clampedIf (e.toNat > 648000)) [] ∧
      t.retained = { s.retained with energy := min e.toNat 648000, energyCheck := true } ∧
      t.aux.lowMark = judgedMark s.aux.lowMark 129600 (min e.toNat 648000) ∧
      t.aux.criticalMark = judgedMark s.aux.criticalMark 64800 (min e.toNat 648000) ∧
      t.store = s.store ∧ t.grid = s.grid ∧ t.therm = s.therm := by
  obtain ⟨hstore, hgrid, htherm, hretained⟩ := served_frame s
  obtain ⟨hans, -, hbeyond⟩ := settled_answered (k := .setBatteryEnergy) (by decide) rfl h ht
    (serve_setBatteryEnergy (notRemote_served h) (e := e) (by rwa [served_aux, hretained]))
  obtain ⟨hstore', hgrid', htherm', hretained'⟩ := beyond_budgetOnly (budgetOnly_takeEnergy _ _) hbeyond
  have hsupply := (beyond_supply hbeyond).trans (supply_takeEnergy _ _)
  simp only [supply, served_aux, Prod.mk.injEq] at hsupply
  obtain ⟨-, -, -, -, hlow, hcritical⟩ := hsupply
  have hbody (st : Status) (x y : State) : replyBody .setBatteryEnergy (quad e) st x y = [] := by cases st <;> rfl
  rw [hbody] at hans
  refine ⟨_, rfl, hans, ?_, hlow, hcritical, hstore'.trans hstore, hgrid'.trans hgrid, htherm'.trans htherm⟩
  rw [hretained', writeEnergy, hretained]

/-- Settles O19: each request is answered over its block's effect, of which the reactions leave what is stated. -/
theorem budgetRequestsAct : Obligations.BudgetRequestsAct := by
  unfold Obligations.BudgetRequestsAct
  intro s tag h ht
  refine ⟨fun control brake hlock hs hsum => setAuxReserves_answered h ht hlock hs hsum, ?_, fun hfree => ?_,
    fun e hallowed => setBatteryEnergy_answered h ht hallowed⟩
  · obtain ⟨t, hexec, hoff, -, hrest⟩ := setHoist_answered h ht (on := false) (fun hon => nomatch hon)
    exact ⟨t, hexec, hoff, hrest⟩
  · obtain ⟨t, hexec, hon, htime, hrest⟩ := setHoist_answered h ht (on := true) (fun _ => hfree)
    exact ⟨t, hexec, hon, htime rfl, hrest⟩

end Sys2Proof.Machine

/-! SUPPORT. The drive channels against the brakes: the outputs run none unless the brake state is Residual, no other operation commands one, and a start stops all (R108). -/

namespace Sys2Proof.Machine

/-! ## The outputs -/

theorem runningChannels_of_brake {s : State} (h : s.yaw.brake ≠ .residual) : runningChannels s = [] := by
  rw [runningChannels, if_pos h]

/-- The outputs drive the channels by the brake state, whatever stood before. -/
theorem drivesSafe_settle (s : State) : DrivesSafe (settle s) := by
  rw [settle]
  generalize turns 8 s = u
  intro hbrake c hc
  have hnone : runningChannels (driveFans u) = [] := runningChannels_of_brake hbrake
  obtain ⟨i, hi, rfl⟩ := List.mem_mapIdx.mp (show c ∈ (driveFans u).yaw.channels.mapIdx _ from hc)
  simp only [driveAfter, hnone, List.any_nil]

/-- The yaw record of `t` is that of `s`, or one that reactions have left. -/
def Redriven (s t : State) : Prop := t.yaw = s.yaw ∨ ∃ r, t.yaw = (settle r).yaw

theorem Redriven.refl (s : State) : Redriven s s := .inl rfl

theorem Redriven.trans {s t u : State} (h : Redriven s t) (h' : Redriven t u) : Redriven s u := by
  rcases h' with hsame | hsettled
  · rwa [Redriven, hsame]
  · exact .inr hsettled

theorem drivesSafe_congr {s t : State} (hyaw : t.yaw = s.yaw) (h : DrivesSafe s) : DrivesSafe t := by
  rwa [DrivesSafe, hyaw]

theorem Redriven.safe {s t : State} (h : Redriven s t) (hs : DrivesSafe s) : DrivesSafe t := by
  rcases h with hsame | ⟨r, hsettled⟩
  · exact drivesSafe_congr hsame hs
  · exact drivesSafe_congr hsettled (drivesSafe_settle r)

theorem redriven_event {f : State → State} (hf : ∀ u, Redriven u (f u)) (s : State) : Redriven s (event f s) := by
  unfold event
  split
  · rw [Redriven, finish_yaw]
    exact hf (beginEvent s)
  · exact .refl s

theorem redriven_react (f : State → State) (s : State) : Redriven s (react f s) :=
  redriven_event (fun t => .inr ⟨f t, rfl⟩) s

/-! ## Requests -/

/-- An answer that reacts, or leaves the yaw record. -/
theorem redriven_accept (s t : State) : Redriven s (accept t).2 := .inr ⟨t, rfl⟩
theorem redriven_acceptClamped (b : Bool) (s t : State) : Redriven s (acceptClamped b t).2 := .inr ⟨t, rfl⟩
theorem redriven_refuse (st : Status) (s : State) : Redriven s (refuse st s).2 := .refl s

theorem redriven_armMonitor (m : MonitorId) (arm : Bool) (level count : Nat) (s : State) :
    Redriven s (armMonitor m arm level count s) := by
  refine .inl ?_
  cases m <;> simp only [armMonitor, followOver, setMonitor]
  all_goals repeat' split
  all_goals rfl

/-- A block's answer is either settled, or leaves the yaw record. -/
theorem redriven_serve (k : Kind) (body : List Byte) (s : State) : Redriven s (serve k body s).2 := by
  cases k
  case armGridMonitor =>
    simp only [serve, serveArmGridMonitor]
    repeat' split
    all_goals simp only [redriven_refuse, redriven_armMonitor]
  case yawCommand | setMode | claimControl | setStringEnable | setCooling | setAuxReserves | setHoist | setBatteryEnergy |
      setDriveSlots | setTwistReference | ackFault | setSetting =>
    simp only [serve, serveYawCommand, serveJog, serveGoTo, serveYawStop, serveYawAuto, serveUntwist, serveSetMode,
      serveClaimControl, serveSetStringEnable, serveSetCooling, serveLiquidCooling, serveSetAuxReserves, serveSetHoist,
      serveSetBatteryEnergy, serveSetDriveSlots, serveSetTwistReference, serveAckFault, serveSetSetting, serveSetting]
    repeat' split
    all_goals simp only [redriven_accept, redriven_acceptClamped, redriven_refuse]
    all_goals exact .inl rfl
  all_goals
    simp only [serve, serveRead, serveSetTime, serveRestart, serveEnableSupervision, serveSetPower, serveSetRideThrough,
      serveSetYawPolicy, serveSetNoDwellWindow, serveGetFaults, serveSetFaultClass, serveGetSnapshot,
      serveClearSnapshot, serveClearCounts, serveGetSetting, serveStoreSettings, serveLockSettings]
    repeat' split
    all_goals exact .inl rfl

theorem queueReply_yaw (kind tag : Byte) (st : Status) (content : List Byte) (restart : Bool) (s : State) :
    (queueReply kind tag st content restart s).yaw = s.yaw := by
  simp only [queueReply]
  split <;> rfl

theorem clearMarks_yaw (k : Kind) (s : State) : (clearMarks k s).yaw = s.yaw := by
  unfold clearMarks
  split <;> rfl

theorem redriven_serveFrame (f : Frame) (s : State) : Redriven s (serveFrame f s) := by
  simp only [serveFrame]
  split
  · next k _ _ =>
    rw [Redriven, queueReply_yaw, clearMarks_yaw, updateMarks_yaw]
    exact redriven_serve k f.body s
  · exact .inl (queueReply_yaw _ _ _ _ _ s)
  · exact .refl s

theorem redriven_pump (n : Nat) (s : State) : Redriven s (pump n s) := by
  induction n generalizing s with
  | zero => exact .refl s
  | succ n ih =>
    rw [pump]
    split
    · split
      · exact .refl s
      · next f rest _ =>
        have hserved := redriven_serveFrame f (modLink (fun l => { l with inbound := rest }) s)
        exact Redriven.trans (s := s) hserved (ih _)
    · exact .refl s

theorem acceptFrame_yaw (f : Frame) (s : State) : (acceptFrame f s).yaw = s.yaw := by
  simp only [acceptFrame, supervisionReload]
  split <;> split <;> rfl

theorem redriven_takeFrame (f : Frame) (s : State) : Redriven s (takeFrame f s) :=
  Redriven.trans (.inl (acceptFrame_yaw f s)) (redriven_pump 9 _)

theorem redriven_parserEffects (l : List ParserEvent) (s : State) : Redriven s (parserEffects l s) := by
  refine forEach_keeps (P := Redriven s) (fun e t ht => ht.trans ?_) l s (.refl s)
  cases e with
  | discarded => exact .inl rfl
  | accepted f => exact redriven_takeFrame f t

theorem redriven_takeByte (b : Byte) (time : Nat) (s : State) : Redriven s (takeByte b time s) := by
  have hheld (held : List HeldByte) : Redriven s (modLink (fun l => { l with held := held }) s) := .inl rfl
  exact (hheld _).trans (redriven_parserEffects _ _)

theorem redriven_takeGap (s : State) : Redriven s (takeGap s) := by
  have hheld : Redriven s (modLink (fun l => { l with held := [] }) s) := .inl rfl
  exact hheld.trans (redriven_parserEffects _ _)

theorem redriven_endBreak (s : State) : Redriven s (endBreak s) := by
  have hline : Redriven s (modLink (fun l => { l with breakOn := false }) s) := .inl rfl
  exact hline.trans (redriven_pump 9 _)

/-! ## Starts -/

theorem startRows_yaw (twistLost imageLost : Bool) (s : State) : (startRows twistLost imageLost s).yaw = s.yaw := by
  have hset (c : FaultCode) (u : Nat) (b : Bool) (t : State) : (setFault c u b t).yaw = t.yaw := by cases b <;> rfl
  have hclears (l : List Nat) (t : State) : (forEach l (clearFault .yawDrive) t).yaw = t.yaw :=
    forEach_field (g := State.yaw) (fun u v => clearFault_yaw .yawDrive u v) l t
  simp only [startRows, apply_ite State.yaw, raise_yaw, clearFault_yaw, hset, hclears, ite_self]

/-- What a start settles leaves the channels as its blocks have set them. -/
theorem startSettles_channels (twistLost imageLost : Bool) (s : State) :
    (startSettles twistLost imageLost s).yaw.channels = s.yaw.channels := by
  unfold startSettles
  extract_lets marked cleared rows aux claims withYaw charged walked
  have hwalked : walked.yaw = charged.yaw := by
    unfold walked
    split
    · exact runWalk_yaw charged
    · rfl
  have hcharged : charged.yaw = rows.yaw := by
    simp only [charged, judgeCharger]
    repeat' split
    all_goals rfl
  have hrows : rows.yaw = cleared.yaw := startRows_yaw twistLost imageLost cleared
  show walked.yaw.channels = s.yaw.channels
  rw [hwalked, hcharged, hrows]
  rfl

theorem drivesSafe_of_started {s : State} {channels : List DriveChannel}
    (h : s.yaw.channels = channels.map DriveChannel.started) : DrivesSafe s := by
  intro _ c hc
  rw [h] at hc
  obtain ⟨-, -, rfl⟩ := List.mem_map.mp hc
  rfl

theorem drivesSafe_coldStart (reading : Nat) (s : State) : DrivesSafe (coldStart reading s) := by
  unfold coldStart
  exact drivesSafe_of_started (startSettles_channels _ _ _)

theorem drivesSafe_warmRestart (reading : Nat) (s : State) : DrivesSafe (warmRestart reading s) :=
  drivesSafe_of_started (startSettles_channels _ _ _)

theorem drivesSafe_powerFails (s : State) : DrivesSafe (powerFails s) := drivesSafe_of_started (s := powerFails s) rfl

/-! ## The line, where a start may begin -/

theorem drivesSafe_frameLeaves {s : State} (h : DrivesSafe s) : DrivesSafe (frameLeaves s) := by
  simp only [frameLeaves]
  repeat' split
  · exact h
  · exact drivesSafe_warmRestart _ _
  · next f rest _ _ =>
    have hpumped := redriven_pump 9 (modLink (fun l => { l with outbound := rest }) s)
    exact drivesSafe_congr (finish_yaw _) (hpumped.safe h)

theorem drivesSafe_breakLine {s : State} (h : DrivesSafe s) : DrivesSafe (breakLine s) := by
  simp only [breakLine]
  split
  · exact drivesSafe_warmRestart _ _
  · exact drivesSafe_congr (finish_yaw _) h

/-! ## Every command -/

/-- A feedback shown to one channel leaves every command. -/
theorem drivesSafe_proven (i : Nat) (running : Bool) {s : State} (h : DrivesSafe s) :
    DrivesSafe (modYaw (fun y => { y with channels := updateAt y.channels i fun d => { d with proven := running } }) s) := by
  intro hbrake c hc
  have hold := h hbrake
  obtain ⟨n, hn, rfl⟩ := List.mem_iff_getElem.mp
    (show c ∈ updateAt s.yaw.channels i (fun d => { d with proven := running }) from hc)
  simp only [updateAt, List.getElem_modify]
  split
  all_goals exact hold (s.yaw.channels[n]'(by simpa [updateAt] using hn)) (List.getElem_mem _)

theorem drivesSafe_restEnds {s : State} (h : DrivesSafe s) : DrivesSafe (modYaw (fun y => { y with rest := none }) s) := h

theorem drivesSafe_watchProof (p : BrakeProof) (present : Bool) {s : State} (h : DrivesSafe s) :
    DrivesSafe (watchProof p present s) := by
  unfold watchProof
  split <;> exact h

theorem drivesSafe_finish {s : State} (h : DrivesSafe s) : DrivesSafe (finish s) := drivesSafe_congr (finish_yaw s) h

/-- An event whose own effect keeps the drives off the brakes. -/
theorem drivesSafe_event {f : State → State} (hf : ∀ u, DrivesSafe u → DrivesSafe (f u)) {s : State} (h : DrivesSafe s) :
    DrivesSafe (event f s) := by
  unfold event
  split
  · exact drivesSafe_finish (hf (beginEvent s) h)
  · exact h

theorem drivesSafe_tick {s : State} (h : DrivesSafe s) : DrivesSafe (tick s) := by
  intro hbrake c hc
  obtain ⟨d, hd, rfl⟩ := List.mem_map.mp (show c ∈ s.yaw.channels.map DriveChannel.tick from hc)
  exact h hbrake d hd

/-- Every command keeps the drives off the brakes: a start stops them, the reactions drive them by the brake state, and a command
without reactions leaves their commands and the brake state alone. -/
theorem drivesSafe_exec (c : Instr) {s : State} (h : DrivesSafe s) : ∃ t, exec c s = .next t ∧ DrivesSafe t := by
  have reacts (f : State → State) {u : State} (hu : DrivesSafe u) : DrivesSafe (react f u) := (redriven_react f u).safe hu
  cases c
  case coldStart u => exact ⟨_, rfl, drivesSafe_coldStart u s⟩
  case warmRestart u =>
    refine ⟨_, rfl, ?_⟩
    split
    · exact drivesSafe_warmRestart u _
    · exact h
  case powerFailure => exact ⟨_, rfl, drivesSafe_powerFails s⟩
  case byteArrival b time => exact ⟨_, rfl, (redriven_event (redriven_takeByte b time) s).safe h⟩
  case frameGapTimeout => exact ⟨_, rfl, (redriven_event redriven_takeGap s).safe h⟩
  case frameSent =>
    refine ⟨_, rfl, ?_⟩
    split
    · exact drivesSafe_frameLeaves h
    · exact h
  case linkBreak =>
    refine ⟨_, rfl, ?_⟩
    split
    · exact drivesSafe_breakLine h
    · exact h
  case linkBreakEnd => exact ⟨_, rfl, (redriven_event redriven_endBreak (setLines _ s)).safe h⟩
  case takeModeNotice => exact ⟨_, rfl, (redriven_event (f := takeModeNotice) (fun u => .inl (takeModeNotice_yaw u)) s).safe h⟩
  case takeFaultNotice => exact ⟨_, rfl, (redriven_event (f := takeFaultNotice) (fun u => .inl (takeFaultNotice_yaw u)) s).safe h⟩
  case dipListAging => exact ⟨_, rfl, (redriven_event (f := ageDips) (fun _ => .inl rfl) s).safe h⟩
  case qHoldEnd =>
    refine ⟨_, rfl, (redriven_event (fun u => .inl ?_) s).safe h⟩
    unfold qHoldEnds
    split <;> rfl
  case inletSubstitute l =>
    refine ⟨_, rfl, (redriven_event (fun u => .inl ?_) s).safe h⟩
    simp only [substituteInlet]
    split <;> rfl
  case brakeProofChange p present =>
    have hline : DrivesSafe (showProof p present s) := by cases p <;> exact h
    exact ⟨_, rfl, drivesSafe_event (fun _ => drivesSafe_watchProof p present) hline⟩
  case restTimerExpiry => exact ⟨_, rfl, drivesSafe_event (fun _ => drivesSafe_restEnds) h⟩
  case estopChainClose => exact ⟨_, rfl, (redriven_event (f := clearFault .estop 1) (fun _ => .inl rfl) (setLines _ s)).safe h⟩
  case storeCompletion =>
    refine ⟨_, rfl, (redriven_event (fun u => .inl ?_) s).safe h⟩
    unfold storeCompletes
    split <;> rfl
  case flowSwitchChange l flow =>
    refine ⟨_, rfl, ?_⟩
    split
    · exact reacts _ h
    · exact drivesSafe_congr (modLoop_yaw l _ s) h
  case fanFeedbackChange f running => exact ⟨_, rfl, reacts id (drivesSafe_congr (s := s) (by cases f <;> rfl) h)⟩
  case driveFeedbackChange c running => exact ⟨_, rfl, reacts id (drivesSafe_proven c running h)⟩
  case jogButtonPress d | jogButtonRelease d =>
    exact ⟨_, rfl, reacts _ (drivesSafe_congr (s := s) (by cases d <;> rfl) h)⟩
  case gridSample | estopChainOpen | keySwitch => exact ⟨_, rfl, reacts (u := setLines _ s) _ h⟩
  case supervisionTimerExpiry | stringReport | prechargeTimeout | shareInterval | rideThroughExceeded | recoveryTimeout |
      overvoltageTimeout | returnDwellComplete | thermalInterval | flowProofTimeout | flowDropTimeout | coolingEvaluation |
      airSensorSubstitute | runOnExpiry | fanMismatchExpiry | bridgeTimerExpiry | normalCountExpiry | batteryAccounting |
      yawSample | brakeVentExpiry | brakePressurizeExpiry | brakeProofAbsenceExpiry | rampingExpiry | manualTimerExpiry |
      driveMismatchExpiry | encoderUpdate | untwistWaitExpiry | calmTimerExpiry | idleLimitExpiry | resetButton =>
    exact ⟨_, rfl, reacts _ h⟩
  all_goals exact ⟨_, rfl, (redriven_event (redriven_takeFrame _) s).safe h⟩

/-- Settles O55: a command by `drivesSafe_exec`, an idle millisecond by `drivesSafe_tick`. -/
theorem stepKeepsDrivesOffTheBrakes : Obligations.StepKeepsDrivesOffTheBrakes := by
  unfold Obligations.StepKeepsDrivesOffTheBrakes
  intro s t h hstep
  unfold step at hstep
  split at hstep
  · obtain rfl := Host.Outcome.next.inj hstep
    unfold idle
    split
    · exact drivesSafe_tick h
    · exact h
  · next c rest _ =>
    have hrest : DrivesSafe { s with pending := rest } := h
    obtain ⟨u, hu, hsafe⟩ := drivesSafe_exec c hrest
    obtain rfl := Host.Outcome.next.inj (hu.symm.trans hstep)
    exact hsafe

end Sys2Proof.Machine

/-! SUPPORT. What the yaw controller's own operations leave alone: everything beside the reactions' fields and the fault table (R100 to R135). -/

namespace Sys2Proof.Machine

/-! ## The frame -/

/-- `s` without what the reactions inside an event may write, and without its fault table. -/
def aside (s : State) : State := { beside s with faults := FaultTable.atStart }

theorem aside_of_beside {s t : State} (h : beside t = beside s) : aside t = aside s := by simp only [aside, h]

theorem aside_modYaw {f : Yaw → Yaw} {s : State} (h : (f s.yaw).outside = s.yaw.outside) : aside (modYaw f s) = aside s :=
  aside_of_beside (beside_modYaw h)

@[simp] theorem aside_raise (c : FaultCode) (u : Nat) (s : State) : aside (raise c u s) = aside s := rfl
@[simp] theorem aside_clearFault (c : FaultCode) (u : Nat) (s : State) : aside (clearFault c u s) = aside s := rfl
@[simp] theorem aside_setFault (c : FaultCode) (u : Nat) (b : Bool) (s : State) : aside (setFault c u b s) = aside s := by
  cases b <;> rfl
@[simp] theorem aside_changeMode (m : Mode) (t : Option Mode) (c : Cause) (s : State) :
    aside (changeMode m t c s) = aside s := aside_of_beside (beside_changeMode m t c s)
@[simp] theorem aside_judgeYaw (s : State) : aside (judgeYaw s) = aside s := aside_of_beside (beside_judgeYaw s)
@[simp] theorem aside_completeWaiting (s : State) : aside (completeWaiting s) = aside s :=
  aside_of_beside (beside_completeWaiting s)
@[simp] theorem aside_runningStop (s : State) : aside (runningStop s) = aside s := aside_of_beside (beside_runningStop s)
@[simp] theorem aside_endClearance (s : State) : aside (endClearance s) = aside s := rfl
@[simp] theorem aside_untwistBecomesDue (s : State) : aside (untwistBecomesDue s) = aside s := rfl
@[simp] theorem aside_raiseTwistHard (s : State) : aside (raiseTwistHard s) = aside s := rfl

/-! ## Stops -/

/-- A field that neither the reactions nor the fault table hold. -/
theorem field_of_aside {β : Type} {f : State → β} (hf : ∀ s, f (aside s) = f s) {s t : State} (h : aside t = aside s) :
    f t = f s := by
  rw [← hf t, ← hf s, h]

@[simp] theorem aside_judgeDwell (kind : Option MoveKind) (forced : Bool) (s : State) :
    aside (judgeDwell kind forced s) = aside s := by
  unfold judgeDwell
  repeat' split
  all_goals rfl

@[simp] theorem aside_stopWaiting (s : State) : aside (stopWaiting s) = aside s := by simp [stopWaiting]

@[simp] theorem aside_normalStop (s : State) : aside (normalStop s) = aside s := by
  unfold normalStop; split <;> simp

@[simp] theorem aside_startMove (kind : MoveKind) (d : Dir) (target : Option Int) (s : State) :
    aside (startMove kind d target s) = aside s :=
  (aside_of_beside (beside_submitClaim rfl _ _)).trans (aside_modYaw rfl)

@[simp] theorem aside_startUntwist (x : Int) (s : State) : aside (startUntwist x s) = aside s := by
  rw [startUntwist, aside_startMove]; rfl

/-! ## The steps of a yaw sample -/

@[simp] theorem aside_testStormEntry (s : State) : aside (testStormEntry s) = aside s := by
  unfold testStormEntry; split <;> simp

@[simp] theorem aside_testCalm (s : State) : aside (testCalm s) = aside s := by
  unfold testCalm; split <;> rfl

@[simp] theorem aside_clearBrakeFault (s : State) : aside (clearBrakeFault s) = aside s := by
  unfold clearBrakeFault; split <;> rfl

@[simp] theorem aside_testStops (s : State) : aside (testStops s) = aside s := by
  unfold testStops; repeat' split
  all_goals simp

@[simp] theorem aside_testUntwistWait (wind : Nat) (s : State) : aside (testUntwistWait wind s) = aside s := by
  simp only [testUntwistWait]; repeat' split
  all_goals rfl

@[simp] theorem aside_testAutoStart (s : State) : aside (testAutoStart s) = aside s := by
  unfold testAutoStart; repeat' split
  all_goals simp

@[simp] theorem aside_testStarts (s : State) : aside (testStarts s) = aside s := by
  unfold testStarts; repeat' split
  all_goals simp

@[simp] theorem aside_startClearanceMove (n : Nat) (x : Int) (s : State) : aside (startClearanceMove n x s) = aside s := by
  simp only [startClearanceMove]; split
  · rw [aside_startMove]; rfl
  · rfl

@[simp] theorem aside_testClearance (s : State) : aside (testClearance s) = aside s := by
  unfold testClearance; repeat' split
  all_goals simp

@[simp] theorem aside_sampleMotion (wind : Nat) (s : State) : aside (sampleMotion wind s) = aside s := by
  simp only [sampleMotion]; split <;> simp

/-- After its wind and its means, a yaw sample writes nothing but what the reactions write, and fault rows. -/
theorem aside_yawSample (a b : Reading) (wind : Int) (s : State) :
    aside (yawSample a b wind s) = aside (sampleWind a b (clampInt wind 0 700).toNat s) := by simp [yawSample]

end Sys2Proof.Machine

/-! SUPPORT. The wind of a yaw sample: the vanes read, the ring entry written, the means and the misalignment cap (R100 to R105). -/

namespace Sys2Proof.Machine

/-! ## Operations on fault rows alone -/

/-- `t` is `s` but for its fault table. -/
def RowsOnly (s t : State) : Prop := ∃ faults, t = { s with faults := faults }

theorem RowsOnly.refl (s : State) : RowsOnly s s := ⟨s.faults, rfl⟩

theorem RowsOnly.trans {s t u : State} (h : RowsOnly s t) (h' : RowsOnly t u) : RowsOnly s u := by
  obtain ⟨_, rfl⟩ := h
  obtain ⟨faults, rfl⟩ := h'
  exact ⟨faults, rfl⟩

theorem RowsOnly.raise (c : FaultCode) (u : Nat) (s : State) : RowsOnly s (raise c u s) := ⟨_, rfl⟩

theorem RowsOnly.clear (c : FaultCode) (u : Nat) (s : State) : RowsOnly s (clearFault c u s) := ⟨_, rfl⟩

theorem RowsOnly.setFault (c : FaultCode) (u : Nat) (b : Bool) (s : State) : RowsOnly s (setFault c u b s) :=
  setFault_eq c u b s

theorem RowsOnly.modYaw {s t : State} (h : RowsOnly s t) (f : Yaw → Yaw) : RowsOnly (modYaw f s) (modYaw f t) := by
  obtain ⟨faults, rfl⟩ := h
  exact ⟨faults, rfl⟩

/-- A field that the fault table does not hold. -/
theorem RowsOnly.field {s t : State} (h : RowsOnly s t) {β : Type} {f : State → β}
    (hf : ∀ s faults, f { s with faults := faults } = f s) : f t = f s := by
  obtain ⟨faults, rfl⟩ := h
  exact hf s faults

theorem RowsOnly.theta {s t : State} (h : RowsOnly s t) : theta t = theta s := h.field (f := Machine.theta) fun _ _ => rfl

/-! ## The vanes and their entry (R101 to R103) -/

/-- A vane found valid has a reading. -/
theorem validReading_isSome (v : Vane) (r : Reading) (wind : Nat) :
    (validReading (vaneAfter v r wind)).isSome = (vaneAfter v r wind).valid := by
  cases r with
  | bad => simp [validReading, vaneAfter, vaneValue]
  | value x =>
    unfold validReading
    split
    · next h => rw [h]; rfl
    · next h => rw [Bool.not_eq_true] at h; rw [h]; rfl

/-- An angle is found where one of the vanes has a reading. -/
theorem blend_isSome (primary : VaneId) : ∀ a b : Option Int, (blend primary a b).isSome = (a.isSome || b.isSome)
  | none, none => rfl
  | none, some _ => rfl
  | some _, none => rfl
  | some x, some y => by
    simp only [blend]
    split
    · rfl
    · cases primary <;> rfl

/-- The ring entry that a sample writes, of its vanes as they are found. -/
def sampleEntry (a b : Vane) (wind : Nat) (s : State) : RingEntry :=
  let chosen := blend s.store.working.primaryVane (validReading a) (validReading b)
  { time := s.clock, angle := (chosen.map Prod.fst).getD 0, wind := wind, valid := a.valid || b.valid
    source := chosen.map Prod.snd, theta := theta s }

/-- The yaw record after the vanes are read. -/
def Yaw.vanesRead (a b : Vane) (entry : RingEntry) (y : Yaw) : Yaw :=
  { y with
    vaneA := a, vaneB := b, ring := y.ring.tail ++ [entry]
    disagree := if disagrees (validReading a) (validReading b) then min 10 (y.disagree + 1) else 0 }

/-- Steps 2 and 3 write the vanes, the entry and fault rows. -/
theorem sampleVanes_rowsOnly (ra rb : Reading) (wind : Nat) (s : State) :
    let a := vaneAfter s.yaw.vaneA ra wind
    let b := vaneAfter s.yaw.vaneB rb wind
    RowsOnly (modYaw (Yaw.vanesRead a b (sampleEntry a b wind s)) s) (sampleVanes ra rb wind s) := by
  unfold sampleVanes
  extract_lets a b xa xb run angle entry t judged
  have hvalid : angle.isSome = (a.valid || b.valid) :=
    (blend_isSome _ _ _).trans (congrArg₂ _ (validReading_isSome _ _ _) (validReading_isSome _ _ _))
  have hentry : entry = sampleEntry a b wind s := by simp only [entry, hvalid]; rfl
  have hjudged : RowsOnly (modYaw (Yaw.vanesRead a b entry) s) judged :=
    (RowsOnly.setFault .vaneFault 1 (!a.valid) t).trans (.setFault .vaneFault 2 (!b.valid) _)
  rw [hentry] at hjudged
  repeat' split
  · exact hjudged.trans (.raise _ _ _)
  · exact hjudged.trans (.clear _ _ _)
  · exact hjudged

/-! ## The means and the cap (R104, R105) -/

/-- The yaw record with the four means formed of its ring, for a twist position. -/
def Yaw.averaged (now : Option Int) (y : Yaw) : Yaw :=
  let valid := y.ring.filter (·.valid)
  let newest := (y.ring.drop (y.ring.length - 10)).filter (·.valid)
  { y with
    shortMean := meanOf 6 (newest.map (referAngle now))
    longMean := meanOf 40 (valid.map (referAngle now))
    shortSpeed := (meanOf 6 (newest.map fun e => (e.wind : Int))).map Int.toNat
    longSpeed := (meanOf 40 (valid.map fun e => (e.wind : Int))).map Int.toNat }

/-- The yaw record with its misalignment cap formed. -/
def Yaw.capped (y : Yaw) : Yaw :=
  match y.longMean with
  | some m => { y with cap := capOfMean m, invalidSince := none }
  | none =>
    let since := y.invalidSince.getD y.sampleNo
    { y with invalidSince := some since, cap := if y.sampleNo - since ≥ 60 then some 6000 else y.cap }

theorem formMeans_eq (s : State) : formMeans s = modYaw (Yaw.averaged (theta s)) s := by
  simp only [formMeans, Yaw.averaged, modYaw]

theorem formCap_eq (s : State) : formCap s = modYaw Yaw.capped s := rfl

/-- The yaw record after the wind of a sample, read in `s`. -/
def windTaken (ra rb : Reading) (wind : Nat) (s : State) : Yaw :=
  let a := vaneAfter s.yaw.vaneA ra wind
  let b := vaneAfter s.yaw.vaneB rb wind
  let counted := { s.yaw with sampleNo := s.yaw.sampleNo + 1 }
  ((counted.vanesRead a b (sampleEntry a b wind s)).averaged (theta s)).capped

/-- The wind of a sample writes the yaw record and fault rows. -/
theorem sampleWind_rowsOnly (ra rb : Reading) (wind : Nat) (s : State) :
    RowsOnly { s with yaw := windTaken ra rb wind s } (sampleWind ra rb wind s) := by
  have hvanes := sampleVanes_rowsOnly ra rb wind (modYaw (fun y => { y with sampleNo := y.sampleNo + 1 }) s)
  have hmeans := hvanes.modYaw (Yaw.averaged (theta s))
  rw [sampleWind, formCap_eq, formMeans_eq, hvanes.theta]
  exact hmeans.modYaw Yaw.capped

/-- What the cap leaves of the yaw record. -/
theorem capped_fields (y : Yaw) :
    (∀ m, y.longMean = some m → y.capped = { y with cap := capOfMean m, invalidSince := none }) ∧
    (y.longMean = none → y.capped = { y with
      invalidSince := some (y.invalidSince.getD y.sampleNo)
      cap := if y.sampleNo - y.invalidSince.getD y.sampleNo ≥ 60 then some 6000 else y.cap }) := by
  refine ⟨fun m h => ?_, fun h => ?_⟩ <;> simp only [Yaw.capped, h]

theorem capped_eq (y : Yaw) : ∃ since cap, y.capped = { y with invalidSince := since, cap := cap } := by
  unfold Yaw.capped
  split <;> exact ⟨_, _, rfl⟩

/-! ## The sample at the end of its event -/

theorem wrapAngle_bounds (x : Int) : -1800 ≤ wrapAngle x ∧ wrapAngle x ≤ 1799 ∧ (wrapAngle x - x) % 3600 = 0 := by
  unfold wrapAngle
  omega

/-- A field that neither the reactions nor the fault table hold stands at the end of a yaw sample as its wind leaves it. -/
theorem yawSample_field {β : Type} {f : State → β} (hout : ∀ s, f (outside s) = f s) (haside : ∀ s, f (aside s) = f s)
    (hrows : ∀ s faults, f { s with faults := faults } = f s) {s : State} (hp : s.powered = true) (a b : Reading) (wind : Int) :
    f (react (yawSample a b wind) s) = f { beginEvent s with yaw := windTaken a b (clampInt wind 0 700).toNat (beginEvent s) } :=
  calc f (react (yawSample a b wind) s) = f (yawSample a b wind (beginEvent s)) := react_field hout hp _
    _ = f (sampleWind a b (clampInt wind 0 700).toNat (beginEvent s)) := field_of_aside haside (aside_yawSample a b wind _)
    _ = _ := (sampleWind_rowsOnly a b _ (beginEvent s)).field hrows

/-- The yaw record without what the reactions write, and without its channels: the wind, its means, the windows and the encoder. -/
def Yaw.measured (y : Yaw) : Yaw := { y.outside with channels := [] }

/-- A field of the yaw record that stands at the end of a yaw sample as its wind leaves it. -/
theorem yawSample_measured {s : State} (hp : s.powered = true) (a b : Reading) (wind : Int) {β : Type} {g : Yaw → β}
    (hg : ∀ y : Yaw, g y.measured = g y) :
    g (react (yawSample a b wind) s).yaw = g (windTaken a b (clampInt wind 0 700).toNat (beginEvent s)) := by
  have hyaw := yawSample_field (f := fun u => u.yaw.measured) (fun _ => rfl) (fun _ => rfl) (fun _ _ => rfl) hp a b wind
  exact (hg _).symm.trans ((congrArg g hyaw).trans (hg _))

/-- What the cap keeps of the yaw record. -/
theorem capped_keeps {β : Type} {g : Yaw → β} (hg : ∀ (y : Yaw) since cap, g { y with invalidSince := since, cap := cap } = g y)
    (y : Yaw) : g y.capped = g y := by
  obtain ⟨since, cap, h⟩ := capped_eq y
  rw [h, hg]

/-- The cap that a long mean gives. -/
theorem capped_of_mean {y : Yaw} {m : Int} (h : y.longMean = some m) :
    y.capped.invalidSince = none ∧ y.capped.cap = capOfMean m := by
  rw [(capped_fields y).1 m h]
  exact ⟨rfl, rfl⟩

/-- The cap with no long mean: reduced once 60 samples have had none. -/
theorem capped_of_no_mean {y : Yaw} (h : y.longMean = none) :
    y.capped.invalidSince = some (y.invalidSince.getD y.sampleNo) ∧
    y.capped.cap = if y.sampleNo - y.invalidSince.getD y.sampleNo ≥ 60 then some 6000 else y.cap := by
  rw [(capped_fields y).2 h]
  exact ⟨rfl, rfl⟩

/-- Settles O42: the wind of the sample by its three steps, of which nothing after it writes a field. -/
theorem yawSampleFormsTheMeans : Obligations.YawSampleFormsTheMeans := by
  unfold Obligations.YawSampleFormsTheMeans
  refine ⟨wrapAngle_bounds, fun s a b w hp => ⟨_, rfl, ?_⟩⟩
  have hread {β : Type} {g : Yaw → β} (hg : ∀ y : Yaw, g y.measured = g y)
      (hkept : ∀ (y : Yaw) since cap, g { y with invalidSince := since, cap := cap } = g y) :=
    (yawSample_measured hp a b w hg).trans (capped_keeps hkept _)
  have hA := hread (g := Yaw.vaneA) (fun _ => rfl) fun _ _ _ => rfl
  have hB := hread (g := Yaw.vaneB) (fun _ => rfl) fun _ _ _ => rfl
  have hring := hread (g := Yaw.ring) (fun _ => rfl) fun _ _ _ => rfl
  have hlong := hread (g := Yaw.longMean) (fun _ => rfl) fun _ _ _ => rfl
  have hshort := hread (g := Yaw.shortMean) (fun _ => rfl) fun _ _ _ => rfl
  have hlongSpeed := hread (g := Yaw.longSpeed) (fun _ => rfl) fun _ _ _ => rfl
  have hshortSpeed := hread (g := Yaw.shortSpeed) (fun _ => rfl) fun _ _ _ => rfl
  have hcap := yawSample_measured hp a b w (g := fun y => (y.invalidSince, y.cap)) fun _ => rfl
  obtain ⟨hsince, hcap⟩ := Prod.mk.inj hcap
  have hrest := yawSample_field (f := fun u => (u.grid, u.therm, u.store, u.retained, u.conv.granted)) (fun _ => rfl)
    (fun _ => rfl) (fun _ _ => rfl) hp a b w
  simp only [Prod.mk.injEq] at hrest
  obtain ⟨hgrid, htherm, hstore, hretained, hgranted⟩ := hrest
  refine ⟨hread (g := Yaw.sampleNo) (fun _ => rfl) fun _ _ _ => rfl, hA, hB, ?_, ?_, ?_, ?_, ?_, fun m hm => ?_, fun hm => ?_,
    rfl, hgrid, htherm, hstore, hretained, hgranted⟩
  · rw [hA, hB]; exact hring
  · rw [hring]; exact hlong
  · rw [hring]; exact hshort
  · rw [hring]; exact hlongSpeed
  · rw [hring]; exact hshortSpeed
  · have hmean := capped_of_mean (hlong.symm.trans hm)
    exact ⟨hsince.trans hmean.1, hcap.trans hmean.2⟩
  · have hmean := capped_of_no_mean (hlong.symm.trans hm)
    exact ⟨hsince.trans hmean.1, hcap.trans hmean.2⟩

end Sys2Proof.Machine

/-! SUPPORT. The brakes: a move that is completed or that a lost proof ends is at rest, and BRAKE_FB stands after it (R107, R110). -/

namespace Sys2Proof.Machine

theorem isActive_of_faults {s t : State} (h : t.faults = s.faults) (c : FaultCode) (u : Nat) :
    isActive t c u = isActive s c u :=
  isActive_congr (by simp only [faultState, rowAt, h])

/-! ## What a stop about no-dwell windows leaves -/

/-- A completed stop judges the windows by YAW_DWELL_FORCED and the clearance alone (R117). -/
theorem judgeDwell_cases (kind : Option MoveKind) (forced : Bool) (s : State) :
    judgeDwell kind forced s = s ∨
    (∃ c, judgeDwell kind forced s = raise .yawDwellForced 1 (modYaw (fun y => { y with clearance := c }) s)) ∨
    judgeDwell kind forced s = endClearance s := by
  unfold judgeDwell
  repeat' split
  · exact .inl rfl
  · exact .inr (.inl ⟨_, rfl⟩)
  · exact .inl rfl
  · exact .inr (.inr rfl)
  · exact .inl rfl

theorem judgeDwell_faultState {c : FaultCode} (hc : .yawDwellForced ≠ c) (kind : Option MoveKind)
    (forced : Bool) (s : State) : faultState (judgeDwell kind forced s) c 1 = faultState s c 1 := by
  obtain h | ⟨_, h⟩ | h := judgeDwell_cases kind forced s
  · rw [h]
  · rw [h]; exact faultState_raise_of_ne hc _
  · rw [h]; exact faultState_clearFault_of_ne hc _

theorem atRest_judgeDwell {s : State} (hs : AtRest s) (kind : Option MoveKind) (forced : Bool) :
    AtRest (judgeDwell kind forced s) := by
  obtain h | ⟨_, h⟩ | h := judgeDwell_cases kind forced s <;> rw [h]
  · exact hs
  · exact hs
  · exact hs

/-! ## The end of a move -/

theorem atRest_withdrawClaim {s : State} (h : s.yaw.motion = .hold) : AtRest (withdrawClaim .yaw s) :=
  ⟨h, submitted_withdrawClaim .yaw s⟩

theorem atRest_completeWaiting (s : State) : AtRest (completeWaiting s) := atRest_withdrawClaim rfl

theorem atRest_completeMove (forced : Bool) (s : State) : AtRest (completeMove forced s) :=
  atRest_judgeDwell (atRest_withdrawClaim rfl) _ _

theorem completeMove_faultState {c : FaultCode} (hc : .yawDwellForced ≠ c) (forced : Bool)
    (s : State) : faultState (completeMove forced s) c 1 = faultState s c 1 := judgeDwell_faultState hc _ _ _

/-! ## BRAKE_FB -/

/-- A lost proof leaves the yaw controller at rest. -/
theorem atRest_brakeFailed (s : State) : AtRest (brakeFailed s) := by
  unfold brakeFailed
  extract_lets t u
  split
  · next hhold =>
    suffices h : AtRest u from atRest_modYaw rfl h
    simp only [u]
    split
    · exact atRest_completeWaiting _
    · next hsub => exact ⟨hhold, Bool.not_eq_true _ ▸ hsub⟩
  · exact atRest_completeMove _ _

theorem isActive_brakeFailed {s : State} (hrows : s.faults.rows.length = 79) : isActive (brakeFailed s) .brakeFb 1 = true := by
  have hraised : isActive (raise .brakeFb 1 s) .brakeFb 1 = true := isActive_raise hrows _
  unfold brakeFailed
  extract_lets t u
  split
  · have h : u.faults = t.faults := by
      simp only [u]; split <;> rfl
    exact (isActive_of_faults (s := t) (t := modYaw _ u) h _ _).trans hraised
  · exact (isActive_congr (completeMove_faultState (by decide) _ _)).trans hraised

theorem atRest_finish {s : State} (h : AtRest s) : AtRest (finish s) :=
  atRest_same (sameYaw_of (finish_yaw s) (finish_aux s)) h

/-- An event in which a proof is lost ends at rest in Hold with BRAKE_FB Active. -/
theorem brakeFailed_ends {s : State} (hp : s.powered = true) (hrows : s.faults.rows.length = 79) {f : State → State}
    {u : State} (hf : f (beginEvent s) = brakeFailed u) (hu : u.faults = s.faults) :
    AtRest (react f s) ∧ isActive (react f s) .brakeFb 1 = true := by
  refine ⟨?_, ?_⟩
  · rw [react_eq hp, hf]
    exact atRest_finish (settle_atRest (atRest_brakeFailed u))
  · rw [react_isActive hp (by decide), hf]
    exact isActive_brakeFailed (by rw [hu]; exact hrows)

/-! ## The settles and the proofs -/

theorem yawIdle_of_atRest {s : State} (h : AtRest s) : s.yaw.motion = .hold ∧ yawIdle s = true := by
  have hsub : submitted s .yaw = false := h.2
  exact ⟨h.1, by simp [yawIdle, h.1, hsub]⟩

theorem ventSettles_present {s : State} (hm : s.yaw.motion = .venting) (hset : s.yaw.settle.isSome = true)
    (hl : s.lines.residualProof = true) :
    ventSettles s = modYaw (fun y => { y with
        motion := .moving, brake := .residual, settle := none, reached := true, speed := .running
        driveCount := grantOf s .yaw / 11 }) s := by
  simp only [ventSettles, hm, hset, hl, and_self, if_true]

theorem ventSettles_absent {s : State} (hm : s.yaw.motion = .venting) (hset : s.yaw.settle.isSome = true)
    (hl : s.lines.residualProof = false) : ventSettles s = brakeFailed s := by
  simp only [ventSettles, hm, hset, hl, and_self, if_true, Bool.false_eq_true, if_false]

theorem pressurizeSettles_present {s : State} (hm : s.yaw.motion = .pressurizing) (hset : s.yaw.settle.isSome = true)
    (hl : s.lines.fullProof = true) : pressurizeSettles s = completeMove s.yaw.forced s := by
  simp only [pressurizeSettles, hm, hset, hl, and_self, if_true]

theorem pressurizeSettles_absent {s : State} (hm : s.yaw.motion = .pressurizing) (hset : s.yaw.settle.isSome = true)
    (hl : s.lines.fullProof = false) : pressurizeSettles s = brakeFailed s := by
  simp only [pressurizeSettles, hm, hset, hl, and_self, if_true, Bool.false_eq_true, if_false]

/-- The lines after a proof input changes. -/
def Lines.proofShown (l : Lines) (p : BrakeProof) (present : Bool) : Lines :=
  match p with
  | .residual => { l with residualProof := present }
  | .full => { l with fullProof := present }

theorem showProof_eq (p : BrakeProof) (present : Bool) (s : State) :
    showProof p present s = { s with lines := s.lines.proofShown p present } := by cases p <;> rfl

/-- The yaw record after a proof input changes: the proof of the brake state is watched. -/
def Yaw.proofWatched (clock : Nat) (p : BrakeProof) (present : Bool) (y : Yaw) : Yaw :=
  match p, y.brake with
  | .full, .full => { y with fullAbsent := if present then none else y.fullAbsent.or (some ⟨clock, 1000⟩) }
  | .residual, .residual => { y with residAbsent := if present then none else y.residAbsent.or (some ⟨clock, 1000⟩) }
  | _, _ => y

theorem absenceAfter_eq (clock : Nat) (present : Bool) (t : Option Countdown) :
    absenceAfter clock present t = if present then none else t.or (some ⟨clock, 1000⟩) := by
  cases t <;> rfl

theorem watchProof_eq (p : BrakeProof) (present : Bool) (s : State) :
    watchProof p present s = modYaw (Yaw.proofWatched s.clock p present) s := by
  cases p <;> cases hb : s.yaw.brake <;> simp only [watchProof, Yaw.proofWatched, modYaw, hb, absenceAfter_eq]

theorem proofWatched_full {y : Yaw} (h : y.brake = .full) (clock : Nat) (present : Bool) :
    y.proofWatched clock .full present =
      { y with fullAbsent := if present then none else y.fullAbsent.or (some ⟨clock, 1000⟩) } := by
  simp only [Yaw.proofWatched, h]

theorem proofWatched_residual {y : Yaw} (h : y.brake = .residual) (clock : Nat) (present : Bool) :
    y.proofWatched clock .residual present =
      { y with residAbsent := if present then none else y.residAbsent.or (some ⟨clock, 1000⟩) } := by
  simp only [Yaw.proofWatched, h]

/-- A proof is watched only in the brake state it holds in. -/
theorem proofWatched_of_ne {y : Yaw} {p : BrakeProof} (h : y.brake ≠ match p with | .full => .full | .residual => .residual)
    (clock : Nat) (present : Bool) : y.proofWatched clock p present = y := by
  unfold Yaw.proofWatched
  split
  · next hb => exact absurd hb h
  · next hb => exact absurd hb h
  · rfl

/-- The event of a proof that changes writes the line, and of the yaw record what watching it gives. -/
theorem exec_brakeProofChange {s : State} (hp : s.powered = true) (p : BrakeProof) (present : Bool) :
    ∃ t, exec (.brakeProofChange p present) s = .next t ∧ t.lines = s.lines.proofShown p present ∧
      t.yaw = s.yaw.proofWatched s.clock p present ∧
      t.conv = s.conv ∧ t.aux = s.aux ∧ t.cool = s.cool ∧ t.grid = s.grid := by
  have hev : exec (.brakeProofChange p present) s = .next (finish (modYaw (Yaw.proofWatched s.clock p present)
      (beginEvent { s with lines := s.lines.proofShown p present }))) := by
    refine congrArg Host.Outcome.next (?_ : event (watchProof p present) (showProof p present s) = _)
    rw [showProof_eq, event, if_pos (show _ = true from hp), watchProof_eq]
    rfl
  exact ⟨_, hev, finish_lines _, finish_yaw _, finish_conv _, finish_aux _, finish_cool _, finish_grid _⟩

theorem proofLost_of_watched {s : State} (p : BrakeProof)
    (h : match p with
      | .full => s.yaw.brake = .full ∧ s.yaw.fullAbsent.isSome = true
      | .residual => s.yaw.brake = .residual ∧ s.yaw.residAbsent.isSome = true) :
    ∃ f, proofLost p s = brakeFailed (modYaw f s) := by
  cases p
  · exact ⟨_, if_pos h⟩
  · exact ⟨_, if_pos h⟩

/-- Settles O43: the brake machine by its settles and proofs; every failed one ends at rest with BRAKE_FB. -/
theorem brakesFollowTheirProofs : Obligations.BrakesFollowTheirProofs := by
  unfold Obligations.BrakesFollowTheirProofs
  intro s hp ⟨hrows, _⟩
  refine ⟨fun hm hset hl => ?_, fun hm hset hl => ?_, fun hm hset hl => ?_, fun hm hset hl => ?_, fun present hb => ?_,
    fun present hb => ?_, fun p present hb => ?_, fun hb habs => ?_, fun hb habs _ => ?_⟩
  · have hvent := ventSettles_present (s := beginEvent s) hm hset hl
    exact ⟨_, congrArg Host.Outcome.next (react_eq hp ventSettles), by rw [hvent]; exact ⟨rfl, rfl, rfl, rfl, rfl⟩⟩
  · obtain ⟨hrest, hrow⟩ := brakeFailed_ends hp hrows (ventSettles_absent (s := beginEvent s) hm hset hl) rfl
    exact ⟨_, rfl, (yawIdle_of_atRest hrest).1, (yawIdle_of_atRest hrest).2, hrow⟩
  · have hrest : AtRest (react pressurizeSettles s) := by
      rw [react_eq hp, pressurizeSettles_present (s := beginEvent s) hm hset hl]
      exact atRest_finish (settle_atRest (atRest_completeMove _ _))
    exact ⟨_, rfl, yawIdle_of_atRest hrest⟩
  · obtain ⟨hrest, hrow⟩ := brakeFailed_ends hp hrows (pressurizeSettles_absent (s := beginEvent s) hm hset hl) rfl
    exact ⟨_, rfl, (yawIdle_of_atRest hrest).1, (yawIdle_of_atRest hrest).2, hrow⟩
  · obtain ⟨t, ht, hlines, hyaw, hkept⟩ := exec_brakeProofChange hp .full present
    exact ⟨t, ht, hlines, hyaw.trans (proofWatched_full hb _ _), hkept⟩
  · obtain ⟨t, ht, hlines, hyaw, hkept⟩ := exec_brakeProofChange hp .residual present
    exact ⟨t, ht, hlines, hyaw.trans (proofWatched_residual hb _ _), hkept⟩
  · obtain ⟨t, ht, hlines, hyaw, _⟩ := exec_brakeProofChange hp p present
    exact ⟨t, ht, hyaw.trans (proofWatched_of_ne hb _ _), by cases p <;> exact hlines⟩
  · obtain ⟨f, hf⟩ := proofLost_of_watched (s := beginEvent s) .full ⟨hb, habs⟩
    exact ⟨_, rfl, (brakeFailed_ends hp hrows hf rfl).2⟩
  · obtain ⟨f, hf⟩ := proofLost_of_watched (s := beginEvent s) .residual ⟨hb, habs⟩
    obtain ⟨hrest, hrow⟩ := brakeFailed_ends hp hrows hf rfl
    exact ⟨_, rfl, hrow, hrest.1⟩

end Sys2Proof.Machine

/-! SUPPORT. The stops of a move that runs, and the timers of the motion record (R110, R116). -/

namespace Sys2Proof.Machine

/-! ## A normal stop of a running move -/

theorem waiting_of_motion {s : State} (h : s.yaw.motion ≠ .hold) : waiting s = false := by simp [waiting, h]

/-- A move that is not in Hold has a normal stop of its own. -/
theorem normalStop_running {s : State} (h : s.yaw.motion ≠ .hold) : normalStop s = runningStop s := by
  rw [normalStop, waiting_of_motion h]
  rfl

/-- Outside every window the stop ramps down at once. -/
theorem runningStop_free {s : State} (hm : s.yaw.motion = .moving) (hc : s.yaw.continuing = none)
    (hw : windowNow s = none) : runningStop s = beginRamp .falling s := by
  simp only [runningStop, hm, hc, hw, Option.isSome_none, Bool.false_eq_true, if_false]

/-- Inside a window the stop is carried past it. -/
theorem runningStop_inside {s : State} {n : Nat} (hm : s.yaw.motion = .moving) (hc : s.yaw.continuing = none)
    (hw : windowNow s = some n) : runningStop s = modYaw (fun y => { y with continuing := some n }) s := by
  simp only [runningStop, hm, hc, hw, Option.isSome_none, Bool.false_eq_true, if_false]

/-! ## The three timers -/

theorem rampSettles_ramping {s : State} (hm : s.yaw.motion = .ramping) (hr : s.yaw.ramp.isSome = true) :
    rampSettles s = beginPressurize s := if_pos ⟨hm, hr⟩

/-- The yaw record with the manual timer stopped. -/
def Yaw.untimed (y : Yaw) : Yaw := { y with manualTimer := none }

theorem manualTimeout_moving {s : State} (ht : s.yaw.manualTimer.isSome = true) (hk : s.yaw.kind = some .manual)
    (hm : s.yaw.motion = .moving) : manualTimeout s = runningStop (modYaw Yaw.untimed s) := by
  have hkind : (modYaw Yaw.untimed s).yaw.kind = some .manual := hk
  have hmotion : (modYaw Yaw.untimed s).yaw.motion ≠ .hold := by simp [modYaw, Yaw.untimed, hm]
  rw [manualTimeout, if_pos ht]
  exact (if_pos hkind).trans (normalStop_running hmotion)

/-- Settles O44: each timer by the operation that its end runs. -/
theorem motionTimersExpire : Obligations.MotionTimersExpire := by
  unfold Obligations.MotionTimersExpire
  intro s hp
  refine ⟨fun hm hr => ?_, fun ht hk hm hc => ?_, ?_⟩
  · have hreact : react rampSettles s = finish (settle (beginPressurize (beginEvent s))) := by
      rw [react_eq hp, rampSettles_ramping (s := beginEvent s) hm hr]
    obtain ⟨hmotion, hbrake, hsettle⟩ : Pressing (startTimer s.clock 2000) (settle (beginPressurize (beginEvent s))) :=
      settle_pressing ⟨rfl, rfl, rfl⟩
    have hout : outside (finish (settle (beginPressurize (beginEvent s)))) = outside (beginPressurize (beginEvent s)) := by
      rw [outside_finish, outside_settle]
    refine ⟨_, congrArg Host.Outcome.next hreact, ?_, ?_, ?_, ?_, ?_, ?_, ?_⟩
    · rw [finish_yaw]; exact hmotion
    · rw [finish_yaw]; exact hbrake
    · rw [finish_yaw]; exact hsettle
    · rw [finish_yaw]; exact drivesSafe_settle _ (by rw [hbrake]; decide)
    · exact outside_field (f := State.grid) (fun _ => rfl) hout
    · exact outside_field (f := State.store) (fun _ => rfl) hout
    · exact outside_field (f := State.retained) (fun _ => rfl) hout
  · refine ⟨_, congrArg Host.Outcome.next (react_eq hp manualTimeout), ?_⟩
    rw [manualTimeout_moving (s := beginEvent s) ht hk hm]
    cases hw : windowNow s with
    | none =>
      rw [runningStop_free (s := modYaw Yaw.untimed (beginEvent s)) hm hc hw]
      exact ⟨rfl, rfl, rfl, rfl⟩
    | some n =>
      rw [runningStop_inside (s := modYaw Yaw.untimed (beginEvent s)) hm hc hw]
      exact ⟨rfl, hm, rfl⟩
  · have hquiet : Quiet { s with yaw := { s.yaw with rest := none } } (event (modYaw fun y => { y with rest := none }) s) :=
      quiet_event hp ⟨rfl, rfl, rfl, rfl, rfl, rfl, fun _ => rfl⟩
    obtain ⟨_, _, _, _, hyaw, _⟩ := id hquiet
    exact ⟨_, rfl, hyaw, hquiet⟩

end Sys2Proof.Machine

/-! SUPPORT. The yaw drives: their feedback and failed marks stand outside the reactions, and what a failed drive leaves (R113, R114). -/

namespace Sys2Proof.Machine

/-! ## The channels outside the reactions -/

theorem channelAt_outside (s : State) (j : Fin 10) : channelAt (outside s) j = (channelAt s j).outside :=
  List.getD_map (f := DriveChannel.outside) s.yaw.channels DriveChannel.atStart

/-- The reactions leave a channel's feedback. -/
theorem proven_of_outside {s t : State} (h : outside t = outside s) (j : Fin 10) :
    (channelAt t j).proven = (channelAt s j).proven :=
  outside_field (f := fun u => (channelAt u j).proven) (fun u => by rw [channelAt_outside]; rfl) h

/-- The reactions leave a channel's failed mark. -/
theorem failed_of_outside {s t : State} (h : outside t = outside s) (j : Fin 10) :
    (channelAt t j).failed = (channelAt s j).failed :=
  outside_field (f := fun u => (channelAt u j).failed) (fun u => by rw [channelAt_outside]; rfl) h

/-- The available channels are those of the table that bear no failed mark. -/
theorem availableChannels_congr {s t : State} (hslots : t.store.working.slots = s.store.working.slots)
    (hfailed : ∀ c, (channelAt t c).failed = (channelAt s c).failed) : availableChannels t = availableChannels s := by
  simp only [availableChannels, hslots, hfailed]

theorem availableChannels_of_outside {s t : State} (h : outside t = outside s) : availableChannels t = availableChannels s :=
  availableChannels_congr (outside_field (f := fun u => u.store.working.slots) (fun _ => rfl) h) (failed_of_outside h)

/-- A channel marked failed is not available. -/
theorem not_available_of_failed {s : State} {c : Fin 10} (h : (channelAt s c).failed = true) : c ∉ availableChannels s := by
  simp [availableChannels, h]

theorem channelAt_updateAt_self {s : State} {c : Fin 10} (h : s.yaw.channels.length = 10) (f : DriveChannel → DriveChannel) :
    channelAt (modYaw (fun y => { y with channels := updateAt y.channels c f }) s) c = f (channelAt s c) :=
  getD_updateAt_self (by rw [h]; exact c.isLt) f _

theorem channelAt_updateAt_ne {s : State} {c j : Fin 10} (h : j ≠ c) (f : DriveChannel → DriveChannel) :
    channelAt (modYaw (fun y => { y with channels := updateAt y.channels c f }) s) j = channelAt s j :=
  getD_updateAt_ne (fun e => h (Fin.ext e.symm)) _ f _

/-! ## YAW_DRIVES_LOW -/

/-- The judgement writes the claim's ceiling and its row. -/
theorem judgeDrives_eq (s : State) : ∃ aux faults, judgeDrives s = { s with aux := aux, faults := faults } := by
  unfold judgeDrives
  cases decide (availableDrives s < 4) <;> exact ⟨_, _, rfl⟩

/-- A field that neither the claims nor the fault table hold. -/
theorem judgeDrives_field {β : Type} {f : State → β} (hf : ∀ s aux faults, f { s with aux := aux, faults := faults } = f s)
    (s : State) : f (judgeDrives s) = f s := by
  obtain ⟨aux, faults, h⟩ := judgeDrives_eq s
  rw [h, hf]

/-- The row judged is Active where fewer than four drives are available. -/
theorem isActive_judgeDrives {s : State} (h : s.faults.rows.length = 79) :
    isActive (judgeDrives s) .yawDrivesLow 1 = decide (availableDrives s < 4) := by
  have hlt : rowOf .yawDrivesLow 1 < (setCeiling .yaw (11 * availableDrives s) s).faults.rows.length := by
    rw [show (setCeiling _ _ s).faults = s.faults from rfl, h]
    decide
  exact isActive_setFault hlt _

/-- No other row is judged. -/
theorem judgeDrives_faultState {c : FaultCode} {u : Nat} (h : rowOf .yawDrivesLow 1 ≠ rowOf c u) (s : State) :
    faultState (judgeDrives s) c u = faultState s c u := setFault_state_ne h _ _

/-! ## A drive fails -/

/-- The yaw record with channel `c` marked failed. -/
def Yaw.driveFailed (c : Fin 10) (y : Yaw) : Yaw :=
  { y with channels := updateAt y.channels c fun d => { d with failed := true, mismatch := none } }

/-- The yaw record with the feedback of channel `c`. -/
def Yaw.driveProven (c : Fin 10) (running : Bool) (y : Yaw) : Yaw :=
  { y with channels := updateAt y.channels c fun d => { d with proven := running } }

theorem driveFails_mismatch {s : State} {c : Fin 10} (h : (channelAt s c).mismatch.isSome = true) :
    driveFails c s = judgeDrives (raise .yawDrive (c + 1) (modYaw (Yaw.driveFailed c) s)) := if_pos h

theorem rowOf_yawDrive_lt (c : Fin 10) : rowOf .yawDrive (c + 1) < 79 := by revert c; decide

theorem yawDrivesLow_ne_yawDrive (c : Fin 10) : rowOf .yawDrivesLow 1 ≠ rowOf .yawDrive (c + 1) := by revert c; decide

theorem yawDrive_not_reactive (c : Fin 10) : reactiveRow (rowOf .yawDrive (c + 1)) = false := by revert c; decide

/-- Settles O45: the record and the failed mark stand outside the reactions, and so do both rows. -/
theorem driveFeedbackAndFailure : Obligations.DriveFeedbackAndFailure := by
  unfold Obligations.DriveFeedbackAndFailure
  intro s c hp ⟨hrows, _, _, hchannels, _⟩
  refine ⟨fun running => ?_, fun hmis => ?_⟩
  · have hout : outside (react id (modYaw (Yaw.driveProven c running) s)) = outside (modYaw (Yaw.driveProven c running) s) :=
      outside_react (s := modYaw (Yaw.driveProven c running) s) hp
    refine ⟨_, rfl, ?_, fun j hj => ?_, (outside_field (f := State.store) (fun _ => rfl) hout :),
      (outside_field (f := State.grid) (fun _ => rfl) hout :)⟩
    · exact (proven_of_outside hout c).trans (congrArg DriveChannel.proven (channelAt_updateAt_self hchannels _))
    · exact (proven_of_outside hout j).trans (congrArg DriveChannel.proven (channelAt_updateAt_ne hj _))
  · have hout := outside_react (f := driveFails c) hp
    rw [driveFails_mismatch (s := beginEvent s) hmis] at hout
    have hlen : (raise .yawDrive (c + 1) (modYaw (Yaw.driveFailed c) (beginEvent s))).faults.rows.length = 79 :=
      (raise_rows_length _ _ _).trans hrows
    have hfailed : (channelAt (react (driveFails c) s) c).failed = true := by
      rw [failed_of_outside hout, judgeDrives_field (f := fun u => channelAt u c) fun _ _ _ => rfl]
      exact congrArg DriveChannel.failed (channelAt_updateAt_self hchannels _)
    refine ⟨_, rfl, hfailed, ?_, not_available_of_failed hfailed, ?_, ?_, ?_⟩
    · rw [outside_isActive_of_still hout (yawDrive_not_reactive c),
        isActive_congr (judgeDrives_faultState (yawDrivesLow_ne_yawDrive c) _)]
      exact isActive_raise_of_lt (show _ < s.faults.rows.length by rw [hrows]; exact rowOf_yawDrive_lt c)
    · rw [outside_isActive_of_still hout (by decide), isActive_judgeDrives hlen]
      exact congrArg (fun l : List (Fin 10) => decide (l.length < 4))
        ((availableChannels_of_outside hout).trans (judgeDrives_field (fun _ _ _ => rfl) _)).symm
    · exact (outside_field (f := State.store) (fun _ => rfl) hout).trans (judgeDrives_field (fun _ _ _ => rfl) _)
    · exact (outside_field (f := State.grid) (fun _ => rfl) hout).trans (judgeDrives_field (fun _ _ _ => rfl) _)

end Sys2Proof.Machine

/-! SUPPORT. The panel's jog buttons: the jog that a press begins and the stop that a release gives (R118, R119). -/

namespace Sys2Proof.Machine

/-! ## The buttons -/

/-- The lines with a jog button held, or not. -/
def Lines.buttonSet (l : Lines) (d : Dir) (held : Bool) : Lines :=
  match d with
  | .cw => { l with heldCw := held }
  | .ccw => { l with heldCcw := held }

theorem holdButton_eq (d : Dir) (held : Bool) (s : State) :
    holdButton d held s = { s with lines := s.lines.buttonSet d held } := by cases d <;> rfl

/-- A button set leaves the conditions of a press. -/
theorem pressTaken_holdButton (d : Dir) (held : Bool) (s : State) :
    pressTaken d (beginEvent (holdButton d held s)) = pressTaken d s := by cases d <;> rfl

/-! ## Press and release -/

/-- A press is taken in Hold. -/
theorem motion_of_pressTaken {d : Dir} {s : State} (h : pressTaken d s = true) : s.yaw.motion = .hold := by
  simp only [pressTaken, Bool.and_eq_true, decide_eq_true_eq] at h
  obtain ⟨⟨_, hm⟩, _⟩ := h
  exact hm

/-- From Hold a jog starts its move, with its 10 s. -/
theorem jog_of_hold {s : State} (h : s.yaw.motion = .hold) (d : Dir) :
    jog d s = modYaw (fun y => { y with manualTimer := startTimer s.clock 10000 }) (startMove .manual d none (takeManual s)) := by
  simp only [jog, h, if_true]

/-- With no claim to withdraw, a press that is taken begins a jog. -/
theorem pressJog_idle {d : Dir} {s : State} (h : pressTaken d s = true) (hsub : submitted s .yaw = false) :
    pressJog d s = modYaw (fun y => { y with panelJog := some d, manualTimer := startTimer s.clock 10000 })
      (startMove .manual d none (takeManual s)) := by
  simp only [pressJog, h, hsub, if_true, Bool.false_eq_true, if_false, jog_of_hold (motion_of_pressTaken h)]
  rfl

/-- The yaw record with no button's jog. -/
def Yaw.unjogged (y : Yaw) : Yaw := { y with panelJog := none }

theorem releaseJog_held {d : Dir} {s : State} (h : s.yaw.panelJog = some d) :
    releaseJog d s = normalStop (modYaw Yaw.unjogged s) := if_pos h

theorem aside_releaseJog (d : Dir) (s : State) : aside (releaseJog d s) = aside s := by
  unfold releaseJog
  split
  · exact aside_normalStop _
  · rfl

/-- What a release leaves: a field that neither the reactions nor the fault table hold. -/
theorem release_field {β : Type} {f : State → β} (hout : ∀ s, f (outside s) = f s) (haside : ∀ s, f (aside s) = f s)
    {s : State} (hp : s.powered = true) (d : Dir) : f (react (releaseJog d) s) = f (beginEvent s) :=
  (react_field hout hp (releaseJog d)).trans (field_of_aside haside (aside_releaseJog d _))

/-- Settles O46: a press by the jog it begins, a release by its frame and by the stop of the move. -/
theorem panelButtonsJog : Obligations.PanelButtonsJog := by
  unfold Obligations.PanelButtonsJog
  intro s d hp
  have hpow (held : Bool) : (holdButton d held s).powered = true := by rw [holdButton_eq]; exact hp
  refine ⟨fun htaken hsub hother => ?_, ?_, fun hjog => ?_⟩
  · have htaken' := (pressTaken_holdButton d true s).trans htaken
    have hsub' : submitted (beginEvent (holdButton d true s)) .yaw = false := by rw [holdButton_eq]; exact hsub
    have hexec : exec (.jogButtonPress d) s = .next (react (pressJog d) (holdButton d true s)) :=
      congrArg (fun f => Host.Outcome.next (react f (holdButton d true s))) (if_neg (by rw [hother]; decide))
    refine ⟨_, hexec.trans (congrArg Host.Outcome.next (react_eq (hpow true) _)), ?_⟩
    rw [pressJog_idle htaken' hsub', holdButton_eq]
    exact ⟨rfl, rfl, rfl, rfl, rfl, submitted_submitClaim .., rfl⟩
  · refine ⟨_, rfl, ?_, ?_, ?_, ?_⟩
    · have hlines := release_field (f := State.lines) (fun _ => rfl) (fun _ => rfl) (hpow false) d
      rw [hlines, holdButton_eq]
      cases d <;> rfl
    · exact (release_field (f := State.store) (fun _ => rfl) (fun _ => rfl) (hpow false) d).trans (by rw [holdButton_eq]; rfl)
    · exact (release_field (f := State.retained) (fun _ => rfl) (fun _ => rfl) (hpow false) d).trans (by rw [holdButton_eq]; rfl)
    · exact (release_field (f := State.grid) (fun _ => rfl) (fun _ => rfl) (hpow false) d).trans (by rw [holdButton_eq]; rfl)
  · refine ⟨_, congrArg Host.Outcome.next (react_eq (hpow false) _), fun hm hc hw => ?_⟩
    rw [holdButton_eq, releaseJog_held (s := beginEvent { s with lines := _ }) hjog]
    have hmotion : (modYaw Yaw.unjogged (beginEvent { s with lines := s.lines.buttonSet d false })).yaw.motion = .moving := hm
    rw [normalStop_running (by rw [hmotion]; decide), runningStop_free hmotion hc hw]
    exact ⟨rfl, rfl⟩

end Sys2Proof.Machine

/-! SUPPORT. The drive table and the twist reference: the channels and rows that a new table returns, and the position that a reference writes (R113, R126). -/

namespace Sys2Proof.Machine

/-! ## Requests to the yaw controller -/

theorem served_yaw (s : State) : (served s).yaw = s.yaw := by unfold served supervisionReload; split <;> rfl

/-- A reply moves no row but LINK_OVERRUN. -/
theorem replied_faultState {c : FaultCode} {u : Nat} (h : rowOf .linkOverrun 1 ≠ rowOf c u) (s : State) :
    faultState (replied s) c u = faultState s c u := by
  simp only [replied]
  split
  · exact clearFault_state_ne h _
  · rfl

/-- A row that neither the reactions nor a reply move stands at the end of a request as its block leaves it. -/
theorem beyond_isActive {c : FaultCode} {u : Nat} (hc : reactiveRow (rowOf c u) = false)
    (h : rowOf .linkOverrun 1 ≠ rowOf c u) {r t : State} (ht : Beyond (replied r) t) : isActive t c u = isActive r c u :=
  (outside_isActive_of_still ht hc).trans (isActive_congr (replied_faultState h r))

/-- What lasts of a state beside the records that the blocks run on. -/
def lasting (s : State) : Store × Grid × Thermal × Retained := (s.store, s.grid, s.therm, s.retained)

theorem lasting_beyond {r t : State} (h : Beyond (replied r) t) : lasting t = lasting r :=
  beyond_field (fun _ => rfl) (fun _ _ _ => rfl) h

/-! ## The drives returned (R113) -/

/-- The yaw record with the failed marks of some channels removed. -/
def Yaw.drivesReturned (held : List (Fin 10)) (y : Yaw) : Yaw :=
  { y with channels := y.channels.mapIdx fun i c => if held.any fun k => k.val = i then { c with failed := false } else c }

/-- A channel returned bears no failed mark. -/
theorem failed_drivesReturned {held : List (Fin 10)} {c : Fin 10} (hc : c ∈ held) (s : State) :
    (channelAt (modYaw (Yaw.drivesReturned held) s) c).failed = false := by
  have hany : (held.any fun k => k.val = c.val) = true := List.any_eq_true.mpr ⟨c, hc, decide_eq_true rfl⟩
  simp only [channelAt, modYaw, Yaw.drivesReturned, List.getD_eq_getElem?_getD, List.getElem?_mapIdx]
  cases s.yaw.channels[c.val]? with
  | none => rfl
  | some d => simp only [Option.map_some, Option.getD_some, hany, if_true]

/-- A row once cleared is Active after no clear. -/
theorem isActive_clearFault_of_not {c d : FaultCode} {u v : Nat} {s : State} (h : isActive s c u = false) :
    isActive (clearFault d v s) c u = false := by
  by_cases hrow : rowOf d v = rowOf c u
  · have hself : faultState (clearFault d v s) d v = faultState (clearFault d v s) c u := by
      simp only [faultState, hrow]
    exact (congrArg (fun x : RowState => decide (x = .active)) hself).symm.trans (isActive_clearFault d v s)
  · exact (isActive_congr (clearFault_state_ne hrow s)).trans h

/-- Clearing the rows of some channels leaves none of them Active. -/
theorem isActive_clearDrives {held : List (Fin 10)} {c : Fin 10} (hc : c ∈ held) (s : State) :
    isActive (forEach held (fun k => clearFault .yawDrive (k + 1)) s) .yawDrive (c + 1) = false := by
  induction held generalizing s with
  | nil => nomatch hc
  | cons k rest ih =>
    obtain rfl | hrest := List.mem_cons.mp hc
    · exact forEach_keeps (P := fun t => isActive t .yawDrive (c + 1) = false) (fun _ _ => isActive_clearFault_of_not) rest _
        (isActive_clearFault _ _ _)
    · exact ih hrest _

theorem returnDrives_eq (held : List (Fin 10)) (s : State) :
    returnDrives held s =
      judgeDrives (forEach held (fun c => clearFault .yawDrive (c + 1)) (modYaw (Yaw.drivesReturned held) s)) := rfl

/-- What drives returned leave: a field that the claims, the fault table and the channels do not hold. -/
theorem returnDrives_field {β : Type} {f : State → β} (hjudge : ∀ s aux faults, f { s with aux := aux, faults := faults } = f s)
    (hclear : ∀ c u s, f (clearFault c u s) = f s) (held : List (Fin 10)) (s : State) :
    f (returnDrives held s) = f (modYaw (Yaw.drivesReturned held) s) :=
  (judgeDrives_field hjudge _).trans (forEach_field (fun _ _ => hclear _ _ _) held _)

theorem failed_returnDrives {held : List (Fin 10)} {c : Fin 10} (hc : c ∈ held) (s : State) :
    (channelAt (returnDrives held s) c).failed = false :=
  (returnDrives_field (f := fun u => (channelAt u c).failed) (fun _ _ _ => rfl) (fun _ _ _ => rfl) held s).trans
    (failed_drivesReturned hc s)

theorem isActive_returnDrives {held : List (Fin 10)} {c : Fin 10} (hc : c ∈ held) (s : State) :
    isActive (returnDrives held s) .yawDrive (c + 1) = false :=
  (isActive_congr (judgeDrives_faultState (yawDrivesLow_ne_yawDrive c) _)).trans (isActive_clearDrives hc _)

/-! ## SetDriveSlots -/

/-- The effect of a SetDriveSlots. -/
def takeSlots (slots : List (Option (Fin 10))) (s : State) : State :=
  returnDrives (slots.filterMap id) (modWorking (fun w => { w with slots := slots }) s)

theorem serve_setDriveSlots {s : State} (h : notRemote s = false) (hlock : s.store.lock = false) (hs : storing s = false)
    (hm : s.yaw.motion = .hold) {body : List Byte} (hrange : ∀ i, i < 8 → natAt body i ≤ 10)
    (hdistinct : distinctChannels ((slotsOf body).filterMap id) = true) :
    serve .setDriveSlots body s = (.ok, settle (takeSlots (slotsOf body) s)) := by
  have hin : ([0, 1, 2, 3, 4, 5, 6, 7].any fun i => natAt body i > 10) = false := by
    refine List.any_eq_false.mpr fun i hi => ?_
    have hlt : i < 8 := List.mem_range.mp hi
    simpa using hrange i hlt
  simp only [serve, serveSetDriveSlots, h, hlock, hs, hm, hin, hdistinct, ne_eq, not_true_eq_false, Bool.false_eq_true, or_self,
    Bool.not_true, if_false, accept, takeSlots]

theorem linkOverrun_ne_yawDrive (c : Fin 10) : rowOf .linkOverrun 1 ≠ rowOf .yawDrive (c + 1) := by revert c; decide

theorem setDriveSlots_answered {s : State} {tag : Byte} (h : HostReady s) (ht : tag ≠ 0) {body : List Byte}
    (hlen : body.length = 8) (hrange : ∀ i, i < 8 → natAt body i ≤ 10)
    (hdistinct : distinctChannels ((slotsOf body).filterMap id) = true) (hlock : s.store.lock = false)
    (hs : s.store.storing = none) (hm : s.yaw.motion = .hold) :
    ∃ t, exec (.setDriveSlots tag body) s = .next t ∧ Answered s t 0xD2 tag .ok [] ∧
      Beyond (replied (takeSlots (slotsOf body) (served s))) t := by
  obtain ⟨hstore, -⟩ := served_frame s
  have hstoring : storing (served s) = false := by rw [storing, hstore, hs]; rfl
  obtain ⟨hans, -, hbeyond⟩ := settled_answered (k := .setDriveSlots) (by decide) (decide_eq_true hlen) h ht
    (serve_setDriveSlots (notRemote_served h) (hstore ▸ hlock) hstoring (by rw [served_yaw]; exact hm) hrange hdistinct)
  exact ⟨_, rfl, hans, hbeyond⟩

/-! ## The twist record of a reference (R126) -/

/-- The record written for a reference has that reference as its position. -/
theorem position_referenceRecord (ref : Int) (a : Fin 3600) : (referenceRecord ref a).position = ref := by
  have hturns : Int.fdiv ref 3600 = ref / 3600 := Int.fdiv_eq_ediv_of_nonneg ref (by decide)
  simp only [referenceRecord, TwistRecord.position, referred, hturns]
  omega

theorem ref_referenceRecord (ref : Int) (a : Fin 3600) : (referenceRecord ref a).ref < 3600 := Nat.mod_lt _ (by decide)

/-- `t` is `s` but for its yaw record and its fault table, in which TWIST_SENSOR stands. -/
structure TwistRows (s t : State) : Prop where
  rest : ∃ yaw faults, t = { s with yaw := yaw, faults := faults }
  sensor : isActive t .twistSensor 1 = isActive s .twistSensor 1

theorem TwistRows.refl (s : State) : TwistRows s s := ⟨⟨s.yaw, s.faults, rfl⟩, rfl⟩

theorem TwistRows.trans {s t u : State} (h : TwistRows s t) (k : TwistRows t u) : TwistRows s u := by
  obtain ⟨⟨_, _, rfl⟩, hs⟩ := h
  obtain ⟨⟨yaw, faults, rfl⟩, ks⟩ := k
  exact ⟨⟨yaw, faults, rfl⟩, ks.trans hs⟩

theorem TwistRows.raise {c : FaultCode} (h : c ≠ .twistSensor) (s : State) : TwistRows s (raise c 1 s) :=
  ⟨⟨_, _, rfl⟩, isActive_congr (faultState_raise_of_ne h s)⟩

theorem TwistRows.clear {c : FaultCode} (h : c ≠ .twistSensor) (s : State) : TwistRows s (clearFault c 1 s) :=
  ⟨⟨_, _, rfl⟩, isActive_congr (faultState_clearFault_of_ne h s)⟩

theorem TwistRows.modYaw (f : Yaw → Yaw) (s : State) : TwistRows s (modYaw f s) := ⟨⟨_, _, rfl⟩, rfl⟩

theorem twistRows_judgeSoftLimit (s : State) : TwistRows s (judgeSoftLimit s) := by
  unfold judgeSoftLimit
  repeat' split
  · exact (TwistRows.raise (by decide) s).trans (.modYaw _ _)
  · exact .refl s
  · exact .refl s

theorem twistRows_judgeUntwistEnd (s : State) : TwistRows s (judgeUntwistEnd s) := by
  unfold judgeUntwistEnd
  repeat' split
  · exact (((TwistRows.modYaw _ s).trans (.clear (by decide) _)).trans (.clear (by decide) _)).trans (.clear (by decide) _)
  · exact .refl s
  · exact .refl s

theorem twistRows_clearanceBecomesDue (s : State) : TwistRows s (clearanceBecomesDue s) := by
  unfold clearanceBecomesDue
  repeat' split
  · exact .refl s
  · exact .refl s
  · exact (TwistRows.modYaw _ s).trans (.raise (by decide) _)

/-- The state in which a reference's rules on θ begin: the record written, the windows in force, TWIST_SENSOR cleared. -/
def referenceWritten (ref : Int) (a : Nat) (s : State) : State :=
  clearFault .twistSensor 1 (windowsAct { s with retained := { s.retained with twist := referenceRecord ref a } })

theorem twistRows_setReference (ref : Int) (a : Nat) (s : State) : TwistRows (referenceWritten ref a s) (setReference ref a s) :=
  ((twistRows_judgeSoftLimit _).trans (twistRows_judgeUntwistEnd _)).trans (twistRows_clearanceBecomesDue _)

/-- What a reference leaves: a field that the yaw record and the fault table do not hold. -/
theorem setReference_field {β : Type} {f : State → β} (hf : ∀ s yaw faults, f { s with yaw := yaw, faults := faults } = f s)
    (ref : Int) (a : Nat) (s : State) :
    f (setReference ref a s) = f { s with retained := { s.retained with twist := referenceRecord ref a } } := by
  obtain ⟨yaw, faults, h⟩ := (twistRows_setReference ref a s).rest
  rw [h, hf, referenceWritten, clearFault, windowsAct, modYaw]
  exact hf { s with retained := _ } _ _

theorem isActive_setReference (ref : Int) (a : Nat) (s : State) : isActive (setReference ref a s) .twistSensor 1 = false :=
  (twistRows_setReference ref a s).sensor.trans (isActive_clearFault _ _ _)

/-! ## SetTwistReference -/

theorem intAt_pair (x : BitVec 16) : intAt (pair x) 0 = x.toInt := congrArg BitVec.toInt (append_halves x)

theorem serve_setTwistReference {s : State} (h : notRemote s = false) {a : Fin 3600} (henc : s.yaw.encoder = some (.angle a))
    (hidle : yawIdle s = true) {ref : BitVec 16} (hrange : ref.toInt.natAbs ≤ 10800)
    (hlimit : ref.toInt.natAbs ≤ s.store.working.hardLimit) :
    serve .setTwistReference (pair ref) s = (.ok, settle (setReference ref.toInt a s)) := by
  simp only [serve, serveSetTwistReference, h, intAt_pair, Nat.not_lt.mpr hrange, Nat.not_lt.mpr hlimit, hidle, henc,
    Bool.not_true, Bool.false_eq_true, if_false, accept]

theorem yawIdle_served (s : State) : yawIdle (served s) = yawIdle s := by
  simp only [yawIdle, submitted, claimOf, served_yaw, served_aux]

theorem setTwistReference_answered {s : State} {tag : Byte} (h : HostReady s) (ht : tag ≠ 0) {a : Fin 3600}
    (henc : s.yaw.encoder = some (.angle a)) (hidle : yawIdle s = true) {ref : BitVec 16}
    (hrange : ref.toInt.natAbs ≤ 10800) (hlimit : ref.toInt.natAbs ≤ s.store.working.hardLimit) :
    ∃ t, exec (.setTwistReference tag (pair ref)) s = .next t ∧ Answered s t 0xD5 tag .ok [] ∧
      Beyond (replied (setReference ref.toInt a (served s))) t := by
  obtain ⟨hstore, -⟩ := served_frame s
  obtain ⟨hans, -, hbeyond⟩ := settled_answered (k := .setTwistReference) (by decide) rfl h ht
    (serve_setTwistReference (notRemote_served h) (by rw [served_yaw]; exact henc) (by rw [yawIdle_served]; exact hidle) hrange
      (by rw [hstore]; exact hlimit))
  exact ⟨_, rfl, hans, hbeyond⟩

/-- Settles O20: each request by its block's effect, of which the reactions leave what is stated. -/
theorem driveSlotsAndTwistReference : Obligations.DriveSlotsAndTwistReference := by
  unfold Obligations.DriveSlotsAndTwistReference
  intro s tag h ht
  obtain ⟨hstore, hgrid, htherm, hretained⟩ := served_frame s
  refine ⟨fun body hlen hrange hdistinct hlock hs hm => ?_, fun a henc hidle ref hrange hlimit => ?_⟩
  · obtain ⟨t, hexec, hans, hbeyond⟩ := setDriveSlots_answered h ht hlen hrange hdistinct hlock hs hm
    have hrest := (lasting_beyond hbeyond).trans
      (returnDrives_field (f := lasting) (fun _ _ _ => rfl) (fun _ _ _ => rfl) ((slotsOf body).filterMap id) _)
    simp only [lasting, modYaw, modWorking, hstore, hgrid, htherm, hretained, Prod.mk.injEq] at hrest
    obtain ⟨hstore', hgrid', htherm', hretained'⟩ := hrest
    refine ⟨t, hexec, hans, hstore', fun c hc => ⟨?_, ?_⟩, hgrid', htherm', hretained'⟩
    · exact (beyond_field (f := fun u => (channelAt u c).failed) (fun u => by rw [channelAt_outside]; rfl) (fun _ _ _ => rfl)
        hbeyond).trans (failed_returnDrives hc _)
    · exact (beyond_isActive (yawDrive_not_reactive c) (linkOverrun_ne_yawDrive c) hbeyond).trans (isActive_returnDrives hc _)
  · obtain ⟨t, hexec, hans, hbeyond⟩ := setTwistReference_answered h ht henc hidle hrange hlimit
    have hrest := (lasting_beyond hbeyond).trans (setReference_field (f := lasting) (fun _ _ _ => rfl) _ _ _)
    simp only [lasting, hstore, hgrid, htherm, hretained, Prod.mk.injEq] at hrest
    obtain ⟨hstore', hgrid', htherm', hretained'⟩ := hrest
    refine ⟨t, hexec, hans, ?_, ?_, ?_, ?_, ?_, hstore', hgrid', htherm'⟩
    · rw [theta, hretained']; exact congrArg some (position_referenceRecord ref.toInt a)
    · rw [hretained']; rfl
    · rw [hretained']; exact ref_referenceRecord _ a
    · exact (beyond_isActive (by decide) (by decide) hbeyond).trans (isActive_setReference _ _ _)
    · rw [hretained']

end Sys2Proof.Machine

/-! SUPPORT. A YawCommand in a state that holds a stopping string in the precharge queue: the mode controller reaches Storm in the command's own event (R8, R10, R118, R140). -/

namespace Sys2Proof.Machine

/-- On the way to Storm with the first string stopping, and in the precharge queue too; that it is reachable is not claimed. The claim
holds its 25 kW, and the walk owed finds the battery's 90 kW reserved: the string begins its precharge, the walk takes the grant
back, the string falls to Offline, and with every string done the next turn enters Storm. -/
def stoppingInQueue : State :=
  let s := modStr .s1 (fun r => { r with state := .stopping }) State.reset
  { s with
    mode := { s.mode with current := .generating, target := some .storm }
    conv := { s.conv with queue := [.s1] }
    store := { s.store with working := { s.store.working with controlReserve := 50, brakeReserve := 40 } }
    aux := { s.aux with
      source := .battery, walkDue := true
      claims := { s.aux.claims with
        precharge := { s.aux.claims.precharge with submitted := true, grant := 25, ceiling := 25 } } } }

theorem hostReady_stoppingInQueue : HostReady stoppingInQueue := by
  simp only [HostReady, PortReady]
  decide +kernel

/-- The Stop sets the manual mark, and the Storm reached in its event clears it. -/
theorem stop_stoppingInQueue :
    ∃ t, exec (.yawCommandStop 1 [0, 0]) stoppingInQueue = .next t ∧ t.mode.current = .storm ∧ t.yaw.manualMark = false :=
  ⟨_, rfl, by decide +kernel, by decide +kernel⟩

/-- Refutes O22: its premise on a target Storm leaves out that the stopping string must not stand in the precharge queue, from
which the reactions can take it to Offline. A YawCommand Stop in `stoppingInQueue` ends in Storm with the manual mark cleared. -/
theorem not_yawCommandsSetTheManualMark : ¬ Obligations.YawCommandsSetTheManualMark := by
  unfold Obligations.YawCommandsSetTheManualMark
  intro h
  have hstopping : stoppingInQueue.mode.target = some .storm → ∃ k, (strOf stoppingInQueue k).state = .stopping :=
    fun _ => ⟨.s1, by decide +kernel⟩
  obtain ⟨_, _, _, hstop, _⟩ := h stoppingInQueue 1 [0, 0] hostReady_stoppingInQueue (by decide) rfl (by decide +kernel)
    (by decide +kernel) (by decide +kernel) (by decide +kernel) hstopping 0 (by decide +kernel)
  obtain ⟨t, ht, _, hset, _⟩ := hstop
  obtain ⟨u, hu, _, hcleared⟩ := stop_stoppingInQueue
  obtain rfl := Host.Outcome.next.inj (ht.symm.trans hu)
  exact absurd (hset.symm.trans hcleared) (by decide)

end Sys2Proof.Machine

/-! SUPPORT. The steps before step 5 of a yaw sample: a storm's wind enters Storm, and the rows keep their places (R141). -/

namespace Sys2Proof.Machine

/-! ## The length of the fault table -/

theorem sampleVanes_rows_length (a b : Reading) (wind : Nat) (s : State) :
    (sampleVanes a b wind s).faults.rows.length = s.faults.rows.length := by
  have hboth (x y : Bool) (f : Yaw → Yaw) :
      (setFault .vaneFault 2 x (setFault .vaneFault 1 y (modYaw f s))).faults.rows.length = s.faults.rows.length :=
    (setFault_rows_length ..).trans (setFault_rows_length ..)
  unfold sampleVanes
  extract_lets
  repeat' split
  · exact (raise_rows_length ..).trans (hboth ..)
  · exact (clearFault_rows_length ..).trans (hboth ..)
  · exact hboth ..

theorem sampleWind_rows_length (a b : Reading) (wind : Nat) (s : State) :
    (sampleWind a b wind s).faults.rows.length = s.faults.rows.length :=
  sampleVanes_rows_length a b wind (modYaw (fun y => { y with sampleNo := y.sampleNo + 1 }) s)

theorem rows_length_of_beside {s t : State} (h : beside t = beside s) : t.faults.rows.length = s.faults.rows.length :=
  outside_rows_length (outside_of_beside h)

theorem testStormEntry_rows_length (s : State) : (testStormEntry s).faults.rows.length = s.faults.rows.length := by
  unfold testStormEntry
  split
  · exact (rows_length_of_beside (beside_changeMode ..)).trans (raise_rows_length ..)
  · rfl

theorem testCalm_faults (s : State) : (testCalm s).faults = s.faults := by
  unfold testCalm; split <;> rfl

theorem clearBrakeFault_rows_length (s : State) : (clearBrakeFault s).faults.rows.length = s.faults.rows.length := by
  unfold clearBrakeFault
  split
  · exact clearFault_rows_length ..
  · rfl

/-- The state that step 5 of a yaw sample finds, from the one that the wind leaves. -/
def sampleJudged (i : State) : State := judgeYaw (clearBrakeFault (testCalm (testStormEntry i)))

theorem sampleJudged_rows_length (i : State) : (sampleJudged i).faults.rows.length = i.faults.rows.length :=
  calc (sampleJudged i).faults.rows.length = (clearBrakeFault (testCalm (testStormEntry i))).faults.rows.length :=
        rows_length_of_beside (beside_judgeYaw _)
    _ = (testCalm (testStormEntry i)).faults.rows.length := clearBrakeFault_rows_length _
    _ = (testStormEntry i).faults.rows.length := by rw [testCalm_faults]
    _ = i.faults.rows.length := testStormEntry_rows_length i

/-- The clock and the lines stand as the sample finds them. -/
theorem sampleJudged_field {β : Type} {f : State → β} (hf : ∀ s, f (aside s) = f s) (i : State) :
    f (sampleJudged i) = f i := field_of_aside hf (by simp [sampleJudged])

/-- The wind leaves every field but the yaw record and the fault table. -/
theorem sampleWind_field {β : Type} {f : State → β} (hf : ∀ s yaw faults, f { s with yaw := yaw, faults := faults } = f s)
    (a b : Reading) (wind : Nat) (s : State) : f (sampleWind a b wind s) = f s := by
  obtain ⟨faults, h⟩ := sampleWind_rowsOnly a b wind s
  rw [h]
  exact hf s _ _

/-! ## The entry to Storm (R141) -/

theorem stopStrings_faults (b : Bool) (s : State) : (stopStrings b s).faults = s.faults := by
  have hempty (t : State) : (emptyQueue t).faults = t.faults := by unfold emptyQueue; split <;> rfl
  exact (hempty _).trans (forEach_field (g := fun t => t.faults) (stopOne_faults b) _ s)

theorem stopStrings_queue (b : Bool) (s : State) : (stopStrings b s).conv.queue = [] := by
  unfold stopStrings emptyQueue
  split
  · assumption
  · rfl

theorem coolOnMode_faults (m : Mode) (s : State) : (coolOnMode m s).faults = s.faults := by
  simp only [coolOnMode]
  repeat' split
  all_goals rfl

/-- Storm entered from another mode: the strings stopped, the neighbours told. -/
theorem changeMode_storm {s : State} (h : s.mode.current ≠ .storm) (c : Cause) :
    changeMode .storm none c s =
      yawOnMode .storm (coolOnMode .storm (stopStrings false { s with mode := s.mode.changed s.clock .storm none c })) := by
  have hne : ¬Mode.storm = s.mode.current := fun e => h e.symm
  simp only [changeMode, handMode, stringsOnMode, hne, h, false_and, if_false, ne_eq, not_false_eq_true, decide_true, if_true]

/-- What a storm's wind makes of a state: Storm with no target, its row Active, no manual mark, no string queued or running. -/
structure StormEntered (before : Mode) (s : State) : Prop where
  current : s.mode.current = .storm
  target : s.mode.target = none
  cause : s.mode.cause = .stormWind
  previous : s.mode.previous = before
  row : isActive s .stormEntered 1 = true
  mark : s.yaw.manualMark = false
  queue : s.conv.queue = []
  stopped : NoneRuns s

theorem stormEntered_changeMode {s : State} (h : s.mode.current ≠ .storm) (hrows : s.faults.rows.length = 79) :
    StormEntered s.mode.current (changeMode .storm none .stormWind (raise .stormEntered 1 s)) := by
  have hmode : (changeMode .storm none .stormWind (raise .stormEntered 1 s)).mode =
      s.mode.changed s.clock .storm none .stormWind :=
    (changeMode_mode ..).trans (if_neg fun e => h e.1.symm)
  have heq := changeMode_storm (s := raise .stormEntered 1 s) h .stormWind
  have hconv : (changeMode .storm none .stormWind (raise .stormEntered 1 s)).conv =
      (stopStrings false { raise .stormEntered 1 s with mode := s.mode.changed s.clock .storm none .stormWind }).conv := by
    rw [heq, yawOnMode_conv, coolOnMode_conv]; rfl
  refine ⟨by rw [hmode]; rfl, by rw [hmode]; rfl, by rw [hmode]; rfl, ?_, ?_, by rw [heq]; rfl,
    by rw [hconv]; exact stopStrings_queue _ _, noneRuns_conv hconv (noneRuns_stopStrings _ _)⟩
  · rw [hmode]; exact if_neg fun e => h e.symm
  · rw [heq]
    have hrow : isActive (raise .stormEntered 1 s) .stormEntered 1 = true := isActive_raise hrows _
    refine (isActive_congr (faultState_clearFault_of_ne (by decide) _)).trans (Eq.trans (isActive_of_faults ?_ _ _) hrow)
    exact (coolOnMode_faults ..).trans (stopStrings_faults ..)

/-- The storm entered stands in a state with the same rows of its code, the same mode but for the calm timer, and the same strings. -/
theorem StormEntered.congr {before : Mode} {s t : State} (h : StormEntered before s)
    (hmode : ∃ calm, t.mode = { s.mode with calm := calm }) (hrow : isActive t .stormEntered 1 = isActive s .stormEntered 1)
    (hmark : t.yaw.manualMark = s.yaw.manualMark) (hconv : t.conv = s.conv) : StormEntered before t := by
  obtain ⟨calm, hmode⟩ := hmode
  obtain ⟨hcur, htgt, hcause, hprev, hact, hfalse, hqueue, hstop⟩ := h
  exact ⟨by rw [hmode]; exact hcur, by rw [hmode]; exact htgt, by rw [hmode]; exact hcause, by rw [hmode]; exact hprev,
    hrow.trans hact, hmark.trans hfalse, by rw [hconv]; exact hqueue, noneRuns_conv hconv hstop⟩

theorem StormEntered.calm {before : Mode} {s : State} (h : StormEntered before s) : StormEntered before (testCalm s) := by
  unfold testCalm
  split
  · exact h.congr ⟨_, rfl⟩ rfl rfl rfl
  · exact h

theorem StormEntered.brake {before : Mode} {s : State} (h : StormEntered before s) :
    StormEntered before (clearBrakeFault s) := by
  unfold clearBrakeFault
  split
  · exact h.congr ⟨_, rfl⟩ (isActive_congr (faultState_clearFault_of_ne (by decide) s)) rfl rfl
  · exact h

/-- The manual mark and the rows are not the yaw mode's to write. -/
theorem judgeYaw_mark (s : State) : ((judgeYaw s).yaw.manualMark, (judgeYaw s).faults) = (s.yaw.manualMark, s.faults) := by
  simp only [judgeYaw, yawModeEffect, forcedStop, modeStop, runningStop]
  repeat' split
  all_goals rfl

theorem StormEntered.judged {before : Mode} {s : State} (h : StormEntered before s) : StormEntered before (judgeYaw s) := by
  have hkept := judgeYaw_mark s
  simp only [Prod.mk.injEq] at hkept
  obtain ⟨hmark, hfaults⟩ := hkept
  exact h.congr ⟨_, judgeYaw_mode s⟩ (isActive_of_faults hfaults _ _) hmark (judgeYaw_conv s)

/-- A storm's wind enters Storm from a mode that it may leave. -/
theorem stormEntered_sampleJudged {i : State} (hfrom : stormFrom i.mode.current = true) (hchain : i.lines.chainClosed = true)
    (hwind : (i.yaw.longSpeed.any fun w => w ≥ 250) = true) (hrows : i.faults.rows.length = 79) :
    StormEntered i.mode.current (sampleJudged i) := by
  have hne : i.mode.current ≠ .storm := by
    intro e
    rw [e] at hfrom
    exact absurd hfrom (by decide)
  have hentry : testStormEntry i = changeMode .storm none .stormWind (raise .stormEntered 1 i) :=
    if_pos ⟨hfrom, hchain, hwind⟩
  have h := stormEntered_changeMode hne hrows
  rw [← hentry] at h
  exact h.calm.brake.judged

end Sys2Proof.Machine

/-! SUPPORT. Step 5 of a yaw sample: its stop causes, the untwist wait, the starts and the clearance (R109, R110, R116, R117, R130 to R132, R134). -/

namespace Sys2Proof.Machine

/-! ## The stop causes -/

theorem sampleStops_of_kind {s : State} (h : sampleStops s = true) : s.yaw.kind ≠ some .clearance := by
  intro hk
  rw [sampleStops, hk] at h
  exact Bool.false_ne_true h

/-- The stop causes leave the state, withdraw a waiting claim, or stop the running move. -/
theorem testStops_cases (s : State) :
    testStops s = s ∨ testStops s = completeWaiting s ∧ s.yaw.kind ≠ some .clearance ∨
    testStops s = runningStop s ∧ s.yaw.kind ≠ some .clearance := by
  unfold testStops
  split
  · next h =>
    have hkind := sampleStops_of_kind h
    rw [normalStop_of_kind hkind, modeStop]
    split
    · exact .inr (.inl ⟨rfl, hkind⟩)
    · exact .inr (.inr ⟨rfl, hkind⟩)
  · split
    · next h =>
      obtain ⟨_, hk, _⟩ := h
      refine .inr (.inl ⟨rfl, ?_⟩)
      rcases hk with hk | hk <;> rw [hk] <;> decide
    · exact .inl rfl

/-- What the stop causes never write. -/
def unstopped (s : State) : Option Int × ModeCtl × Lines × Nat × FaultTable × Store × Option Clearance × Bool × YawMode ×
    List Window :=
  (theta s, s.mode, s.lines, s.clock, s.faults, s.store, s.yaw.clearance, s.yaw.manualMark, s.yaw.mode, s.yaw.windows)

theorem unstopped_runningStop (s : State) : unstopped (runningStop s) = unstopped s := by
  unfold runningStop
  repeat' split
  all_goals rfl

theorem unstopped_testStops (s : State) : unstopped (testStops s) = unstopped s := by
  obtain h | ⟨h, _⟩ | ⟨h, _⟩ := testStops_cases s <;> rw [h]
  · rfl
  · exact unstopped_runningStop s

theorem untwist_runningStop (s : State) : (runningStop s).yaw.untwist = s.yaw.untwist := by
  unfold runningStop
  repeat' split
  all_goals rfl

/-- With no untwist in flight, the stop causes leave the untwist record. -/
theorem untwist_testStops {s : State} (h : s.yaw.untwist.inFlight = false) : (testStops s).yaw.untwist = s.yaw.untwist := by
  obtain hs | ⟨hs, _⟩ | ⟨hs, _⟩ := testStops_cases s <;> rw [hs]
  · show untwistAfterMove s = _
    simp only [untwistAfterMove, h, Bool.false_eq_true, if_false]
  · exact untwist_runningStop s

/-- At rest there is nothing to stop. -/
theorem testStops_atRest {s : State} (h : AtRest s) : testStops s = s := by
  have hsub : submitted s .yaw = false := h.2
  have hwait : waiting s = false := by simp [waiting, hsub]
  simp only [testStops, atRest_normalStop h, hwait, Bool.false_eq_true, false_and, if_false, ite_self]

/-- A running move with no stop cause goes on. -/
theorem testStops_going {s : State} (hm : s.yaw.motion = .moving) (h : sampleStops s = false) : testStops s = s := by
  have hwait : waiting s = false := waiting_of_motion (by rw [hm]; decide)
  simp only [testStops, h, hwait, Bool.false_eq_true, false_and, if_false]

/-- A running move with a stop cause stops. -/
theorem testStops_stopped {s : State} (hm : s.yaw.motion = .moving) (h : sampleStops s = true) :
    testStops s = runningStop s := (if_pos h).trans (normalStop_running (by rw [hm]; decide))

/-! ## The untwist wait (R130) -/

/-- `t` is `s` but for the untwist record and the states of rows. -/
def UntwistOnly (s t : State) : Prop :=
  ∃ u faults, faults.rows.length = s.faults.rows.length ∧
    t = { s with yaw := { s.yaw with untwist := u }, faults := faults }

theorem untwistOnly_testUntwistWait (wind : Nat) (s : State) : UntwistOnly s (testUntwistWait wind s) := by
  unfold testUntwistWait
  extract_lets load t
  repeat' split
  · exact ⟨_, _, clearFault_rows_length .untwistDue 1 t, rfl⟩
  · exact ⟨_, _, rfl, rfl⟩
  · exact ⟨_, _, rfl, rfl⟩
  · exact ⟨_, _, rfl, rfl⟩
  · exact ⟨_, _, rfl, rfl⟩

/-- The wait is loaded at a wind of 40, and where none runs. -/
theorem testUntwistWait_loads {wind : Nat} {s : State} (h : untwistWaits s = true)
    (hload : 40 ≤ wind ∨ s.yaw.untwist.ready = false ∧ s.yaw.untwist.wait = none) :
    (testUntwistWait wind s).yaw.untwist =
      { s.yaw.untwist with wait := startTimer s.clock 600000, ready := false } := by
  unfold testUntwistWait
  extract_lets load t
  rw [if_pos h]
  by_cases hw : wind ≥ 40
  · rw [if_pos hw]
    split <;> rfl
  · have hrest := hload.resolve_left hw
    rw [if_neg hw, if_pos hrest]
    rfl

/-- A ready untwist keeps its readiness below a wind of 40. -/
theorem testUntwistWait_ready {wind : Nat} {s : State} (hw : wind < 40) (h : s.yaw.untwist.ready = true) :
    testUntwistWait wind s = s := by
  have hcalm : ¬wind ≥ 40 := Nat.not_le.mpr hw
  simp only [testUntwistWait, hcalm, h, Bool.true_eq_false, false_and, if_false, ite_self]

/-- An untwist that is not ready does not become so. -/
theorem testUntwistWait_not_ready {wind : Nat} {s : State} (h : s.yaw.untwist.ready = false) :
    (testUntwistWait wind s).yaw.untwist.ready = false := by
  unfold testUntwistWait
  extract_lets load t
  repeat' split
  · rfl
  · rfl
  · rfl
  · exact h
  · exact h

/-! ## The starts (R109, R131) -/

theorem testAutoStart_kept {s : State} (h : mayStart s = false) : testAutoStart s = s :=
  if_neg fun ⟨_, hmay, _⟩ => by rw [h] at hmay; exact absurd hmay (by decide)

theorem untwistMayStart_of_not_mayStart {s : State} (h : mayStart s = false) : untwistMayStart s = false := by
  simp [untwistMayStart, h]

theorem untwistMayStart_of_not_ready {s : State} (h : s.yaw.untwist.ready = false) : untwistMayStart s = false := by
  simp [untwistMayStart, h]

theorem testStarts_auto {s : State} (h : untwistMayStart s = false) : testStarts s = testAutoStart s := by
  simp only [testStarts, h, Bool.false_eq_true, if_false]

/-- The conditions of an automatic start, but for its threshold and the hard limit. -/
structure MayAutoStart (s : State) : Prop where
  mode : s.yaw.mode = .auto ∨ s.yaw.mode = .storm
  start : mayStart s = true
  clearance : s.yaw.clearance = none
  rest : s.yaw.rest = none

/-- The kind of an automatic move. -/
def autoKind (s : State) : MoveKind := if s.yaw.mode = .storm then .storm else .auto

theorem testAutoStart_unwanted {s : State} (h : wantedMove s = none) : testAutoStart s = s := by
  simp only [testAutoStart, h, ite_self]

theorem testAutoStart_started {s : State} {d : Dir} (h : MayAutoStart s) (hwant : wantedMove s = some d)
    (hfree : barred s d = false) : testAutoStart s = startMove (autoKind s) d none s := by
  simp only [testAutoStart, h.mode, h.start, h.clearance, h.rest, and_self, if_true, hwant, hfree, Bool.false_eq_true, if_false,
    autoKind]

theorem testAutoStart_barred {s : State} {d : Dir} (h : MayAutoStart s) (hwant : wantedMove s = some d)
    (hbar : barred s d = true) : testAutoStart s = raiseTwistHard s := by
  simp only [testAutoStart, h.mode, h.start, h.clearance, h.rest, and_self, if_true, hwant, hbar]

/-! ### The move that the means ask for -/

/-- The long mean asks for a move. -/
def LongAsks (s : State) : Prop :=
  ∃ x v, s.yaw.longMean = some x ∧ s.yaw.longSpeed = some v ∧ startLevel s ≤ x.natAbs ∧ 30 ≤ v

theorem wantedMove_long {s : State} {x : Int} {v : Nat} (hx : s.yaw.longMean = some x) (hv : s.yaw.longSpeed = some v)
    (hlevel : startLevel s ≤ x.natAbs) (hwind : 30 ≤ v) : wantedMove s = some (dirOf x) := by
  have hasks : x.natAbs ≥ startLevel s ∧ v ≥ 30 := ⟨hlevel, hwind⟩
  simp only [wantedMove, hx, hv, hasks, and_self, if_true]

/-- The move that the short mean asks for, outside Storm. -/
def shortMove (s : State) : Option Dir :=
  if s.yaw.mode = .storm then none
  else match s.yaw.shortMean with
    | some m => if m.natAbs ≥ s.store.working.startShort then some (dirOf m) else none
    | none => none

theorem shortMove_past {s : State} {x : Int} (hmode : ¬s.yaw.mode = .storm) (hx : s.yaw.shortMean = some x)
    (hlevel : s.store.working.startShort ≤ x.natAbs) : shortMove s = some (dirOf x) := by
  rw [shortMove, if_neg hmode, hx]
  exact if_pos hlevel

theorem shortMove_none {s : State}
    (h : s.yaw.mode = .storm ∨ ∀ x, s.yaw.shortMean = some x → x.natAbs < s.store.working.startShort) : shortMove s = none := by
  unfold shortMove
  split
  · rfl
  · next hnot =>
    cases hx : s.yaw.shortMean with
    | none => rfl
    | some x => exact if_neg (Nat.not_le.mpr (h.resolve_left hnot x hx))

theorem wantedMove_not_long {s : State} (h : ¬LongAsks s) : wantedMove s = shortMove s := by
  unfold wantedMove
  cases hx : s.yaw.longMean with
  | none => rfl
  | some x =>
    cases hv : s.yaw.longSpeed with
    | none => rfl
    | some v =>
      have hlong : (if x.natAbs ≥ startLevel s ∧ v ≥ 30 then some (dirOf x) else none) = none :=
        if_neg fun ⟨hlevel, hwind⟩ => h ⟨x, v, hx, hv, hlevel, hwind⟩
      exact congrArg (fun o : Option Dir => match o with | some d => some d | none => shortMove s) hlong

/-! ## The clearance (R117) -/

/-- With no start allowed, a due clearance is ended or left. -/
theorem testClearance_kept {s : State} (h : mayStart s = false) : testClearance s = s ∨ testClearance s = endClearance s := by
  unfold testClearance
  repeat' split
  · exact .inl rfl
  · exact .inl rfl
  · exact .inr rfl
  · exact .inl (if_neg fun ⟨_, hmay, _⟩ => by rw [h] at hmay; exact absurd hmay (by decide))

theorem testClearance_rests {s : State} (h : clearanceRests s = true) : testClearance s = s := if_pos h

/-- Outside every window a clearance ends. -/
theorem testClearance_outside {s : State} {x : Int} (h : clearanceRests s = false) (hx : theta s = some x)
    (hw : windowAt s x = none) : testClearance s = endClearance s := by
  simp only [testClearance, h, hx, hw, Bool.false_eq_true, if_false]

theorem testClearance_inside {s : State} {x : Int} {n : Nat} (h : clearanceRests s = false) (hx : theta s = some x)
    (hw : windowAt s x = some n) : testClearance s = startClearanceMove n x s := by
  simp only [testClearance, h, hx, hw, Bool.false_eq_true, if_false]

theorem untwist_startClearanceMove (n : Nat) (x : Int) (s : State) :
    (startClearanceMove n x s).yaw.untwist = s.yaw.untwist := by
  simp only [startClearanceMove]
  split <;> rfl

/-- The clearance test leaves the untwist record. -/
theorem untwist_testClearance (s : State) : (testClearance s).yaw.untwist = s.yaw.untwist := by
  unfold testClearance
  repeat' split
  · rfl
  · rfl
  · rfl
  · exact untwist_startClearanceMove _ _ s

theorem startClearanceMove_free {s : State} {n : Nat} {x : Int} (hmode : s.yaw.mode = .auto ∨ s.yaw.mode = .storm)
    (hstart : mayStart s = true) (hfree : barred s (clearanceDir s (clearanceFrom s n x)) = false) :
    startClearanceMove n x s =
      startMove .clearance (clearanceDir s (clearanceFrom s n x)) (some (clearanceFrom s n x).target)
        (modYaw (fun y => { y with clearance := some (clearanceFrom s n x) }) s) := if_pos ⟨hmode, hstart, hfree⟩

theorem startClearanceMove_barred {s : State} {n : Nat} {x : Int}
    (hbar : barred s (clearanceDir s (clearanceFrom s n x)) = true) : startClearanceMove n x s = s :=
  if_neg fun ⟨_, _, hfree⟩ => by rw [hbar] at hfree; exact absurd hfree (by decide)

/-- A clearance goes toward its edge, counter-clockwise to the base. -/
theorem clearanceDir_clearanceFrom (s : State) (n : Nat) (x : Int) :
    clearanceDir s (clearanceFrom s n x) =
      if (clearanceFrom s n x).target = (windowOf s n).base then .ccw else .cw := by
  have hwindow : (clearanceFrom s n x).window = n := rfl
  have hedge : (clearanceFrom s n x).target ≠ (windowOf s n).base →
      (clearanceFrom s n x).target = (windowOf s n).limit := by
    simp only [clearanceFrom]
    split <;> simp
  rw [clearanceDir, hwindow]
  by_cases hbase : (clearanceFrom s n x).target = (windowOf s n).base
  · rw [if_neg (fun h => h.2 hbase), if_pos hbase]
  · rw [if_pos ⟨hedge hbase, hbase⟩, if_neg hbase]

/-! ## Step 5 as a whole -/

/-- The state in which step 5 tests the clearance or the starts. -/
def beforeStarts (wind : Nat) (s : State) : State := testUntwistWait wind (testStops s)

theorem sampleMotion_clearance {wind : Nat} {s : State} (h : (beforeStarts wind s).yaw.clearance.isSome = true) :
    sampleMotion wind s = testClearance (beforeStarts wind s) := if_pos h

theorem sampleMotion_starts {wind : Nat} {s : State} (h : (beforeStarts wind s).yaw.clearance = none) :
    sampleMotion wind s = testStarts (beforeStarts wind s) :=
  if_neg fun hsome => by rw [show (testUntwistWait _ _).yaw.clearance = none from h] at hsome; exact Bool.false_ne_true hsome

theorem unstopped_beforeStarts (wind : Nat) (s : State) :
    (beforeStarts wind s).yaw.clearance = s.yaw.clearance ∧ theta (beforeStarts wind s) = theta s ∧
    (beforeStarts wind s).yaw.manualMark = s.yaw.manualMark ∧ (beforeStarts wind s).yaw.mode = s.yaw.mode ∧
    (beforeStarts wind s).yaw.windows = s.yaw.windows := by
  have hstops := unstopped_testStops s
  obtain ⟨u, faults, _, ht⟩ := untwistOnly_testUntwistWait wind (testStops s)
  simp only [unstopped, Prod.mk.injEq] at hstops
  obtain ⟨htheta, _, _, _, _, _, hclear, hmark, hmode, hwindows⟩ := hstops
  rw [beforeStarts, ht]
  exact ⟨hclear, htheta, hmark, hmode, hwindows⟩

/-! ### The stops -/

/-- How a move stands in its stop. -/
def stopRecord (s : State) : Motion × Option Nat × Option Countdown × SpeedRef :=
  (s.yaw.motion, s.yaw.continuing, s.yaw.ramp, s.yaw.speed)

/-- While a move runs, nothing after the stop causes touches its stop. -/
theorem stopRecord_sampleMotion {wind : Nat} {s : State} (h : (testStops s).yaw.motion ≠ .hold) :
    stopRecord (sampleMotion wind s) = stopRecord (testStops s) := by
  obtain ⟨u, faults, _, ht⟩ := untwistOnly_testUntwistWait wind (testStops s)
  have hrecord : stopRecord (beforeStarts wind s) = stopRecord (testStops s) := by rw [beforeStarts, ht]; rfl
  have hmotion : (beforeStarts wind s).yaw.motion ≠ .hold := by rw [beforeStarts, ht]; exact h
  have hmay : mayStart (beforeStarts wind s) = false := by simp [mayStart, hmotion]
  refine Eq.trans ?_ hrecord
  cases hc : (beforeStarts wind s).yaw.clearance with
  | none => rw [sampleMotion_starts hc, testStarts_auto (untwistMayStart_of_not_mayStart hmay), testAutoStart_kept hmay]
  | some c =>
    rw [sampleMotion_clearance (by rw [hc]; rfl)]
    obtain h | h := testClearance_kept hmay <;> rw [h]
    rfl

/-- A running move that meets no stop cause goes on. -/
theorem sampleMotion_going {wind : Nat} {s : State} (hm : s.yaw.motion = .moving) (hc : s.yaw.continuing = none)
    (h : sampleStops s = false) : (sampleMotion wind s).yaw.motion = .moving ∧ (sampleMotion wind s).yaw.continuing = none := by
  have hstay := testStops_going hm h
  have hrecord := stopRecord_sampleMotion (wind := wind) (s := s) (by rw [hstay, hm]; decide)
  rw [hstay] at hrecord
  simp only [stopRecord, Prod.mk.injEq] at hrecord
  obtain ⟨hmotion, hcont, _⟩ := hrecord
  exact ⟨hmotion.trans hm, hcont.trans hc⟩

/-- A running move that meets a stop cause outside every window ramps down. -/
theorem sampleMotion_ramps {wind : Nat} {s : State} (hm : s.yaw.motion = .moving) (hc : s.yaw.continuing = none)
    (h : sampleStops s = true) (hw : windowNow s = none) :
    (sampleMotion wind s).yaw.motion = .ramping ∧ (sampleMotion wind s).yaw.ramp = startTimer s.clock 2000 ∧
    (sampleMotion wind s).yaw.speed = .falling := by
  have hstop := (testStops_stopped hm h).trans (runningStop_free hm hc hw)
  have hrecord := stopRecord_sampleMotion (wind := wind) (s := s) (by rw [hstop]; exact (nomatch ·))
  rw [hstop] at hrecord
  simp only [stopRecord, Prod.mk.injEq] at hrecord
  obtain ⟨hmotion, _, hramp, hspeed⟩ := hrecord
  exact ⟨hmotion, hramp, hspeed⟩

/-- A running move that meets a stop cause inside a window is carried past it. -/
theorem sampleMotion_carried {wind n : Nat} {s : State} (hm : s.yaw.motion = .moving) (hc : s.yaw.continuing = none)
    (h : sampleStops s = true) (hw : windowNow s = some n) :
    (sampleMotion wind s).yaw.motion = .moving ∧ (sampleMotion wind s).yaw.continuing = some n := by
  have hstop := (testStops_stopped hm h).trans (runningStop_inside hm hc hw)
  have hstill : (testStops s).yaw.motion = .moving := (congrArg (·.yaw.motion) hstop).trans hm
  have hrecord := stopRecord_sampleMotion (wind := wind) (s := s) (by rw [hstill]; decide)
  rw [hstop] at hrecord
  simp only [stopRecord, Prod.mk.injEq] at hrecord
  obtain ⟨hmotion, hcont, _⟩ := hrecord
  exact ⟨hmotion.trans hm, hcont⟩

/-! ### The untwist wait -/

/-- With no untwist ready, the starts leave the wait and the readiness. -/
theorem testStarts_wait {s : State} (h : s.yaw.untwist.ready = false) :
    (testStarts s).yaw.untwist.wait = s.yaw.untwist.wait ∧ (testStarts s).yaw.untwist.ready = false := by
  rw [testStarts_auto (untwistMayStart_of_not_ready h)]
  unfold testAutoStart
  repeat' split
  all_goals exact ⟨rfl, h⟩

/-- A due untwist has its wait loaded at a wind of 40, and where it has none. -/
theorem sampleMotion_loads {wind : Nat} {s : State} (hin : s.yaw.untwist.inFlight = false) (h : untwistWaits s = true)
    (hload : 40 ≤ wind ∨ s.yaw.untwist.ready = false ∧ s.yaw.untwist.wait = none) :
    (sampleMotion wind s).yaw.untwist.wait = startTimer s.clock 600000 ∧ (sampleMotion wind s).yaw.untwist.ready = false := by
  have hkept := untwist_testStops hin
  have hstops := unstopped_testStops s
  simp only [unstopped, Prod.mk.injEq] at hstops
  obtain ⟨htheta, hmode, _, hclock, _⟩ := hstops
  have hwaits : untwistWaits (testStops s) = true := by simpa only [untwistWaits, hkept, htheta, hmode] using h
  have hloaded := testUntwistWait_loads (wind := wind) hwaits (by rwa [hkept])
  have hwait : (beforeStarts wind s).yaw.untwist.wait = startTimer s.clock 600000 := by rw [beforeStarts, hloaded, hclock]
  have hready : (beforeStarts wind s).yaw.untwist.ready = false := by rw [beforeStarts, hloaded]
  cases hc : (beforeStarts wind s).yaw.clearance with
  | none =>
    rw [sampleMotion_starts hc, (testStarts_wait hready).1]
    exact ⟨hwait, (testStarts_wait hready).2⟩
  | some c =>
    rw [sampleMotion_clearance (by rw [hc]; rfl), untwist_testClearance]
    exact ⟨hwait, hready⟩

end Sys2Proof.Machine

/-! SUPPORT. Step 5 of a yaw sample by what it finds: a controller at rest, a running move, a due untwist, a due clearance (R109, R110, R117, R128 to R134). -/

namespace Sys2Proof.Machine

/-! ## From Hold with no claim -/

/-- At rest, nothing before the starts changes but the untwist record. -/
theorem untwistOnly_beforeStarts {s : State} (h : AtRest s) (wind : Nat) : UntwistOnly s (beforeStarts wind s) := by
  rw [beforeStarts, testStops_atRest h]
  exact untwistOnly_testUntwistWait wind s

/-- A controller at rest in which an automatic move may start and no untwist is ready. -/
structure AutoReady (s : State) : Prop where
  rest : AtRest s
  may : MayAutoStart s
  untwist : s.yaw.untwist.ready = false

/-- Then step 5 is the automatic start. -/
theorem sampleMotion_auto {s : State} (h : AutoReady s) (wind : Nat) :
    ∃ t, UntwistOnly s t ∧ MayAutoStart t ∧ sampleMotion wind s = testAutoStart t := by
  have honly := untwistOnly_beforeStarts h.rest wind
  have hready : (beforeStarts wind s).yaw.untwist.ready = false := by
    rw [beforeStarts, testStops_atRest h.rest]
    exact testUntwistWait_not_ready h.untwist
  refine ⟨_, honly, ?_, ?_⟩
  · obtain ⟨u, faults, _, ht⟩ := honly
    rw [ht]
    exact ⟨h.may.mode, h.may.start, h.may.clearance, h.may.rest⟩
  · rw [sampleMotion_starts ((unstopped_beforeStarts wind s).1.trans h.may.clearance),
      testStarts_auto (untwistMayStart_of_not_ready hready)]

/-- A move that the means ask for starts. -/
theorem sampleMotion_started {wind : Nat} {s : State} {d : Dir} (h : AutoReady s) (hwant : wantedMove s = some d)
    (hfree : barred s d = false) :
    (sampleMotion wind s).yaw.kind = some (autoKind s) ∧ (sampleMotion wind s).yaw.direction = some d ∧
    (sampleMotion wind s).yaw.target = none ∧ submitted (sampleMotion wind s) .yaw = true ∧
    (claimOf (sampleMotion wind s) .yaw).ceiling = 11 * availableDrives s := by
  obtain ⟨t, ⟨u, faults, _, rfl⟩, hmay, hr⟩ := sampleMotion_auto h wind
  rw [hr.trans (testAutoStart_started hmay hwant hfree)]
  exact ⟨rfl, rfl, rfl, submitted_submitClaim .., ceiling_submitClaim ..⟩

/-- One that the hard limit bars raises TWIST_HARD instead. -/
theorem sampleMotion_twistHard {wind : Nat} {s : State} {d : Dir} (h : AutoReady s) (hwant : wantedMove s = some d)
    (hbar : barred s d = true) (hrows : s.faults.rows.length = 79) :
    submitted (sampleMotion wind s) .yaw = false ∧ isActive (sampleMotion wind s) .twistHard 1 = true ∧
    (sampleMotion wind s).yaw.untwist.due = true := by
  obtain ⟨t, ⟨u, faults, hlen, rfl⟩, hmay, hr⟩ := sampleMotion_auto h wind
  rw [hr.trans (testAutoStart_barred hmay hwant hbar)]
  exact ⟨h.rest.2, isActive_raise (hlen.trans hrows) .twistHard, rfl⟩

/-- With no move asked for, none is claimed. -/
theorem sampleMotion_unclaimed {wind : Nat} {s : State} (h : AutoReady s) (hwant : wantedMove s = none) :
    submitted (sampleMotion wind s) .yaw = false := by
  obtain ⟨t, ⟨u, faults, _, rfl⟩, _, hr⟩ := sampleMotion_auto h wind
  rw [hr.trans (testAutoStart_unwanted hwant)]
  exact h.rest.2

/-- A ready untwist starts below a wind of 40. -/
theorem sampleMotion_untwists {wind : Nat} {s : State} {x : Int} (hrest : AtRest s) (hstart : untwistMayStart s = true)
    (hclear : s.yaw.clearance = none) (hwind : wind < 40) (hready : s.yaw.untwist.ready = true) (hx : theta s = some x) :
    sampleMotion wind s = startUntwist x s := by
  have hkept : beforeStarts wind s = s := by rw [beforeStarts, testStops_atRest hrest, testUntwistWait_ready hwind hready]
  rw [sampleMotion_starts (by rw [hkept]; exact hclear), hkept, testStarts, if_pos hstart, hx]

theorem startUntwist_started (x : Int) (s : State) :
    (startUntwist x s).yaw.kind = some .untwist ∧ (startUntwist x s).yaw.target = some 0 ∧
    (startUntwist x s).yaw.direction = some (if x > 0 then .ccw else .cw) ∧
    (startUntwist x s).yaw.untwist.inFlight = true ∧ (startUntwist x s).yaw.untwist.ready = false ∧
    (startUntwist x s).yaw.untwist.wait = none ∧ (startUntwist x s).yaw.mode = .untwist ∧
    submitted (startUntwist x s) .yaw = true ∧ isActive (startUntwist x s) .untwistDue 1 = false :=
  ⟨rfl, rfl, rfl, rfl, rfl, rfl, rfl, submitted_submitClaim .., isActive_clearFault .untwistDue 1 _⟩

/-! ## A running move -/

theorem oppositeMean_iff (d : Option Dir) (x : Int) :
    oppositeMean d x = true ↔ (d = some .cw ∧ x < 0) ∨ (d = some .ccw ∧ x > 0) := by
  cases d with
  | none => simp [oppositeMean]
  | some d => cases d <;> simp [oppositeMean]

/-- The short mean stops an automatic move at the threshold and on the other side (R110, R134). -/
theorem sampleStops_mean {s : State} {x : Int} (h : s.yaw.kind = some .auto ∨ s.yaw.kind = some .storm)
    (hx : s.yaw.shortMean = some x) :
    sampleStops s = true ↔ x.natAbs ≤ stopLevel s ∨ (s.yaw.direction = some .cw ∧ x < 0) ∨
      (s.yaw.direction = some .ccw ∧ x > 0) := by
  rcases h with h | h
  · simp only [sampleStops, h, hx, Bool.or_eq_true, decide_eq_true_eq, oppositeMean_iff]
  · simp only [sampleStops, h, hx, Bool.or_eq_true, decide_eq_true_eq, oppositeMean_iff]

/-- With no short mean an automatic move stops. -/
theorem sampleStops_no_mean {s : State} (h : s.yaw.kind = some .auto ∨ s.yaw.kind = some .storm)
    (hx : s.yaw.shortMean = none) : sampleStops s = true := by
  rcases h with h | h
  · simp only [sampleStops, h, hx]
  · simp only [sampleStops, h, hx]

/-- A wind of 80 stops an untwist (R132). -/
theorem sampleStops_untwist {s : State} {v : Nat} (h : s.yaw.kind = some .untwist) (hv : s.yaw.shortSpeed = some v) :
    sampleStops s = decide (80 ≤ v) := by
  rw [sampleStops, h, hv]
  rfl

/-! ## A due clearance -/

/-- The stop causes leave a clearance's rest as it is. -/
theorem clearanceRests_beforeStarts (wind : Nat) (s : State) :
    clearanceRests (beforeStarts wind s) = clearanceRests s := by
  obtain ⟨_, _, hmark, hmode, _⟩ := unstopped_beforeStarts wind s
  obtain ⟨u, faults, _, ht⟩ := untwistOnly_testUntwistWait wind (testStops s)
  have hrun : (beforeStarts wind s).yaw.kind = (testStops s).yaw.kind ∧
      (beforeStarts wind s).yaw.motion = (testStops s).yaw.motion := by rw [beforeStarts, ht]; exact ⟨rfl, rfl⟩
  have hown : (decide ((testStops s).yaw.kind = some .clearance) && decide ((testStops s).yaw.motion ≠ .hold)) =
      (decide (s.yaw.kind = some .clearance) && decide (s.yaw.motion ≠ .hold)) := by
    obtain h | ⟨h, hk⟩ | ⟨h, hk⟩ := testStops_cases s <;> rw [h]
    · rw [decide_eq_false hk]; rfl
    · have hkind : (runningStop s).yaw.kind = s.yaw.kind := by
        unfold runningStop
        repeat' split
        all_goals rfl
      rw [hkind, decide_eq_false hk]; rfl
  simp only [clearanceRests, hmark, hmode, hrun.1, hrun.2, hown]

/-- A clearance at rest stays due. -/
theorem sampleMotion_clearance_rests {wind : Nat} {s : State} (hdue : s.yaw.clearance.isSome = true)
    (h : clearanceRests s = true) : (sampleMotion wind s).yaw.clearance = s.yaw.clearance := by
  have hclear := (unstopped_beforeStarts wind s).1
  rw [sampleMotion_clearance (by rw [hclear]; exact hdue),
    testClearance_rests ((clearanceRests_beforeStarts wind s).trans h), hclear]

theorem windowAt_congr {s t : State} (h : t.yaw.windows = s.yaw.windows) (x : Int) : windowAt t x = windowAt s x := by
  simp only [windowAt, windowOf, h]

/-- A due clearance with θ outside every window ends. -/
theorem sampleMotion_clearance_ends {wind : Nat} {s : State} {x : Int} (hdue : s.yaw.clearance.isSome = true)
    (h : clearanceRests s = false) (hx : theta s = some x) (hw : windowAt s x = none) :
    (sampleMotion wind s).yaw.clearance = none ∧ isActive (sampleMotion wind s) .yawDwellForced 1 = false := by
  obtain ⟨hclear, htheta, _, _, hwindows⟩ := unstopped_beforeStarts wind s
  rw [sampleMotion_clearance (by rw [hclear]; exact hdue),
    testClearance_outside ((clearanceRests_beforeStarts wind s).trans h) (htheta.trans hx)
      ((windowAt_congr hwindows x).trans hw)]
  exact ⟨rfl, isActive_clearFault _ _ _⟩

/-- A due clearance at rest is the clearance start, from a state that differs in the untwist record alone. -/
theorem sampleMotion_clearance_inside {wind n : Nat} {s : State} {x : Int} (hrest : AtRest s)
    (hdue : s.yaw.clearance.isSome = true) (h : clearanceRests s = false) (hx : theta s = some x)
    (hw : windowAt s x = some n) : ∃ t, UntwistOnly s t ∧ sampleMotion wind s = startClearanceMove n x t := by
  obtain ⟨hclear, htheta, _, _, hwindows⟩ := unstopped_beforeStarts wind s
  refine ⟨_, untwistOnly_beforeStarts hrest wind, ?_⟩
  rw [sampleMotion_clearance (by rw [hclear]; exact hdue),
    testClearance_inside ((clearanceRests_beforeStarts wind s).trans h) (htheta.trans hx)
      ((windowAt_congr hwindows x).trans hw)]

/-- It starts its move toward the nearer edge of the window found. -/
theorem sampleMotion_clearance_starts {wind n : Nat} {s : State} {x : Int} (hrest : AtRest s)
    (hdue : s.yaw.clearance.isSome = true) (h : clearanceRests s = false) (hx : theta s = some x)
    (hw : windowAt s x = some n) (hmode : s.yaw.mode = .auto ∨ s.yaw.mode = .storm) (hstart : mayStart s = true)
    (hfree : barred s (clearanceDir s (clearanceFrom s n x)) = false) :
    (sampleMotion wind s).yaw.kind = some .clearance ∧
    (sampleMotion wind s).yaw.target = some (clearanceFrom s n x).target ∧
    (sampleMotion wind s).yaw.clearance = some (clearanceFrom s n x) ∧
    (sampleMotion wind s).yaw.direction = some (clearanceDir s (clearanceFrom s n x)) ∧
    submitted (sampleMotion wind s) .yaw = true := by
  obtain ⟨t, ⟨u, faults, _, rfl⟩, hr⟩ := sampleMotion_clearance_inside (wind := wind) hrest hdue h hx hw
  rw [hr.trans (startClearanceMove_free hmode hstart hfree)]
  exact ⟨rfl, rfl, rfl, rfl, submitted_submitClaim ..⟩

/-- Barred by the hard limit it stays due, with no claim. -/
theorem sampleMotion_clearance_barred {wind n : Nat} {s : State} {x : Int} (hrest : AtRest s)
    (hdue : s.yaw.clearance.isSome = true) (h : clearanceRests s = false) (hx : theta s = some x)
    (hw : windowAt s x = some n) (hbar : barred s (clearanceDir s (clearanceFrom s n x)) = true) :
    submitted (sampleMotion wind s) .yaw = false ∧ (sampleMotion wind s).yaw.clearance = s.yaw.clearance := by
  obtain ⟨t, ⟨u, faults, _, rfl⟩, hr⟩ := sampleMotion_clearance_inside (wind := wind) hrest hdue h hx hw
  rw [hr.trans (startClearanceMove_barred hbar)]
  exact ⟨hrest.2, rfl⟩

/-! ## The conditions as they are stated -/

theorem mayStart_of_idle {s : State} (hhold : s.yaw.motion = .hold) (hsub : submitted s .yaw = false)
    (hchain : s.lines.chainClosed = true) : mayStart s = true := by simp [mayStart, hhold, hsub, hchain]

theorem untwistMayStart_of {s : State} (hready : s.yaw.untwist.ready = true) (hauto : s.yaw.mode = .auto)
    (hstart : mayStart s = true) (hclear : s.yaw.clearance = none)
    (hcurrent : s.mode.current = .parked ∨ s.mode.current = .idle ∨ s.mode.current = .isolated ∧ s.aux.lowMark = false) :
    untwistMayStart s = true := by
  rcases hcurrent with h | h | ⟨h, hlow⟩
  · simp [untwistMayStart, hready, hauto, hstart, hclear, h]
  · simp [untwistMayStart, hready, hauto, hstart, hclear, h]
  · simp [untwistMayStart, hready, hauto, hstart, hclear, h, hlow]

theorem untwistWaits_of {s : State} (hdue : s.yaw.untwist.due = true) (hin : s.yaw.untwist.inFlight = false)
    (htheta : (theta s).isSome = true) (hcurrent : s.mode.current ≠ .storm) : untwistWaits s = true := by
  simp [untwistWaits, hdue, hin, htheta, hcurrent]

theorem clearanceRests_iff (s : State) :
    clearanceRests s = true ↔
      s.yaw.manualMark = true ∨ s.yaw.mode = .untwist ∨ (s.yaw.kind = some .clearance ∧ s.yaw.motion ≠ .hold) := by
  simp only [clearanceRests, Bool.or_eq_true, Bool.and_eq_true, decide_eq_true_eq]
  tauto

theorem stormFrom_of {m : Mode} (h : m = .parked ∨ m = .idle ∨ m = .generating) : stormFrom m = true := by
  rcases h with rfl | rfl | rfl
  · rfl
  · rfl
  · rfl

/-! ## The obligation -/

/-- Settles O60: the entry to Storm, and step 5 by what it finds in the state that the sample's other steps leave. -/
theorem yawSampleStartsAndStopsMoves : Obligations.YawSampleStartsAndStopsMoves := by
  unfold Obligations.YawSampleStartsAndStopsMoves
  intro s a b w hp ⟨hsized, _⟩ wind i m r idle automatic level kind side asked started stopped
  have hwindRows : i.faults.rows.length = 79 := (sampleWind_rows_length a b wind (beginEvent s)).trans hsized
  have hrows : m.faults.rows.length = 79 := (sampleJudged_rows_length i).trans hwindRows
  have hclock : m.clock = s.clock :=
    (sampleJudged_field (f := State.clock) (fun _ => rfl) i).trans
      (sampleWind_field (f := State.clock) (fun _ _ _ => rfl) a b wind (beginEvent s))
  have hmode : i.mode = s.mode := sampleWind_field (f := State.mode) (fun _ _ _ => rfl) a b wind (beginEvent s)
  have hlines : i.lines = s.lines := sampleWind_field (f := State.lines) (fun _ _ _ => rfl) a b wind (beginEvent s)
  refine ⟨congrArg Host.Outcome.next (react_eq hp _), fun hfrom hchain hwind => ?_, ?_⟩
  · obtain ⟨v, hv, hstrong⟩ := hwind
    have hentered : StormEntered i.mode.current m :=
      stormEntered_sampleJudged (by rw [hmode]; exact stormFrom_of hfrom) (by rw [hlines]; exact hchain)
        (by rw [hv]; exact decide_eq_true hstrong) hwindRows
    exact ⟨hentered.current, hentered.target, hentered.cause, hentered.previous.trans (by rw [hmode]), hentered.row,
      hentered.mark, hentered.queue, noStringRuns_of_noneRuns hentered.stopped⟩
  clear_value m
  have hrest (h : idle) : AtRest m := ⟨h.1, h.2.1⟩
  have hstart (h : idle) : mayStart m = true := mayStart_of_idle h.1 h.2.1 h.2.2
  have hstarted {x : Int} (h : AutoReady m) (hwant : wantedMove m = some (dirOf x)) : started x :=
    ⟨fun hfree => sampleMotion_started h hwant hfree, fun hbar => sampleMotion_twistHard h hwant hbar hrows⟩
  have hstopped (hm : m.yaw.motion = .moving) (hc : m.yaw.continuing = none) (h : sampleStops m = true) : stopped := by
    show match windowNow m with | none => _ | some n => _
    cases hw : windowNow m with
    | none =>
      obtain ⟨hmotion, hramp, hspeed⟩ := sampleMotion_ramps (wind := wind) hm hc h hw
      exact ⟨hmotion, hramp.trans (by rw [hclock]; rfl), hspeed⟩
    | some n => exact sampleMotion_carried hm hc h hw
  refine ⟨fun hidle hauto hclear htimer hready => ?_,
    fun hidle hauto hclear hready hwind hcurrent x hx => ?_, fun hm hc hkind => ?_, fun hm hc hkind v hv => ?_,
    fun hdue hin htheta hcurrent => ?_, fun hdue => ⟨fun hrests => ?_, fun hmark hnot hown x hx => ?_⟩⟩
  · have h : AutoReady m := ⟨hrest hidle, ⟨hauto, hstart hidle, hclear, htimer⟩, hready⟩
    exact ⟨fun x v hx hv hlevel hwind => hstarted h (wantedMove_long hx hv hlevel hwind),
      fun hnot hmode x hx hlevel =>
        hstarted h ((wantedMove_not_long hnot).trans (shortMove_past (by rw [hmode]; decide) hx hlevel)),
      fun hnot hshort => sampleMotion_unclaimed h ((wantedMove_not_long hnot).trans (shortMove_none hshort))⟩
  · have hr : r = startUntwist x m := sampleMotion_untwists (hrest hidle)
      (untwistMayStart_of hready hauto (hstart hidle) hclear hcurrent) hclear hwind hready hx
    rw [hr]
    exact startUntwist_started x m
  · refine ⟨fun hx => hstopped hm hc (sampleStops_no_mean hkind hx), fun x hx => ⟨fun h => ?_, fun h => ?_⟩⟩
    · exact hstopped hm hc ((sampleStops_mean hkind hx).mpr h)
    · exact sampleMotion_going hm hc (Bool.eq_false_iff.mpr fun hstops => h ((sampleStops_mean hkind hx).mp hstops))
  · have hstops := sampleStops_untwist hkind hv
    exact ⟨fun h => hstopped hm hc (hstops.trans (decide_eq_true h)),
      fun h => sampleMotion_going hm hc (hstops.trans (decide_eq_false (Nat.not_le.mpr h)))⟩
  · have hloads (hload : 40 ≤ wind ∨ m.yaw.untwist.ready = false ∧ m.yaw.untwist.wait = none) :
        r.yaw.untwist.wait = some ⟨s.clock, 600000⟩ ∧ r.yaw.untwist.ready = false := by
      rw [← hclock]
      exact sampleMotion_loads hin (untwistWaits_of hdue hin htheta hcurrent) hload
    exact ⟨fun h => hloads (.inl h), fun _ hready hwait => hloads (.inr ⟨hready, hwait⟩)⟩
  · exact sampleMotion_clearance_rests hdue ((clearanceRests_iff m).mpr hrests)
  · have h : clearanceRests m = false := Bool.eq_false_iff.mpr fun hrests => by
      rcases (clearanceRests_iff m).mp hrests with h | h | h
      · exact Bool.false_ne_true (hmark.symm.trans h)
      · exact hnot h
      · exact hown h
    refine ⟨fun hw => sampleMotion_clearance_ends hdue h hx hw, fun n hw hidle hauto => ?_⟩
    have hdir := clearanceDir_clearanceFrom m n x
    refine ⟨fun hfree => ?_, fun hbar => ?_⟩
    · obtain ⟨hkind, htarget, hclear, hdirection, hsub⟩ := sampleMotion_clearance_starts (wind := wind) (hrest hidle) hdue h
        hx hw hauto (hstart hidle) (by rw [hdir]; exact hfree)
      exact ⟨hkind, htarget, hclear, hdirection.trans (congrArg some hdir), hsub⟩
    · exact sampleMotion_clearance_barred (hrest hidle) hdue h hx hw (by rw [hdir]; exact hbar)

end Sys2Proof.Machine

/-! SUPPORT. The port walked once for any predicate: what the port's own writes and a block's answer keep, a frame accepted, parsed or served keeps (R169 to R171, R178). -/

namespace Sys2Proof.Machine

/-! ## What the port keeps -/

/-- The link, the mode record and the fault table, which the port itself writes, do not matter to `P`, and a block's answer keeps
it. -/
structure PortKeeps (P : State → Prop) : Prop where
  port : ∀ s link mode faults, P s → P { s with link := link, mode := mode, faults := faults }
  serve : ∀ k body s, P s → P (serve k body s).2

section
variable {P : State → Prop}

theorem PortKeeps.modLink (hP : PortKeeps P) (f : Link → Link) {s : State} (h : P s) : P (modLink f s) :=
  hP.port s _ _ _ h

theorem PortKeeps.queueReply (hP : PortKeeps P) (kind tag : Byte) (st : Status) (content : List Byte) (restart : Bool)
    {s : State} (h : P s) : P (queueReply kind tag st content restart s) := by
  simp only [Machine.queueReply]
  split
  · exact hP.port s _ _ _ h
  · exact hP.port s _ _ _ h

theorem PortKeeps.clearMarks (hP : PortKeeps P) (k : Kind) {s : State} (h : P s) : P (clearMarks k s) := by
  unfold Machine.clearMarks
  split
  · exact hP.port s _ _ _ h
  · exact h

theorem PortKeeps.serveFrame (hP : PortKeeps P) (f : Frame) {s : State} (h : P s) : P (serveFrame f s) := by
  simp only [Machine.serveFrame]
  split
  · next k _ _ =>
    have hmarked : P (updateMarks (Machine.serve k f.body s).2) := hP.port _ _ _ _ (hP.serve k f.body s h)
    exact hP.queueReply _ _ _ _ _ (hP.clearMarks k hmarked)
  · exact hP.queueReply _ _ _ _ _ h
  · exact h

theorem PortKeeps.pump (hP : PortKeeps P) (n : Nat) {s : State} (h : P s) : P (pump n s) := by
  induction n generalizing s with
  | zero => exact h
  | succ n ih =>
    rw [Machine.pump]
    split
    · split
      · exact h
      · exact ih (hP.serveFrame _ (hP.modLink _ h))
    · exact h

theorem PortKeeps.acceptFrame (hP : PortKeeps P) (f : Frame) {s : State} (h : P s) : P (acceptFrame f s) := by
  have hreload : P (supervisionReload s) := by
    unfold supervisionReload
    split
    · exact hP.port s _ _ _ h
    · exact h
  simp only [Machine.acceptFrame]
  split
  · exact hP.modLink _ hreload
  · exact hP.port _ _ _ _ (hP.modLink _ hreload)

theorem PortKeeps.takeFrame (hP : PortKeeps P) (f : Frame) {s : State} (h : P s) : P (takeFrame f s) :=
  hP.pump 9 (hP.acceptFrame f h)

theorem PortKeeps.parserEffects (hP : PortKeeps P) (l : List ParserEvent) {s : State} (h : P s) : P (parserEffects l s) := by
  refine forEach_keeps (fun e t ht => ?_) l s h
  cases e with
  | discarded => exact hP.port t _ _ _ ht
  | accepted f => exact hP.takeFrame f ht

theorem PortKeeps.takeByte (hP : PortKeeps P) (b : Byte) (time : Nat) {s : State} (h : P s) : P (takeByte b time s) :=
  hP.parserEffects _ (hP.modLink _ h)

theorem PortKeeps.takeGap (hP : PortKeeps P) {s : State} (h : P s) : P (takeGap s) :=
  hP.parserEffects _ (hP.modLink _ h)

theorem PortKeeps.endBreak (hP : PortKeeps P) {s : State} (h : P s) : P (endBreak s) :=
  hP.pump 9 (hP.modLink _ h)

end

end Sys2Proof.Machine

/-! SUPPORT. The twist record: the reading that follows a position, the ranges of a record, and what an encoder reading and the failure of TWIST_SENSOR write (R123 to R126). -/

namespace Sys2Proof.Machine

/-! ## Turns and angle -/

theorem referred_lt (ref angle : Nat) : referred ref angle < 3600 := Nat.mod_lt _ (by decide)

/-- The turns of a record are those of its position. -/
theorem turns_eq_position_div (r : TwistRecord) : r.turns = r.position / 3600 := by
  have hlt := referred_lt r.ref r.last
  simp only [TwistRecord.position]
  omega

/-- A reading of a true position less than half a turn away gives that position: the angle places it within its turn, and of the
positions at that angle only one is so near (R124). -/
theorem position_after {r : TwistRecord} {a : Fin 3600} {y : Int} (href : r.ref < 3600)
    (hnear : (y - r.position).natAbs < 1800) (hy : (y + r.ref) % 3600 = a) : (r.after a).position = y := by
  have hangle : y % 3600 = referred r.ref a := by
    simp only [referred]
    omega
  have hold := referred_lt r.ref r.last
  simp only [TwistRecord.position] at hnear
  simp only [TwistRecord.after, TwistRecord.position, turnsAfter]
  split_ifs <;> omega

/-! ## The ranges -/

/-- The range that a position leaves only as unknown: ±10,800, with the turns within ±4. -/
def TwistRecord.Within (r : TwistRecord) : Prop := r.position.natAbs ≤ 10800 ∧ r.turns.natAbs ≤ 4

/-- The position alone decides: in ±10,800 the turns are in ±3. -/
theorem within_of_position {r : TwistRecord} (h : r.position.natAbs ≤ 10800) : r.Within := by
  refine ⟨h, ?_⟩
  rw [turns_eq_position_div]
  omega

/-- Angles below 3,600, and a known position within its range. -/
def TwistRecord.InRange (r : TwistRecord) : Prop := r.ref < 3600 ∧ r.last < 3600 ∧ (r.valid = true → r.Within)

theorem twistSound_iff (s : State) : TwistSound s ↔ s.retained.twist.InRange := Iff.rfl

theorem TwistRecord.InRange.of_unknown {r : TwistRecord} (href : r.ref < 3600) (hlast : r.last < 3600) (hv : r.valid = false) :
    r.InRange := ⟨href, hlast, fun h => absurd (hv.symm.trans h) (by decide)⟩

theorem inRange_referenceRecord {ref : Int} (h : ref.natAbs ≤ 10800) (a : Fin 3600) : (referenceRecord ref a).InRange := by
  have hposition := position_referenceRecord ref a
  exact ⟨ref_referenceRecord ref a, a.isLt, fun _ => within_of_position (hposition.symm ▸ h)⟩

/-! ## What writes the record -/

theorem sensorStop_faults (s : State) : (sensorStop s).faults = s.faults := by
  unfold sensorStop
  repeat' split
  all_goals rfl

/-- The failure of TWIST_SENSOR writes of `base` the valid mark alone. -/
theorem base_twistSensorFails (s : State) :
    base (twistSensorFails s) = base (modTwist (fun r => { r with valid := false }) s) := by
  rw [twistSensorFails, base_sensorStop, base_stopUntwistWait]
  rfl

theorem isActive_twistSensorFails {s : State} (hrows : s.faults.rows.length = 79) :
    isActive (twistSensorFails s) .twistSensor 1 = true := by
  have hstop := isActive_of_faults (sensorStop_faults (stopUntwistWait (modTwist (fun r => { r with valid := false })
    (raise .twistSensor 1 s)))) .twistSensor 1
  have hwait (u : State) : isActive (stopUntwistWait u) .twistSensor 1 = isActive u .twistSensor 1 :=
    isActive_congr (faultState_clearFault_of_ne (by decide) _)
  exact hstop.trans ((hwait _).trans (isActive_raise hrows _))

/-- The reading kept and the windows in force written, with which every update begins. -/
def encoderRead (r : EncoderReading) (s : State) : State := windowsAct (modYaw (fun y => { y with encoder := some r }) s)

theorem encoderUpdate_invalid (s : State) : encoderUpdate .invalid s = twistSensorFails (encoderRead .invalid s) := rfl

theorem encoderUpdate_unknown {s : State} (hv : s.retained.twist.valid = false) (a : Fin 3600) :
    encoderUpdate (.angle a) s = modTwist (fun r => { r with last := a }) (encoderRead (.angle a) s) := by
  simp only [encoderUpdate, hv, Bool.false_eq_true, if_false, encoderRead]

/-- A known position follows the reading within its range. -/
theorem encoderUpdate_within {s : State} (hv : s.retained.twist.valid = true) {a : Fin 3600}
    (h : (s.retained.twist.after a).Within) :
    encoderUpdate (.angle a) s = applyTheta (modTwist (fun r => r.after a) (encoderRead (.angle a) s)) := by
  obtain ⟨hposition, hturns⟩ := h
  simp only [encoderUpdate, hv, if_true]
  exact if_neg (by omega)

/-- A known position that leaves its range is unknown, with TWIST_SENSOR. -/
theorem encoderUpdate_beyond {s : State} (hv : s.retained.twist.valid = true) {a : Fin 3600}
    (h : ¬(s.retained.twist.after a).Within) :
    encoderUpdate (.angle a) s = twistSensorFails (modTwist (fun r => r.after a) (encoderRead (.angle a) s)) := by
  simp only [encoderUpdate, hv, if_true]
  exact if_pos (by unfold TwistRecord.Within at h; omega)

end Sys2Proof.Machine

/-! SUPPORT. The twist record in its ranges: an encoder reading and a twist reference by what they write, every other command by leaving the record alone, and a start by its checks (R123 to R126, R186). -/

namespace Sys2Proof.Machine

/-! ## Operations -/

/-- The twist record. -/
def twistOf (s : State) : TwistRecord := s.retained.twist

/-- What leaves `base` leaves the twist record. -/
theorem twistOf_of_base {s t : State} (h : base t = base s) : twistOf t = twistOf s :=
  congrArg (fun b : List Instr × Bool × Lines × Nat × Link × Store × Retained => b.2.2.2.2.2.2.twist) h

theorem twistSound_congr {s t : State} (h : twistOf t = twistOf s) (hs : TwistSound s) : TwistSound t :=
  (twistSound_iff t).mpr (h ▸ hs : (twistOf t).InRange)

theorem twistSound_of_base {s t : State} (h : base t = base s) (hs : TwistSound s) : TwistSound t :=
  twistSound_congr (twistOf_of_base h) hs

theorem twistSound_twistSensorFails {s : State} (href : s.retained.twist.ref < 3600) (hlast : s.retained.twist.last < 3600) :
    TwistSound (twistSensorFails s) :=
  twistSound_of_base (base_twistSensorFails s)
    (TwistRecord.InRange.of_unknown (r := { s.retained.twist with valid := false, checkGood := true }) href hlast rfl)

theorem twistSound_encoderUpdate (r : EncoderReading) {s : State} (h : TwistSound s) : TwistSound (encoderUpdate r s) := by
  obtain ⟨href, hlast, -⟩ := id h
  cases r with
  | invalid =>
    rw [encoderUpdate_invalid]
    exact twistSound_twistSensorFails href hlast
  | angle a =>
    cases hv : s.retained.twist.valid with
    | false =>
      rw [encoderUpdate_unknown hv]
      exact TwistRecord.InRange.of_unknown (r := { s.retained.twist with last := a, checkGood := true }) href a.isLt hv
    | true =>
      by_cases hin : (s.retained.twist.after a).Within
      · rw [encoderUpdate_within hv hin]
        exact twistSound_of_base (base_applyTheta _) ⟨href, a.isLt, fun _ => hin⟩
      · rw [encoderUpdate_beyond hv hin]
        exact twistSound_twistSensorFails href a.isLt

theorem twistSound_setReference {ref : Int} (h : ref.natAbs ≤ 10800) (a : Fin 3600) (s : State) :
    TwistSound (setReference ref a s) :=
  twistSound_of_base (base_setReference ref a s) (inRange_referenceRecord h a)

theorem twistSound_accountBattery {s : State} (h : TwistSound s) : TwistSound (accountBattery s) :=
  twistSound_of_base (base_accountBattery s) h

theorem twistSound_settle {s : State} (h : TwistSound s) : TwistSound (settle s) := twistSound_of_base (base_settle s) h

theorem twistSound_finish {s : State} (h : TwistSound s) : TwistSound (finish s) :=
  twistSound_congr (congrArg Retained.twist (finish_retained s)) h

/-- An event whose own effect keeps the record in its ranges. -/
theorem twistSound_event {f : State → State} (hf : ∀ u, TwistSound u → TwistSound (f u)) {s : State} (h : TwistSound s) :
    TwistSound (event f s) := by
  unfold event
  split
  · exact twistSound_finish (hf (beginEvent s) h)
  · exact h

theorem twistSound_react {f : State → State} (hf : ∀ u, TwistSound u → TwistSound (f u)) {s : State} (h : TwistSound s) :
    TwistSound (react f s) := twistSound_event (fun u hu => twistSound_settle (hf u hu)) h

theorem twistSound_react_of_base {f : State → State} (hf : ∀ u, base (f u) = base u) {s : State} (h : TwistSound s) :
    TwistSound (react f s) := twistSound_react (fun u => twistSound_of_base (hf u)) h

/-! ## Requests -/

theorem twistOf_accept (s : State) : twistOf (accept s).2 = twistOf s := twistOf_of_base (base_settle s)
theorem twistOf_acceptClamped (b : Bool) (s : State) : twistOf (acceptClamped b s).2 = twistOf s :=
  twistOf_of_base (base_settle s)
theorem twistOf_refuse (st : Status) (s : State) : twistOf (refuse st s).2 = twistOf s := rfl
theorem twistOf_modWorking (f : Settings → Settings) (s : State) : twistOf (modWorking f s) = twistOf s := rfl
theorem twistOf_writeEnergy (n : Nat) (s : State) : twistOf (writeEnergy n s) = twistOf s := rfl

theorem base_applySetting (i : SettingId) (old : Settings) (s : State) : base (applySetting i old s) = base s := by
  cases i
  case td | tx => exact base_applyThermalSettings s
  case softLimit | hardLimit => exact base_applyTwistLimits old s
  all_goals rfl

theorem twistOf_serveSetting (i : SettingId) (x : Int) (s : State) : twistOf (serveSetting i x s).2 = twistOf s := by
  simp only [serveSetting]
  repeat' split
  all_goals simp only [twistOf_refuse, twistOf_acceptClamped, twistOf_of_base (base_applySetting _ _ _), twistOf_modWorking]

theorem twistOf_serveYawCommand (body : List Byte) (s : State) : twistOf (serveYawCommand body s).2 = twistOf s := by
  simp only [serveYawCommand, serveJog, serveGoTo, serveYawStop, serveYawAuto, serveUntwist]
  repeat' split
  all_goals simp only [twistOf_refuse, twistOf_accept, twistOf_of_base (base_jog _ _), twistOf_of_base (base_goTo _ _ _),
    twistOf_of_base (base_manualStop _), twistOf_of_base (base_manualAuto _), twistOf_of_base (base_commandUntwist _ _)]

/-- No request but SetTwistReference writes the twist record. -/
theorem twistOf_serve {k : Kind} (hk : k ≠ .setTwistReference) (body : List Byte) (s : State) :
    twistOf (serve k body s).2 = twistOf s := by
  cases k
  case setTwistReference => exact absurd rfl hk
  case yawCommand => exact twistOf_serveYawCommand body s
  case setSetting =>
    simp only [serve, serveSetSetting]
    repeat' split
    all_goals simp only [twistOf_refuse, twistOf_serveSetting]
  case setMode | claimControl | setStringEnable | armGridMonitor | setHoist | ackFault =>
    simp only [serve, serveSetMode, serveClaimControl, serveSetStringEnable, serveArmGridMonitor, serveSetHoist, serveAckFault]
    repeat' split
    all_goals simp only [twistOf_refuse, twistOf_accept, twistOf_of_base (base_changeMode _ _ _ _),
      twistOf_of_base (base_setOwner _ _), twistOf_of_base (base_enableString _ _), twistOf_of_base (base_disableString _ _),
      twistOf_of_base (base_armMonitor _ _ _ _ _), twistOf_of_base (base_submitClaim _ _ _),
      twistOf_of_base (base_withdrawClaim _ _), twistOf_of_base (base_ackWhere _ _)]
  case setCooling | setAuxReserves | setBatteryEnergy | setDriveSlots =>
    simp only [serve, serveSetCooling, serveLiquidCooling, serveSetAuxReserves, serveSetBatteryEnergy, serveSetDriveSlots]
    repeat' split
    all_goals simp only [twistOf_refuse, twistOf_accept, twistOf_acceptClamped, twistOf_of_base (base_returnFans _ _),
      twistOf_of_base (base_oweWalk _), twistOf_of_base (base_judgeCharger _), twistOf_of_base (base_judgeMarks _),
      twistOf_of_base (base_returnDrives _ _), twistOf_modWorking, twistOf_writeEnergy]
  all_goals
    simp only [serve, serveRead, serveSetTime, serveRestart, serveEnableSupervision, serveSetPower, serveSetRideThrough,
      serveSetYawPolicy, serveSetNoDwellWindow, serveGetFaults, serveSetFaultClass, serveGetSnapshot,
      serveClearSnapshot, serveClearCounts, serveGetSetting, serveStoreSettings, serveLockSettings]
    repeat' split
    all_goals rfl

theorem twistSound_serveSetTwistReference (body : List Byte) {s : State} (h : TwistSound s) :
    TwistSound (serveSetTwistReference body s).2 := by
  simp only [serveSetTwistReference]
  split
  · exact h
  · split
    · exact h
    · next hrange =>
      repeat' split
      · exact h
      · exact h
      · exact twistSound_settle (twistSound_setReference (Nat.le_of_not_lt hrange) _ s)
      · exact h
      · exact h

theorem twistSound_serve (k : Kind) (body : List Byte) {s : State} (h : TwistSound s) : TwistSound (serve k body s).2 := by
  by_cases hk : k = .setTwistReference
  · subst hk
    exact twistSound_serveSetTwistReference body h
  · exact twistSound_congr (twistOf_serve hk body s) h

/-- The port keeps the twist record in its ranges. -/
theorem twistSound_portKeeps : PortKeeps TwistSound where
  port _ _ _ _ h := h
  serve k body _ h := twistSound_serve k body h

/-! ## Starts -/

theorem base_startRows (twistLost imageLost : Bool) (s : State) : base (startRows twistLost imageLost s) = base s := by
  have hclears (l : List Nat) (t : State) : base (forEach l (clearFault .yawDrive) t) = base t :=
    base_forEach (fun u v => base_clearFault .yawDrive u v) l t
  simp only [startRows, apply_ite base, base_raise, base_clearFault, base_setFault, hclears, ite_self]

/-- What a start settles, it settles without writing `base`. -/
theorem base_startSettles (twistLost imageLost : Bool) (s : State) : base (startSettles twistLost imageLost s) = base s := by
  unfold startSettles
  extract_lets marked cleared rows aux claims withYaw charged walked
  have hwalked : base walked = base charged := by
    unfold walked
    split
    · exact base_runWalk charged
    · rfl
  calc base walked = base charged := hwalked
    _ = base withYaw := base_judgeCharger withYaw
    _ = base cleared := base_startRows twistLost imageLost cleared

theorem twistSound_warmRestart (reading : Nat) {s : State} (h : TwistSound s) : TwistSound (warmRestart reading s) :=
  twistSound_of_base (base_startSettles _ _ _) h

/-- A cold start keeps the record's numbers, and the valid mark only with it. -/
theorem twistSound_coldStart (reading : Nat) {s : State} (h : TwistSound s) : TwistSound (coldStart reading s) := by
  obtain ⟨href, hlast, hknown⟩ := h
  unfold coldStart
  exact twistSound_of_base (base_startSettles _ _ _) ⟨href, hlast, fun hgood => hknown (Bool.and_eq_true_iff.mp hgood).2⟩

/-! ## The line, where a start may begin -/

theorem twistSound_frameLeaves {s : State} (h : TwistSound s) : TwistSound (frameLeaves s) := by
  simp only [frameLeaves]
  repeat' split
  · exact h
  · exact twistSound_warmRestart _ h
  · exact twistSound_finish (twistSound_portKeeps.pump 9 (twistSound_portKeeps.modLink _ h))

theorem twistSound_breakLine {s : State} (h : TwistSound s) : TwistSound (breakLine s) := by
  simp only [breakLine]
  split
  · exact twistSound_warmRestart _ h
  · exact twistSound_finish h

/-! ## Every command -/

theorem base_runOnOf (l : LoopId) (s : State) : base (runOnOf l s) = base s := by
  cases l
  · exact base_runOnExpires .l1 s
  · exact base_runOnExpires .l2 s
  · exact base_runOnExpires3 s

theorem twistOf_storeCompletes (s : State) : twistOf (storeCompletes s) = twistOf s := by
  unfold storeCompletes
  split <;> rfl

theorem twistSound_event_of_base {f : State → State} (hf : ∀ u, base (f u) = base u) {s : State} (h : TwistSound s) :
    TwistSound (event f s) := twistSound_event (fun u => twistSound_of_base (hf u)) h

/-- Every command keeps the twist record in its ranges. -/
theorem twistSound_exec (c : Instr) {s : State} (h : TwistSound s) : ∃ t, exec c s = .next t ∧ TwistSound t := by
  cases c
  case coldStart u => exact ⟨_, rfl, twistSound_coldStart u h⟩
  case warmRestart u =>
    refine ⟨_, rfl, ?_⟩
    split
    · exact twistSound_warmRestart u h
    · exact h
  case powerFailure => exact ⟨_, rfl, h⟩
  case encoderUpdate r => exact ⟨_, rfl, twistSound_react (fun _ => twistSound_encoderUpdate r) h⟩
  case batteryAccounting => exact ⟨_, rfl, twistSound_react (fun _ => twistSound_accountBattery) h⟩
  case byteArrival b time => exact ⟨_, rfl, twistSound_event (fun _ => twistSound_portKeeps.takeByte b time) h⟩
  case frameGapTimeout => exact ⟨_, rfl, twistSound_event (fun _ => twistSound_portKeeps.takeGap) h⟩
  case linkBreakEnd => exact ⟨_, rfl, twistSound_event (fun _ => twistSound_portKeeps.endBreak) h⟩
  case frameSent =>
    refine ⟨_, rfl, ?_⟩
    split
    · exact twistSound_frameLeaves h
    · exact h
  case linkBreak =>
    refine ⟨_, rfl, ?_⟩
    split
    · exact twistSound_breakLine h
    · exact h
  case takeModeNotice =>
    exact ⟨_, rfl, twistSound_event (fun u => twistSound_congr (congrArg Retained.twist (takeModeNotice_retained u))) h⟩
  case takeFaultNotice =>
    exact ⟨_, rfl, twistSound_event (fun u => twistSound_congr (congrArg Retained.twist (takeFaultNotice_retained u))) h⟩
  case storeCompletion => exact ⟨_, rfl, twistSound_event (fun u => twistSound_congr (twistOf_storeCompletes u)) h⟩
  case flowSwitchChange l flow =>
    refine ⟨_, rfl, ?_⟩
    split
    · exact twistSound_react_of_base (base_flowChange l flow) h
    · exact h
  case fanFeedbackChange f running =>
    have hfed : TwistSound (modFan f (fun c => { c with proven := running }) s) := twistSound_of_base (base_modFan f _ s) h
    exact ⟨_, rfl, twistSound_react_of_base (fun _ => rfl) hfed⟩
  case brakeProofChange p present =>
    exact ⟨_, rfl, twistSound_event_of_base (base_watchProof p present) (by cases p <;> exact h)⟩
  case jogButtonPress d =>
    refine ⟨_, rfl, twistSound_react_of_base (fun u => ?_) (by cases d <;> exact h)⟩
    split
    · exact base_releaseJog _ u
    · exact base_pressJog d u
  case jogButtonRelease d => exact ⟨_, rfl, twistSound_react_of_base (base_releaseJog d) (by cases d <;> exact h)⟩
  case supervisionTimerExpiry => exact ⟨_, rfl, twistSound_react_of_base base_supervisionExpires h⟩
  case stringReport k i u bad => exact ⟨_, rfl, twistSound_react_of_base (base_takeReport k i u bad) h⟩
  case prechargeTimeout => exact ⟨_, rfl, twistSound_react_of_base (base_forEach base_timeoutPrecharge _) h⟩
  case shareInterval => exact ⟨_, rfl, twistSound_react_of_base base_shareInterval h⟩
  case gridSample u => exact ⟨_, rfl, twistSound_react_of_base (base_gridSample u) h⟩
  case dipListAging => exact ⟨_, rfl, twistSound_event_of_base base_ageDips h⟩
  case rideThroughExceeded => exact ⟨_, rfl, twistSound_react_of_base base_rideThroughEnds h⟩
  case qHoldEnd => exact ⟨_, rfl, twistSound_event_of_base base_qHoldEnds h⟩
  case recoveryTimeout => exact ⟨_, rfl, twistSound_react_of_base base_recoveryTimesOut h⟩
  case overvoltageTimeout => exact ⟨_, rfl, twistSound_react_of_base base_overTimesOut h⟩
  case returnDwellComplete => exact ⟨_, rfl, twistSound_react_of_base base_dwellCompletes h⟩
  case thermalInterval x y => exact ⟨_, rfl, twistSound_react_of_base (base_thermalInterval x y) h⟩
  case inletSubstitute l => exact ⟨_, rfl, twistSound_event_of_base (base_substituteInlet l) h⟩
  case flowProofTimeout l => exact ⟨_, rfl, twistSound_react_of_base (base_proofTimeout l) h⟩
  case flowDropTimeout l => exact ⟨_, rfl, twistSound_react_of_base (base_dropTimeout l) h⟩
  case coolingEvaluation a b air x => exact ⟨_, rfl, twistSound_react_of_base (base_coolingEvaluation a b air x) h⟩
  case airSensorSubstitute => exact ⟨_, rfl, twistSound_react_of_base base_airSubstitution h⟩
  case runOnExpiry l => exact ⟨_, rfl, twistSound_react_of_base (base_runOnOf l) h⟩
  case fanMismatchExpiry f => exact ⟨_, rfl, twistSound_react_of_base (base_fanFails f) h⟩
  case bridgeTimerExpiry => exact ⟨_, rfl, twistSound_react_of_base base_bridgeExpires h⟩
  case normalCountExpiry => exact ⟨_, rfl, twistSound_react_of_base base_normalCountExpires h⟩
  case yawSample a b w => exact ⟨_, rfl, twistSound_react_of_base (base_yawSample a b w) h⟩
  case brakeVentExpiry => exact ⟨_, rfl, twistSound_react_of_base base_ventSettles h⟩
  case brakePressurizeExpiry => exact ⟨_, rfl, twistSound_react_of_base base_pressurizeSettles h⟩
  case brakeProofAbsenceExpiry p => exact ⟨_, rfl, twistSound_react_of_base (base_proofLost p) h⟩
  case rampingExpiry => exact ⟨_, rfl, twistSound_react_of_base base_rampSettles h⟩
  case manualTimerExpiry => exact ⟨_, rfl, twistSound_react_of_base base_manualTimeout h⟩
  case restTimerExpiry => exact ⟨_, rfl, twistSound_event_of_base (base_modYaw _) h⟩
  case driveFeedbackChange c running => exact ⟨_, rfl, twistSound_react_of_base (fun _ => rfl) h⟩
  case driveMismatchExpiry c => exact ⟨_, rfl, twistSound_react_of_base (base_driveFails c) h⟩
  case untwistWaitExpiry => exact ⟨_, rfl, twistSound_react_of_base base_untwistWaitExpires h⟩
  case calmTimerExpiry => exact ⟨_, rfl, twistSound_react_of_base base_calmExpires h⟩
  case idleLimitExpiry => exact ⟨_, rfl, twistSound_react_of_base base_idleLimitExpires h⟩
  case estopChainOpen => exact ⟨_, rfl, twistSound_react_of_base base_estopOpens h⟩
  case estopChainClose => exact ⟨_, rfl, twistSound_event_of_base (base_clearFault .estop 1) h⟩
  case keySwitch p => exact ⟨_, rfl, twistSound_react_of_base (base_keyReaches s.lines.key p) h⟩
  case resetButton => exact ⟨_, rfl, twistSound_react_of_base base_resetPressed h⟩
  all_goals exact ⟨_, rfl, twistSound_event (fun _ => twistSound_portKeeps.takeFrame _) h⟩

theorem twistSound_idle {s : State} (h : TwistSound s) : TwistSound (idle s) := by
  unfold idle
  split <;> exact h

/-- Settles O53: a command by `twistSound_exec`; an idle millisecond leaves the record. -/
theorem stepKeepsTheTwistInRange : Obligations.StepKeepsTheTwistInRange := by
  unfold Obligations.StepKeepsTheTwistInRange
  intro s t h hstep
  unfold step at hstep
  split at hstep
  · obtain rfl := Host.Outcome.next.inj hstep
    exact twistSound_idle h
  · next c rest _ =>
    have hrest : TwistSound { s with pending := rest } := h
    obtain ⟨u, hexec, hsound⟩ := twistSound_exec c hrest
    obtain rfl := Host.Outcome.next.inj (hexec.symm.trans hstep)
    exact hsound

end Sys2Proof.Machine

/-! SUPPORT. An encoder reading and the untwist wait at the end of their events: what the rules on θ leave alone, and what a reading writes (R123, R124, R128 to R131). -/

namespace Sys2Proof.Machine

/-! ## The rules on θ leave what stands aside -/

theorem aside_applyHardLimit (s : State) : aside (applyHardLimit s) = aside s := by
  simp only [applyHardLimit]
  split
  · rfl
  · split
    · split
      · split
        · split
          · rw [aside_raiseTwistHard, aside_stopWaiting]
          · exact aside_stopWaiting s
        · rfl
      all_goals rfl
    · rfl

theorem aside_judgeSoftLimit (s : State) : aside (judgeSoftLimit s) = aside s := by
  unfold judgeSoftLimit
  repeat' split
  all_goals simp only [aside_untwistBecomesDue, aside_raise]

theorem aside_judgeUntwistEnd (s : State) : aside (judgeUntwistEnd s) = aside s := by
  unfold judgeUntwistEnd
  repeat' split
  all_goals rfl

theorem aside_carryStop (s : State) (x : Int) : aside (carryStop s x) = aside s := by
  unfold carryStop
  repeat' split
  all_goals rfl

theorem aside_applyTheta (s : State) : aside (applyTheta s) = aside s := by
  have hjudged : aside (judgeUntwistEnd (judgeSoftLimit (applyHardLimit s))) = aside s := by
    rw [aside_judgeUntwistEnd, aside_judgeSoftLimit, aside_applyHardLimit]
  simp only [applyTheta]
  split
  · exact hjudged
  · rw [aside_carryStop]
    split
    · exact (aside_normalStop _).trans hjudged
    · exact hjudged

theorem aside_sensorStop (s : State) : aside (sensorStop s) = aside s := by
  unfold sensorStop
  repeat' split
  · exact aside_completeWaiting s
  all_goals rfl

/-! ## What a reading leaves -/

/-- The rules on θ write nothing that lasts. -/
theorem lasting_applyTheta (s : State) : lasting (applyTheta s) = lasting s :=
  field_of_aside (f := lasting) (fun _ => rfl) (aside_applyTheta s)

/-- The failure of TWIST_SENSOR writes of what lasts the valid mark alone. -/
theorem lasting_twistSensorFails (s : State) :
    lasting (twistSensorFails s) = lasting (modTwist (fun r => { r with valid := false }) s) := by
  rw [twistSensorFails, field_of_aside (f := lasting) (fun _ => rfl) (aside_sensorStop _)]
  rfl

theorem lasting_react {s : State} (hp : s.powered = true) (f : State → State) :
    lasting (react f s) = lasting (f (beginEvent s)) := react_field (fun _ => rfl) hp f

/-- `t` is the end of an event that has written, of what lasts, the twist record alone. -/
def TwistWritten (s t : State) (r : TwistRecord) : Prop :=
  lasting t = (s.store, s.grid, s.therm, { s.retained with twist := r })

theorem TwistWritten.fields {s t : State} {r : TwistRecord} (h : TwistWritten s t r) :
    t.store = s.store ∧ t.grid = s.grid ∧ t.therm = s.therm ∧ t.retained.energy = s.retained.energy ∧
      t.retained.twist = r := by
  simp only [TwistWritten, lasting, Prod.mk.injEq] at h
  obtain ⟨hstore, hgrid, htherm, hretained⟩ := h
  exact ⟨hstore, hgrid, htherm, (congrArg Retained.energy hretained :), congrArg Retained.twist hretained⟩

/-- A reading within the range: the record follows it. -/
theorem encoder_within {s : State} (hp : s.powered = true) (hv : s.retained.twist.valid = true) {a : Fin 3600}
    (h : (s.retained.twist.after a).Within) :
    TwistWritten s (react (encoderUpdate (.angle a)) s) { s.retained.twist.after a with checkGood := true } := by
  rw [TwistWritten, lasting_react hp, encoderUpdate_within (s := beginEvent s) hv h]
  exact lasting_applyTheta _

/-- A reading beyond the range: the record follows it and knows no position. -/
theorem encoder_beyond {s : State} (hp : s.powered = true) (hv : s.retained.twist.valid = true) {a : Fin 3600}
    (h : ¬(s.retained.twist.after a).Within) :
    TwistWritten s (react (encoderUpdate (.angle a)) s)
      { s.retained.twist.after a with valid := false, checkGood := true } := by
  rw [TwistWritten, lasting_react hp, encoderUpdate_beyond (s := beginEvent s) hv h]
  exact lasting_twistSensorFails _

theorem encoder_invalid {s : State} (hp : s.powered = true) :
    TwistWritten s (react (encoderUpdate .invalid) s) { s.retained.twist with valid := false, checkGood := true } := by
  rw [TwistWritten, lasting_react hp, encoderUpdate_invalid]
  exact lasting_twistSensorFails _

/-- A record that knows no position takes the reading as its last angle. -/
theorem encoder_unknown {s : State} (hp : s.powered = true) (hv : s.retained.twist.valid = false) (a : Fin 3600) :
    TwistWritten s (react (encoderUpdate (.angle a)) s) { s.retained.twist with last := a, checkGood := true } := by
  rw [TwistWritten, lasting_react hp, encoderUpdate_unknown (s := beginEvent s) hv]
  rfl

/-- An event that ends a known position leaves TWIST_SENSOR Active. -/
theorem isActive_sensorFailed {s u : State} (hp : s.powered = true) (hrows : s.faults.rows.length = 79) {f : State → State}
    (hf : f (beginEvent s) = twistSensorFails u) (hu : u.faults = s.faults) : isActive (react f s) .twistSensor 1 = true := by
  rw [react_isActive hp (by decide), hf]
  exact isActive_twistSensorFails (by rw [hu]; exact hrows)

theorem theta_none {s : State} (h : s.retained.twist.valid = false) : theta s = none :=
  if_neg (by rw [h]; decide)

theorem theta_some {s : State} (h : s.retained.twist.valid = true) : theta s = some s.retained.twist.position := if_pos h

/-! ## The untwist wait -/

/-- The yaw record at the end of its untwist wait. -/
def Yaw.waited (y : Yaw) : Yaw := { y with untwist := { y.untwist with wait := none, ready := true } }

/-- The end of a running wait makes the untwist ready; in Generating it raises UNTWIST_DUE. -/
theorem untwistWaitExpires_running {s : State} (hw : s.yaw.untwist.wait.isSome = true) :
    untwistWaitExpires s =
      if s.mode.current = .generating then raise .untwistDue 1 (modYaw Yaw.waited s) else modYaw Yaw.waited s := if_pos hw

theorem yaw_untwistWaitExpires {s : State} (hw : s.yaw.untwist.wait.isSome = true) :
    (untwistWaitExpires s).yaw = s.yaw.waited := by
  rw [untwistWaitExpires_running hw]
  split <;> rfl

/-- Settles O47: a reading by the position it gives and by what it writes, through the reactions; the wait by its effect. -/
theorem encoderTracksTheTwist : Obligations.EncoderTracksTheTwist := by
  unfold Obligations.EncoderTracksTheTwist
  intro s hp ⟨hrows, _⟩
  refine ⟨fun a y hv href _ hnear hy hrange => ?_, fun a y hv href _ hnear hy hrange => ?_, ?_, fun a hv => ?_, fun hw => ?_⟩
  · have hposition := position_after href hnear hy
    obtain ⟨hstore, hgrid, htherm, henergy, htwist⟩ :=
      (encoder_within hp hv (within_of_position (hposition ▸ hrange))).fields
    refine ⟨_, rfl, ?_, congrArg TwistRecord.last htwist, (congrArg TwistRecord.ref htwist :), henergy, hgrid, htherm, hstore⟩
    rw [theta_some ((congrArg TwistRecord.valid htwist).trans hv), htwist]
    exact congrArg some hposition
  · have hposition := position_after href hnear hy
    have hbeyond : ¬(s.retained.twist.after a).Within := fun ⟨hin, _⟩ => by omega
    obtain ⟨hstore, hgrid, -, henergy, htwist⟩ := (encoder_beyond hp hv hbeyond).fields
    have hsensor := isActive_sensorFailed hp hrows (encoderUpdate_beyond (s := beginEvent s) hv hbeyond) rfl
    have hturns : (s.retained.twist.after a).turns = y / 3600 := by rw [turns_eq_position_div, hposition]
    exact ⟨_, rfl, theta_none (congrArg TwistRecord.valid htwist), hsensor, congrArg TwistRecord.last htwist,
      (congrArg TwistRecord.turns htwist).trans hturns, (congrArg TwistRecord.ref htwist :), henergy, hstore, hgrid⟩
  · obtain ⟨hstore, hgrid, -, -, htwist⟩ := (encoder_invalid hp).fields
    have hsensor := isActive_sensorFailed hp hrows (encoderUpdate_invalid (beginEvent s)) rfl
    exact ⟨_, rfl, theta_none (congrArg TwistRecord.valid htwist), hsensor, hstore, hgrid⟩
  · obtain ⟨hstore, hgrid, -, -, htwist⟩ := (encoder_unknown hp hv a).fields
    exact ⟨_, rfl, theta_none ((congrArg TwistRecord.valid htwist).trans hv), congrArg TwistRecord.last htwist,
      (congrArg TwistRecord.turns htwist :), hstore, hgrid⟩
  · have hyaw := yaw_untwistWaitExpires (s := beginEvent s) hw
    refine ⟨_, congrArg Host.Outcome.next (react_eq hp untwistWaitExpires), ?_, ?_, ?_, ?_, fun hgen => ?_⟩
    · rw [hyaw]; rfl
    · rw [hyaw]; rfl
    · rw [hyaw]; rfl
    · rw [hyaw]; rfl
    · rw [untwistWaitExpires_running (s := beginEvent s) hw, if_pos (show (beginEvent s).mode.current = .generating from hgen)]
      exact isActive_raise (s := modYaw Yaw.waited (beginEvent s)) hrows .untwistDue

end Sys2Proof.Machine

/-! SUPPORT. Requests that only the host may make: each asks for the owner first, and a refusal is quiet but for its reply (R144). -/

namespace Sys2Proof.Machine

/-! ## Requests of the host alone (R144) -/

theorem notRemote_of_owner {s : State} (h : s.mode.owner ≠ .remote) : notRemote s = true := decide_eq_true h

/-- Every command of YawCommand asks for the owner first. -/
theorem serveYawCommand_notRemote {s : State} (h : notRemote s = true) (body : List Byte) :
    serveYawCommand body s = (.notOwner, s) := by
  unfold serveYawCommand
  split
  all_goals exact if_pos h

/-- The kinds that only the host may request (R144). -/
def hostKinds : List Kind :=
  [.restart, .setMode, .setPower, .setStringEnable, .setRideThrough, .armGridMonitor, .setCooling,
    .setAuxReserves, .setHoist, .setYawPolicy, .yawCommand, .setDriveSlots, .setNoDwellWindow, .setTwistReference,
    .ackFault, .setFaultClass, .clearSnapshot, .clearCounts, .setSetting, .storeSettings, .lockSettings,
    .setBatteryEnergy]

/-- The kinds that anyone may request. -/
def openKinds : List Kind :=
  [.ping, .identify, .getStatus, .setTime, .enableSupervision, .claimControl, .getConverter, .getGrid,
    .getCooling, .getBudget, .getYaw, .getFaults, .getSnapshot, .getSetting]

/-- Of the host's kinds each asks for the owner before anything else. -/
theorem serve_notRemote {k : Kind} (hk : k ∈ hostKinds) (body : List Byte) {s : State} (h : notRemote s = true) :
    serve k body s = (.notOwner, s) := by
  cases k
  case yawCommand => exact serveYawCommand_notRemote h body
  case ping | identify | getStatus | setTime | enableSupervision | claimControl | getConverter | getGrid | getCooling |
      getBudget | getYaw | getFaults | getSnapshot | getSetting => exact absurd hk (by decide)
  all_goals exact if_pos h

theorem clampedIf_ne_notOwner (b : Bool) : clampedIf b ≠ .notOwner := by cases b <;> decide

/-- No other kind looks at the owner to refuse. -/
theorem serve_open {k : Kind} (hk : k ∈ openKinds) (body : List Byte) (s : State) : (serve k body s).1 ≠ .notOwner := by
  cases k
  case setTime | claimControl | getFaults | getSnapshot | getSetting =>
    simp only [serve, serveSetTime, serveClaimControl, serveGetFaults, serveGetSnapshot, serveGetSetting]
    split <;> exact fun h => nomatch h
  case enableSupervision => exact clampedIf_ne_notOwner _
  case ping | identify | getStatus | getConverter | getGrid | getCooling | getBudget | getYaw => exact fun h => nomatch h
  all_goals exact absurd hk (by decide)

/-! ## A refused request -/

theorem replyKind_code (k : Kind) : replyKind k.code = k.code + 0x80 := by cases k <;> rfl

/-- A request that its block refuses: the status is answered, and nothing else happens. -/
theorem request_refusedBy {k : Kind} {tag : Byte} {body : List Byte} {s : State} (h : PortReady s) (ht : tag ≠ 0)
    (hb : k.fits body = true) {status : Status} (hs : status.taken = false)
    (ha : serve k body (served s) = (status, served s)) :
    Answered s (request ⟨k.code, tag, body⟩ s) (k.code + 0x80) tag status
      (refusedBody k body (updateMarks (served s))) ∧
    Quiet (replied (served s)) (request ⟨k.code, tag, body⟩ s) := by
  have hok : status ≠ .ok := by rintro rfl; exact absurd hs (by decide)
  have hm : (clearMarks k (updateMarks (served s))).link = s.link := by
    rw [← served_link s]; unfold clearMarks; split <;> rfl
  have hbody : replyBody k body status (served s) (updateMarks (served s)) =
      refusedBody k body (updateMarks (served s)) := if_neg (by rw [hs]; decide)
  rw [request_served h (kind_ofByte_code k) hb ht, ha, ← replyKind_code, ← hbody]
  simp only [hok, decide_false, Bool.and_false]
  exact ⟨answered_finish (by rw [hm]),
    ((quiet_replied_marks k (served s)).trans (quiet_queueReply ..)).trans (quiet_finish _)⟩

/-- Settles O9: the owner is asked for first, and a refusal is quiet but for its reply. -/
theorem otherOwnersAreRefused : Obligations.OtherOwnersAreRefused := by
  unfold Obligations.OtherOwnersAreRefused
  intro k body s hs
  refine ⟨fun hk => ⟨serve_notRemote hk body (notRemote_of_owner hs), fun tag hready ht hb => ?_⟩,
    fun hk => serve_open hk body s⟩
  have hserved : notRemote (served s) = true := notRemote_of_owner (by rw [served_owner]; exact hs)
  obtain ⟨hans, hquiet⟩ := request_refusedBy hready ht hb rfl (serve_notRemote hk body hserved)
  exact ⟨⟨_, hans⟩, hquiet⟩

end Sys2Proof.Machine

/-! SUPPORT. Restart: a port that waits for the restart takes and serves nothing, and the OK is the last frame queued (R149). -/

namespace Sys2Proof.Machine

/-! ## A port that takes nothing -/

/-- With a Restart reply queued the port takes no notice. -/
theorem takeFaultNotices_restarting {s : State} (h : s.link.restartQueued = true) (n : Nat) : takeFaultNotices n s = s := by
  have hmay : mayTakeNotice s = false := by simp [mayTakeNotice, h]
  induction n with
  | zero => rfl
  | succ n ih => rw [takeFaultNotices, takeFaultNotice, hmay]; exact ih

theorem finish_restarting {s : State} (h : s.link.restartQueued = true) : finish s = updateMarks s := by
  have hmay : mayTakeNotice (updateMarks s) = false := by simp [mayTakeNotice, h]
  have hmode : takeModeNotice (updateMarks s) = updateMarks s := by
    simp only [takeModeNotice, hmay, Bool.and_false, Bool.false_eq_true, if_false]
  rw [finish, takeNotices, hmode]
  exact takeFaultNotices_restarting (s := updateMarks s) h 8

/-- With a Restart reply queued the port serves nothing (R149). -/
theorem pumpAll_restarting {s : State} (h : s.link.restartQueued = true) : pumpAll s = s := by
  have hmay : mayServe s = false := by simp [mayServe, h]
  rw [pumpAll, pump, hmay]
  rfl

/-- What an accepted frame may write: the link but for its outbound queue and the Restart mark, supervision, and fault rows. -/
theorem acceptFrame_eq (f : Frame) (s : State) :
    ∃ link timer count faults, acceptFrame f s = { s with
        link := link, faults := faults, mode := { s.mode with supTimer := timer, supCount := count } } ∧
      link.restartQueued = s.link.restartQueued ∧ link.outbound = s.link.outbound := by
  simp only [acceptFrame, supervisionReload]
  split <;> split <;> exact ⟨_, _, _, _, rfl, rfl, rfl⟩

/-- A frame that arrives with a Restart reply queued is accepted and waits. -/
theorem request_restarting {s : State} (hp : s.powered = true) (h : s.link.restartQueued = true) (f : Frame) :
    request f s = updateMarks (acceptFrame f (beginEvent s)) := by
  obtain ⟨link, _, _, _, heq, hqueued, -⟩ := acceptFrame_eq f (beginEvent s)
  have hstill : (acceptFrame f (beginEvent s)).link.restartQueued = true := by rw [heq]; exact hqueued.trans h
  rw [request, event, if_pos hp, takeFrame, pumpAll_restarting hstill, finish_restarting hstill]

/-! ## Restart (R149) -/

theorem serveRestart_ok {s : State} (h : notRemote s = false) (hs : storing s = false) :
    serve .restart [] s = (.ok, s) := by
  simp only [serve, serveRestart, h, hs, Bool.false_eq_true, if_false]

theorem serveRestart_busy {s : State} (h : notRemote s = false) (hs : storing s = true) :
    serve .restart [] s = (.busy, s) := by
  simp only [serve, serveRestart, h, hs, Bool.false_eq_true, if_false, if_true, refuse]

theorem served_storing (s : State) : storing (served s) = s.store.storing.isSome := by
  rw [storing, (served_frame s).1]

/-- The reply of a Restart marks the restart as queued (R149). -/
theorem queueReply_restart (kind tag : Byte) (st : Status) (content : List Byte) (s : State) :
    (queueReply kind tag st content true s).link.restartQueued = true ∧
    (queueReply kind tag st content true s).store = s.store ∧ (queueReply kind tag st content true s).conv = s.conv := by
  simp only [queueReply, Bool.or_true]
  split <;> exact ⟨rfl, rfl, rfl⟩

/-- An accepted Restart: its OK is the last frame of the queue, which no notice follows. -/
theorem restart_accepted {s : State} {tag : Byte} (h : PortReady s) (ht : tag ≠ 0) (ho : s.mode.owner = .remote)
    (hs : s.store.storing = none) :
    ∃ t, exec (.restart tag []) s = .next t ∧ t.link.restartQueued = true ∧ t.store = s.store ∧ t.conv = s.conv ∧
      ∃ flags, t.link.outbound = s.link.outbound ++ [⟨⟨0x85, tag, u8 0 ++ u8 flags⟩, false, true⟩] := by
  have ha := serveRestart_ok (notRemote_served ⟨h, ho⟩) ((served_storing s).trans (by rw [hs]; rfl))
  have heq := request_served (f := ⟨Kind.restart.code, tag, []⟩) h (kind_ofByte_code .restart) rfl ht
  rw [ha] at heq
  obtain ⟨hqueued, hstore, hconv⟩ := queueReply_restart (replyKind Kind.restart.code) tag .ok [] (updateMarks (served s))
  have houtbound := queueReply_outbound (replyKind Kind.restart.code) tag .ok [] true (updateMarks (served s))
  have hevent : exec (.restart tag []) s =
      .next (updateMarks (queueReply (replyKind Kind.restart.code) tag .ok [] true (updateMarks (served s)))) :=
    congrArg Host.Outcome.next (heq.trans (finish_restarting hqueued))
  refine ⟨_, hevent, hqueued, hstore.trans (served_frame s).1, hconv.trans (served_conv s),
    linkFlags (updateMarks (served s)), ?_⟩
  rw [updateMarks_link, houtbound, updateMarks_link, served_link, List.append_nil]
  rfl

/-- Settles O16: a refusal by its block, the OK as the last frame queued, and a frame that arrives after it by what its acceptance
writes; a break and the sent reply begin the restart in their own event. -/
theorem restartFollowsItsReply : Obligations.RestartFollowsItsReply := by
  unfold Obligations.RestartFollowsItsReply
  refine ⟨fun s tag h ht => ⟨fun ho => ?_, fun ho hs => ?_, restart_accepted h ht⟩, fun s hp hq => ⟨fun f => ?_, ?_⟩,
    fun s hp f rest hout hf => ?_⟩
  · have hserved : notRemote (served s) = true := notRemote_of_owner (by rw [served_owner]; exact ho)
    exact ⟨_, rfl, request_refusedBy (k := .restart) h ht rfl rfl (if_pos hserved)⟩
  · exact ⟨_, rfl, request_refusedBy (k := .restart) h ht rfl rfl
      (serveRestart_busy (notRemote_served ⟨h, ho⟩) ((served_storing s).trans hs))⟩
  · obtain ⟨link, _, _, _, heq, hqueued, hout⟩ := acceptFrame_eq f (beginEvent s)
    rw [request_restarting hp hq, heq]
    exact ⟨hqueued.trans hq, hout, rfl, rfl, rfl, rfl, rfl, rfl, rfl, rfl⟩
  · show Host.Outcome.next (if s.powered then _ else _) = Host.Outcome.next (if s.powered then _ else _)
    rw [if_pos hp, if_pos hp, breakLine]
    exact congrArg Host.Outcome.next (if_pos hq)
  · show Host.Outcome.next (if s.powered then _ else _) = Host.Outcome.next (if s.powered then _ else _)
    rw [if_pos hp, if_pos hp, frameLeaves]
    simp only [beginEvent_link, hout, hf, if_true]
    rfl

end Sys2Proof.Machine

/-! SUPPORT. A warm restart: what is settled after the start values are set, and the values it leaves (R25, R149, R150). -/

namespace Sys2Proof.Machine

/-! ## The rows of a start -/

/-- `s` with no fault table of its own. -/
def withoutRows (s : State) : State := { s with faults := FaultTable.atStart }

theorem rowsOnly_of_withoutRows {s t : State} (h : withoutRows t = withoutRows s) : RowsOnly s t :=
  ⟨t.faults, congrArg (fun u : State => { u with faults := t.faults }) h⟩

theorem withoutRows_setFault (c : FaultCode) (u : Nat) (b : Bool) (s : State) :
    withoutRows (setFault c u b s) = withoutRows s := by cases b <;> rfl

theorem withoutRows_raise (c : FaultCode) (u : Nat) (s : State) : withoutRows (raise c u s) = withoutRows s := rfl

theorem withoutRows_clearFault (c : FaultCode) (u : Nat) (s : State) :
    withoutRows (clearFault c u s) = withoutRows s := rfl

theorem rowsOnly_startRows (twistLost imageLost : Bool) (s : State) : RowsOnly s (startRows twistLost imageLost s) := by
  refine rowsOnly_of_withoutRows ?_
  have hclears (l : List Nat) (t : State) : withoutRows (forEach l (clearFault .yawDrive) t) = withoutRows t :=
    forEach_field (fun u v => withoutRows_clearFault .yawDrive u v) l t
  simp only [startRows, apply_ite withoutRows, withoutRows_raise, withoutRows_clearFault, withoutRows_setFault, hclears,
    ite_self]

/-! ## What a start settles -/

/-- `t` is `s` but for what a start settles after its values are set: rows, budget, heater, clearance, yaw mode and the base of
the change marks. -/
def StartKept (s t : State) : Prop :=
  ∃ faults aux heater clearance yawMode base, t = { s with
    faults := faults, aux := aux
    cool := { s.cool with heaterOn := heater }
    yaw := { s.yaw with clearance := clearance, mode := yawMode }
    mode := { s.mode with base := base } }

theorem StartKept.trans {s t u : State} (h : StartKept s t) (h' : StartKept t u) : StartKept s u := by
  obtain ⟨_, _, _, _, _, _, rfl⟩ := h
  obtain ⟨_, _, _, _, _, _, rfl⟩ := h'
  exact ⟨_, _, _, _, _, _, rfl⟩

theorem StartKept.of_rows {s t : State} (h : RowsOnly s t) : StartKept s t := by
  obtain ⟨_, rfl⟩ := h
  exact ⟨_, _, _, _, _, _, rfl⟩

theorem StartKept.of_budget {s t : State} (h : BudgetOnly s t) : StartKept s t := by
  obtain ⟨_, _, rfl⟩ := h
  exact ⟨_, _, _, _, _, _, rfl⟩

theorem StartKept.clearMeasured {s t : State} (h : StartKept s t) :
    StartKept (Machine.clearMeasured s) (Machine.clearMeasured t) := by
  obtain ⟨_, _, _, _, _, _, rfl⟩ := h
  exact ⟨_, _, _, _, _, _, rfl⟩

theorem startKept_runWalk (s : State) : StartKept s (runWalk s) := by
  simp only [runWalk, judgeRevoked]
  repeat' split
  all_goals exact ⟨_, _, _, _, _, _, rfl⟩

/-- Beside what it settles, a start leaves its values, with the measured currents at 0. -/
theorem startKept_startSettles (twistLost imageLost : Bool) (s : State) :
    StartKept (clearMeasured s) (startSettles twistLost imageLost s) := by
  unfold startSettles
  extract_lets marked cleared rows aux claims withYaw charged walked
  have hmarked : StartKept s cleared := ⟨_, _, _, _, _, _, rfl⟩
  have hrows : StartKept (clearMeasured s) rows := (hmarked.trans (.of_rows (rowsOnly_startRows ..))).clearMeasured
  have hcharged : StartKept rows charged := .of_budget ((BudgetOnly.of_aux rows _).trans (budgetOnly_judgeCharger _))
  have hwalked : StartKept charged walked := by
    unfold walked
    split
    · exact startKept_runWalk charged
    · exact .of_budget (.refl charged)
  exact ((hrows.trans hcharged).trans hwalked).trans ⟨_, _, _, _, _, _, rfl⟩

/-! ## The warm restart (R149) -/

/-- Settles O5: what a start settles writes none of the fields stated, so they stand as the start's values leave them. -/
theorem warmRestartKeepsSettings : Obligations.WarmRestartKeepsSettings := by
  unfold Obligations.WarmRestartKeepsSettings
  intro u s hp
  have hexec : exec (.warmRestart u) s = .next (warmRestart u (beginEvent s)) := congrArg Host.Outcome.next (if_pos hp)
  obtain ⟨_, _, _, _, _, _, heq⟩ := startKept_startSettles false false
    (startBlocks u { beginEvent s with lines := { s.lines with gridVolts := u } })
  refine ⟨_, hexec.trans (congrArg Host.Outcome.next heq), rfl, rfl, rfl, rfl, rfl, rfl, rfl, rfl, rfl,
    fun k => ?_, fun k => ?_, fun k => ?_, fun m => ?_, rfl, rfl, rfl, rfl, rfl, rfl, rfl⟩
  · cases k <;> rfl
  · cases k <;> rfl
  · cases k <;> rfl
  · cases m <;> exact ⟨rfl, rfl, rfl⟩

end Sys2Proof.Machine

/-! SUPPORT. Changes of the mode through the reactions of an event: a target that stops the strings stands or is reached, and one that starts them stands while a string waits (R138 to R140). -/

namespace Sys2Proof.Machine

/-! ## Strings that wait or precharge -/

/-- A string waits in the precharge queue or precharges: the transition to Idle or Generating goes on (R139). -/
def Waits (s : State) : Prop := s.conv.queue ≠ [] ∨ ∃ k, (strOf s k).state = .precharging

theorem waits_conv {s t : State} (h : t.conv = s.conv) : Waits t ↔ Waits s := by
  simp only [Waits, strOf, h]

/-- The head that begins goes on waiting as a Precharging string (R8). -/
theorem waits_beginPrecharge (s : State) : Waits (beginPrecharge s) ↔ Waits s := by
  unfold beginPrecharge
  split
  · exact .rfl
  · next k rest hq =>
    split
    · exact .rfl
    · refine iff_of_true (.inr ⟨k, ?_⟩) (.inl (by rw [hq]; exact List.cons_ne_nil _ _))
      rw [strOf_setStrState_self]

theorem followLoop_state (j k : StringId) (s : State) : (strOf (followLoop j s) k).state = (strOf s k).state := by
  have hmod (f : StringRec → StringRec) (hf : ∀ r, (f r).state = r.state) :
      (strOf (modStr j f s) k).state = (strOf s k).state := by
    by_cases e : k = j
    · subst e; rw [strOf_modStr_self, hf]
    · rw [strOf_modStr_ne e]
  unfold followLoop
  split
  · split
    · exact hmod _ fun _ => rfl
    · exact hmod _ fun _ => rfl
    · rfl
  · rfl

theorem waits_followPrecharge (s : State) : Waits (followPrecharge s) ↔ Waits s := by
  have hstate (k : StringId) : (strOf (followPrecharge s) k).state = (strOf (beginPrecharge s) k).state := by
    rw [followPrecharge, strOf_conv (followPrechargeClaim_conv _)]
    exact forEach_field (g := fun t => (strOf t k).state) (fun j t => followLoop_state j k t) _ _
  rw [← waits_beginPrecharge s]
  simp only [Waits, hstate, followPrecharge_queue]

/-- An aborted precharge goes on waiting at the head of the queue (R10). -/
theorem waits_abortPrecharge (k : StringId) (s : State) : Waits (abortPrecharge k s) ↔ Waits s := by
  by_cases h : (strOf s k).state = .precharging
  · rw [abortPrecharge_of_precharging h]
    exact iff_of_true (.inl (List.cons_ne_nil k s.conv.queue)) (.inr ⟨k, h⟩)
  · rw [abortPrecharge, if_neg (by simp [isPrecharging, h])]

theorem waits_walkAndHand (s : State) : Waits (walkAndHand s) ↔ Waits s := by
  have hpumps (a b : Claims) (t : State) : Waits (handPump a b .l2 (handPump a b .l1 t)) ↔ Waits t :=
    (waits_conv (handPump_conv ..)).trans (waits_conv (handPump_conv ..))
  have hprecharge (a b : Claims) (t : State) : Waits (handPrecharge a b t) ↔ Waits t := by
    unfold handPrecharge
    split
    · exact iff_of_eq (forEach_field (g := Waits) (fun k u => propext (waits_abortPrecharge k u)) _ t)
    · exact .rfl
  simp only [walkAndHand, handGrants]
  split
  · exact (waits_conv (handYaw_conv ..)).trans
      ((hprecharge ..).trans ((hpumps ..).trans (waits_conv (runWalk_conv s))))
  · exact .rfl

/-! ## One turn -/

/-- After the transition, a turn leaves the mode record, and every string that waits goes on waiting. -/
theorem turn_mode (s : State) : (turn s).mode = (completeTransition s).mode := by simp [turn]

theorem waits_turn (s : State) : Waits (turn s) ↔ Waits (completeTransition s) :=
  (waits_walkAndHand _).trans ((waits_conv (judgeYaw_conv _)).trans
    ((waits_conv (judgeLoops_conv _)).trans (waits_followPrecharge _)))

/-! ## A target that starts the strings (R139) -/

theorem completeTransition_waits {s : State} (hr : risingTarget s.mode.target = true) (hw : Waits s) :
    completeTransition s = s := by
  have hgoes : ¬(s.conv.queue = [] ∧ anyPrecharging s = false) := by
    rintro ⟨hq, ha⟩
    rcases hw with hw | hw
    · exact hw hq
    · exact Bool.eq_false_iff.mp ha ((anyPrecharging_iff s).mpr hw)
  unfold completeTransition
  split
  · exact if_neg hgoes
  · exact if_neg hgoes
  all_goals simp_all [risingTarget]

/-- While a string waits or precharges the transition goes on, with the mode record as it is. -/
theorem settle_mode_waits {s : State} (hr : risingTarget s.mode.target = true) (hw : Waits s) :
    (settle s).mode = s.mode := by
  refine (settle_keeps (P := fun t => t.mode = s.mode ∧ Waits t) (fun t ht => ?_)
    (fun t ht => ⟨(outputs_mode t).trans ht.1, (waits_conv (outputs_conv t)).mpr ht.2⟩) s ⟨rfl, hw⟩).1
  obtain ⟨hmode, hwaits⟩ := ht
  have hstill := completeTransition_waits (by rw [hmode]; exact hr) hwaits
  exact ⟨by rw [turn_mode, hstill, hmode], (waits_turn t).mpr (by rw [hstill]; exact hwaits)⟩

/-! ## A string that joins (R7) -/

/-- A string that the conditions of R7 let join, but for the queue that may hold it already. -/
structure CanJoin (k : StringId) (s : State) : Prop where
  state : (strOf s k).state = .offline
  enabled : (strOf s k).enabled = true
  loop : (loopOf s k.loop).state ≠ .failed
  mode : s.mode.current = .idle ∨ s.mode.current = .generating
  target : fallingTarget s.mode.target = false

theorem CanJoin.of_sameFor {k : StringId} {s t : State} (h : CanJoin k s) (hs : SameFor k s t) : CanJoin k t where
  state := by rw [hs.record]; exact h.state
  enabled := by rw [hs.record]; exact h.enabled
  loop := by rw [(context_loop hs.context k.loop).1]; exact h.loop
  mode := by rw [context_mode hs.context]; exact h.mode
  target := by rw [context_mode hs.context]; exact h.target

theorem mem_queue_testJoin {k : StringId} {s : State} (h : CanJoin k s) : k ∈ (testJoin k s).conv.queue := by
  obtain ⟨hstate, henabled, hloop, hmode, htarget⟩ := h
  have hparked : s.mode.target ≠ some .parked := by intro e; rw [e] at htarget; exact absurd htarget (by decide)
  have hstorm : s.mode.target ≠ some .storm := by intro e; rw [e] at htarget; exact absurd htarget (by decide)
  rw [testJoin_queue]
  split
  · exact List.mem_append_right _ (List.mem_singleton_self k)
  · next hjoin => simpa [mayJoin, hstate, henabled, hloop, hmode, hparked, hstorm] using hjoin

/-- Once all strings are tested, one that can join waits in the queue. -/
theorem waits_testJoins {k : StringId} {s : State} (h : CanJoin k s) : Waits (testJoins StringId.all s) := by
  have hjoin (t : State) (ht : SameFor k s t) : k ∈ (testJoin k t).conv.queue := mem_queue_testJoin (h.of_sameFor ht)
  have hkeep (j : StringId) (t : State) (ht : k ∈ t.conv.queue) : k ∈ (testJoin j t).conv.queue := by
    rw [testJoin_queue]
    split
    · exact List.mem_append_left _ ht
    · exact ht
  have hmem : k ∈ (testJoins StringId.all s).conv.queue := by
    unfold testJoins
    exact forEach_once (P := SameFor k s) (Q := fun t => k ∈ t.conv.queue) k
      (fun j hj t ht => ht.trans ((touches_testJoin j t).others k hj.symm)) hjoin (fun j _ => hkeep j) (.refl k s)
  exact Or.inl (List.ne_nil_of_mem hmem)

/-! ## A change of the mode record, seen from the converter -/

theorem changeMode_conv (current : Mode) (target : Option Mode) (cause : Cause) {s : State}
    (h : ¬(current = s.mode.current ∧ target = s.mode.target)) :
    (changeMode current target cause s).conv = (stringsOnMode (current ≠ s.mode.current) current target
      { s with mode := s.mode.changed s.clock current target cause }).conv := by
  simp only [changeMode, if_neg h]
  split
  · rfl
  · exact handMode_conv _ _ _

/-- A transition from Parked to Idle or Generating: Idle at once, with the target set while a string can join (R138). -/
theorem settle_started {s : State} {k : StringId} {asked : Mode} (hr : risingTarget (some asked) = true)
    (hp : s.mode.current = .parked) (hstate : (strOf s k).state = .offline) (henabled : (strOf s k).enabled = true)
    (hloop : (loopOf s k.loop).state ≠ .failed) (cause : Cause) :
    (settle (changeMode .idle (some asked) cause s)).mode = s.mode.changed s.clock .idle (some asked) cause := by
  have hchange : ¬(Mode.idle = s.mode.current ∧ some asked = s.mode.target) := fun h => by
    rw [hp] at h; exact absurd h.1 (by decide)
  have hmode := (changeMode_mode .idle (some asked) cause s).trans (if_neg hchange)
  have hfalling : fallingTarget (some asked) = false := by revert hr; cases asked <;> decide
  have hstrings : stringsOnMode (Mode.idle ≠ s.mode.current) .idle (some asked)
      { s with mode := s.mode.changed s.clock .idle (some asked) cause } =
      testJoins StringId.all { s with mode := s.mode.changed s.clock .idle (some asked) cause } := by
    simp [stringsOnMode, hp, hfalling]
  have hwaits : Waits (changeMode .idle (some asked) cause s) := by
    rw [waits_conv (changeMode_conv _ _ _ hchange), hstrings]
    exact waits_testJoins (k := k) ⟨hstate, henabled, hloop, .inl rfl, hfalling⟩
  rw [settle_mode_waits (by rw [hmode]; exact hr) hwaits, hmode]

/-! ## A target that stops the strings (R140) -/

theorem waits_stopStrings (b : Bool) (s : State) : ¬Waits (stopStrings b s) := by
  have hstop (k : StringId) (t : State) : (strOf (stopOne b k t) k).state ≠ .precharging := by
    unfold stopOne
    split
    · rw [stopString, strOf_setStrState_self]; exact fun h => nomatch h
    · next hst =>
      have hnot : (strOf t k).state ≠ .precharging := by intro e; rw [e] at hst; exact hst rfl
      split
      · rw [strOf_modStr_self]; exact hnot
      · exact hnot
  rintro (hq | ⟨k, hk⟩)
  · exact hq (stopStrings_queue b s)
  · obtain ⟨u, -, hrun⟩ := forEach_sameFor (touches_stopOne b) k s
    have hempty (t : State) : strOf (emptyQueue t) k = strOf t k := by unfold emptyQueue; split <;> rfl
    rw [stopStrings, hempty, hrun.record] at hk
    exact hstop k u hk

/-- A new target that stops the strings leaves none that waits (R12). -/
theorem toward_falling {s : State} {asked : Mode} (hf : fallingTarget (some asked) = true)
    (hne : s.mode.target ≠ some asked) (cause : Cause) :
    ¬Waits (changeMode s.mode.current (some asked) cause s) ∧ NoneRuns (changeMode s.mode.current (some asked) cause s) := by
  have hconv : (changeMode s.mode.current (some asked) cause s).conv = (stopStrings false
      { s with mode := s.mode.changed s.clock s.mode.current (some asked) cause }).conv := by
    rw [changeMode_conv _ _ _ fun h => hne h.2.symm]
    simp [stringsOnMode, hf]
  exact ⟨fun h => waits_stopStrings false _ ((waits_conv hconv).mp h), noneRuns_conv hconv (noneRuns_stopStrings false _)⟩

/-- Parked or Storm reached leaves no string that waits (R12). -/
theorem waits_reached {s : State} {asked : Mode} (hf : fallingTarget (some asked) = true) (hne : s.mode.current ≠ asked)
    (cause : Cause) : ¬Waits (changeMode asked none cause s) := by
  have hconv : (changeMode asked none cause s).conv = (stopStrings false
      { s with mode := s.mode.changed s.clock asked none cause }).conv := by
    rw [changeMode_conv _ _ _ fun h => hne h.1.symm]
    have hmoved : decide (asked ≠ s.mode.current) = true := decide_eq_true hne.symm
    rw [hmoved]
    cases asked
    case parked | storm => simp only [stringsOnMode, if_true]
    all_goals exact absurd hf (by decide)
  exact fun h => waits_stopStrings false _ ((waits_conv hconv).mp h)

/-- A transition with the target `asked`, or its end there: the cause stands, the Idle limit is stopped, and no string waits. -/
structure Stopping (current asked : Mode) (cause : Cause) (s : State) : Prop where
  cause : s.mode.cause = cause
  limit : s.mode.idleLimit = none
  place : (s.mode.current = current ∧ s.mode.target = some asked) ∨ (s.mode.current = asked ∧ s.mode.target = none)
  waits : ¬Waits s

theorem completeTransition_falling {s : State} {asked : Mode} (hf : fallingTarget (some asked) = true)
    (ht : s.mode.target = some asked) :
    completeTransition s =
      if StringId.all.all fun k => (strOf s k).state.done then changeMode asked none s.mode.cause s else s := by
  cases asked
  case parked | storm => simp only [completeTransition, ht]
  all_goals exact absurd hf (by decide)

theorem Stopping.completed {current asked : Mode} {cause : Cause} (hf : fallingTarget (some asked) = true)
    (hne : current ≠ asked) {s : State} (h : Stopping current asked cause s) :
    Stopping current asked cause (completeTransition s) := by
  obtain ⟨hcause, hlimit, hplace, hwaits⟩ := h
  rcases hplace with ⟨hcurrent, htarget⟩ | hreached
  · rw [completeTransition_falling hf htarget]
    split
    · have hmode := (changeMode_mode asked none s.mode.cause s).trans (if_neg fun h => by
        rw [htarget] at h; exact nomatch h.2)
      exact ⟨by rw [hmode]; exact hcause, by rw [hmode]; rfl, .inr (changeMode_reached ..),
        waits_reached hf (hcurrent ▸ hne) _⟩
    · exact ⟨hcause, hlimit, .inl ⟨hcurrent, htarget⟩, hwaits⟩
  · rw [completeTransition_none hreached.2]
    exact ⟨hcause, hlimit, .inr hreached, hwaits⟩

theorem Stopping.congr {current asked : Mode} {cause : Cause} {s t : State} (h : Stopping current asked cause s)
    (hm : t.mode = s.mode) (hw : Waits t ↔ Waits s) : Stopping current asked cause t :=
  ⟨hm ▸ h.cause, hm ▸ h.limit, hm ▸ h.place, fun hwaits => h.waits (hw.mp hwaits)⟩

/-- The reactions reach the target that stops the strings, or go on toward it. -/
theorem settle_stopping {current asked : Mode} {cause : Cause} (hf : fallingTarget (some asked) = true)
    (hne : current ≠ asked) {s : State} (h : Stopping current asked cause s) : Stopping current asked cause (settle s) :=
  settle_keeps (P := Stopping current asked cause) (fun t ht => (ht.completed hf hne).congr (turn_mode t) (waits_turn t))
    (fun t ht => ht.congr (outputs_mode t) (waits_conv (outputs_conv t))) s h

/-- A transition to Parked or Storm from another mode (R138, R140): the reactions reach it or go on toward it. -/
theorem settle_stopped {s : State} {asked : Mode} (hf : fallingTarget (some asked) = true) (hne : s.mode.current ≠ asked)
    (hnew : s.mode.target ≠ some asked) (cause : Cause) :
    Stopping s.mode.current asked cause (settle (changeMode s.mode.current (some asked) cause s)) ∧
    NoneRuns (settle (changeMode s.mode.current (some asked) cause s)) := by
  have hmode := (changeMode_mode s.mode.current (some asked) cause s).trans (if_neg fun h => hnew h.2.symm)
  obtain ⟨hwaits, hruns⟩ := toward_falling hf hnew cause
  have hlimit : risingTarget (some asked) = false := by revert hf; cases asked <;> decide
  refine ⟨settle_stopping hf hne ⟨by rw [hmode]; rfl, ?_, .inl (changeMode_reached ..), hwaits⟩, settle_noneRuns hruns⟩
  rw [hmode]
  exact if_neg (by rw [hlimit]; decide)

end Sys2Proof.Machine

/-! SUPPORT. SetMode: its block's answer by the mode, the target and the mode asked for, and the mode record in its reply (R137, R138). -/

namespace Sys2Proof.Machine

/-! ## What a request finds when it is served -/

/-- A request being served has moved no row but LINK_SILENT (R146). -/
theorem faultState_served {c : FaultCode} (h : FaultCode.linkSilent ≠ c) (s : State) :
    faultState (served s) c 1 = faultState s c 1 := by
  unfold served supervisionReload
  split
  · exact faultState_clearFault_of_ne h _
  · rfl

theorem nacelleFree_served (s : State) : nacelleFree (served s) = nacelleFree s := by
  simp only [nacelleFree, isHeld, faultState_served (c := .gridRtExceed) (by decide),
    faultState_served (c := .gridOv) (by decide), faultState_served (c := .gridLost) (by decide),
    faultState_served (c := .estop) (by decide)]

theorem mayGenerate_served (s : State) : mayGenerate (served s) = mayGenerate s := by
  obtain ⟨-, hgrid, -, -⟩ := served_frame s
  have hready : readyStrings (served s) = readyStrings s := by
    unfold served supervisionReload
    split <;> rfl
  rw [mayGenerate, hready, hgrid, served_aux, nacelleFree_served, mayGenerate]

/-- What neither the ModeNotice nor the change marks are of a mode record. -/
theorem fields_of_kept {m n : ModeCtl} (h : m.kept = n.kept) :
    m.current = n.current ∧ m.target = n.target ∧ m.previous = n.previous ∧ m.entryTime = n.entryTime ∧
    m.cause = n.cause ∧ m.idleLimit = n.idleLimit ∧ m.calm = n.calm :=
  ⟨(congrArg ModeCtl.current h :), (congrArg ModeCtl.target h :), (congrArg ModeCtl.previous h :),
    (congrArg ModeCtl.entryTime h :), (congrArg ModeCtl.cause h :), (congrArg ModeCtl.idleLimit h :),
    (congrArg ModeCtl.calm h :)⟩

/-- The mode record in a reply shows neither the ModeNotice nor the change marks. -/
theorem modeBody_of_kept {s t : State} (h : t.mode.kept = s.mode.kept) : modeBody t = modeBody s := by
  show modeBody { s with mode := t.mode.kept } = modeBody { s with mode := s.mode.kept }
  rw [h]

theorem modeBody_served (s : State) : modeBody (updateMarks (served s)) = modeBody s := by
  unfold served supervisionReload
  split <;> rfl

/-! ## The answer of the block (R137, R138) -/

/-- The answer to a pair of R138: the change of the mode record, or a refusal. -/
def pairAnswer (s : State) : Option (Mode × Option Mode) → Answer
  | none => refuse .refusedState s
  | some (current, target) => accept (changeMode current target .requested s)

/-- The answer of SetMode once the owner is known to be the host and the number to name a mode. -/
def modeAnswer (asked : Mode) (s : State) : Answer :=
  if asked = .lockout ∨ asked = .isolated then refuse .refusedState s
  else if s.mode.target.isSome ∧ asked ≠ .parked ∧ asked ≠ .storm then refuse .busy s
  else if s.mode.current = .lockout ∨ s.mode.current = .isolated then refuse .refusedState s
  else if asked = s.mode.current ∨ s.mode.target = some asked then (.ok, s)
  else if s.mode.target.isSome then accept (changeMode s.mode.current (some asked) .requested s)
  else pairAnswer s (requestedPair s asked)

theorem serve_setMode {s : State} (hr : notRemote s = false) (asked : Mode) :
    serve .setMode (u8 asked.num) s = modeAnswer asked s := by
  have hnum : Mode.ofNum (natAt (u8 asked.num) 0) = some asked := by cases asked <;> rfl
  simp only [serve, serveSetMode, hr, hnum, Bool.false_eq_true, if_false]
  rfl

theorem serve_setMode_unknown {s : State} (hr : notRemote s = false) {n : Byte} (hn : 5 < n.toNat) :
    serve .setMode [n] s = (.badArg, s) := by
  have hnat : natAt [n] 0 = n.toNat := rfl
  have hnum : Mode.ofNum (natAt [n] 0) = none := by
    rw [hnat]
    unfold Mode.ofNum
    split
    case h_7 => rfl
    all_goals omega
  simp only [serve, serveSetMode, hr, hnum, Bool.false_eq_true, if_false, refuse]

/-- A new Parked or Storm becomes the target, from Idle and Generating. -/
theorem modeAnswer_stopping {s : State} {asked : Mode} (ha : asked = .parked ∨ asked = .storm)
    (hc : s.mode.current = .idle ∨ s.mode.current = .generating) (hnew : s.mode.target ≠ some asked) :
    modeAnswer asked s = accept (changeMode s.mode.current (some asked) .requested s) := by
  have hpair : requestedPair s asked = some (s.mode.current, some asked) := by
    rcases ha with rfl | rfl <;> rcases hc with hc | hc <;> simp only [requestedPair, hc]
  have hne : asked ≠ s.mode.current := by
    rcases ha with rfl | rfl <;> rcases hc with hc | hc <;> rw [hc] <;> decide
  have hopen : ¬(asked = .lockout ∨ asked = .isolated) := by rcases ha with rfl | rfl <;> decide
  have hfree : ¬(s.mode.current = .lockout ∨ s.mode.current = .isolated) := by
    rcases hc with hc | hc <;> rw [hc] <;> decide
  have hbusy : ¬(s.mode.target.isSome ∧ asked ≠ .parked ∧ asked ≠ .storm) := by
    rintro ⟨-, hp, hs⟩
    exact ha.elim hp hs
  rw [modeAnswer, if_neg hopen, if_neg hbusy, if_neg hfree, if_neg (not_or.mpr ⟨hne, hnew⟩), hpair]
  exact ite_self _

/-- With no target in flight a request is answered by its pair. -/
theorem modeAnswer_pair {s : State} {asked : Mode} (ht : s.mode.target = none)
    (hopen : ¬(asked = .lockout ∨ asked = .isolated)) (hfree : ¬(s.mode.current = .lockout ∨ s.mode.current = .isolated))
    (hne : asked ≠ s.mode.current) : modeAnswer asked s = pairAnswer s (requestedPair s asked) := by
  simp only [modeAnswer, hopen, hfree, hne, ht, Option.isSome_none, Bool.false_eq_true, false_and, if_false, reduceCtorEq,
    or_self]

/-- The mode or the target that stands is answered OK. -/
theorem modeAnswer_stands {s : State} {asked : Mode} (hopen : ¬(asked = .lockout ∨ asked = .isolated))
    (hfree : ¬(s.mode.current = .lockout ∨ s.mode.current = .isolated))
    (hidle : asked = .idle ∨ asked = .generating → s.mode.target = none)
    (hstands : asked = s.mode.current ∨ s.mode.target = some asked) : modeAnswer asked s = (.ok, s) := by
  have hbusy : ¬(s.mode.target.isSome ∧ asked ≠ .parked ∧ asked ≠ .storm) := by
    rintro ⟨hsome, hp, hs⟩
    have hasked : asked = .idle ∨ asked = .generating := by revert hopen hp hs; cases asked <;> decide
    rw [hidle hasked] at hsome
    exact absurd hsome (by decide)
  rw [modeAnswer, if_neg hopen, if_neg hbusy, if_neg hfree, if_pos hstands]

/-- Idle and Generating wait for the target in flight. -/
theorem modeAnswer_busy {s : State} {asked : Mode} (ha : asked = .idle ∨ asked = .generating)
    (ht : s.mode.target.isSome = true) : modeAnswer asked s = (.busy, s) := by
  have hopen : ¬(asked = .lockout ∨ asked = .isolated) := by rcases ha with rfl | rfl <;> decide
  have hbusy : asked ≠ .parked ∧ asked ≠ .storm := by rcases ha with rfl | rfl <;> decide
  rw [modeAnswer, if_neg hopen, if_pos ⟨ht, hbusy⟩, refuse]

/-- Lockout and Isolated are not the host's to ask for. -/
theorem modeAnswer_closed {s : State} {asked : Mode} (ha : asked = .lockout ∨ asked = .isolated) :
    modeAnswer asked s = (.refusedState, s) := if_pos ha

/-- From Lockout and Isolated the host asks in vain. -/
theorem modeAnswer_locked {s : State} {asked : Mode} (hc : s.mode.current = .lockout ∨ s.mode.current = .isolated)
    (hidle : asked = .parked ∨ asked = .storm ∨ s.mode.target = none) : modeAnswer asked s = (.refusedState, s) := by
  have hbusy : ¬(s.mode.target.isSome ∧ asked ≠ .parked ∧ asked ≠ .storm) := by
    rintro ⟨hsome, hp, hs⟩
    rcases hidle with h | h | h
    · exact hp h
    · exact hs h
    · rw [h] at hsome; exact absurd hsome (by decide)
  rw [modeAnswer, if_neg hbusy, if_pos hc]
  exact ite_self _

/-- A pair that R138 does not list, or whose preconditions fail. -/
def Unlisted (s : State) (asked : Mode) : Prop :=
  (s.mode.current = .parked ∧ (asked = .idle ∨ asked = .generating) ∧ nacelleFree s = false) ∨
  (s.mode.current = .idle ∧ asked = .generating ∧ mayGenerate s = false) ∨
  (s.mode.current = .generating ∧ asked = .idle) ∨
  (s.mode.current = .storm ∧ (asked = .idle ∨ asked = .generating))

theorem requestedPair_unlisted {s : State} {asked : Mode} (h : Unlisted s asked) : requestedPair s asked = none := by
  rcases h with ⟨hc, rfl | rfl, hn⟩ | ⟨hc, rfl, hm⟩ | ⟨hc, rfl⟩ | ⟨hc, rfl | rfl⟩
  · simp only [requestedPair, hc, hn, Bool.false_eq_true, if_false]
  · simp only [requestedPair, hc, hn, Bool.false_eq_true, if_false]
  · simp only [requestedPair, hc, hm, Bool.false_eq_true, if_false]
  all_goals simp only [requestedPair, hc]

theorem modeAnswer_unlisted {s : State} {asked : Mode} (ht : s.mode.target = none) (h : Unlisted s asked) :
    modeAnswer asked s = (.refusedState, s) := by
  have hsides : (asked = .idle ∨ asked = .generating) ∧ asked ≠ s.mode.current ∧
      (s.mode.current = .parked ∨ s.mode.current = .idle ∨ s.mode.current = .generating ∨ s.mode.current = .storm) := by
    rcases h with ⟨hc, rfl | rfl, -⟩ | ⟨hc, rfl, -⟩ | ⟨hc, rfl⟩ | ⟨hc, rfl | rfl⟩ <;> rw [hc] <;> decide
  obtain ⟨hasked, hne, hcurrent⟩ := hsides
  have hopen : ¬(asked = .lockout ∨ asked = .isolated) := by rcases hasked with rfl | rfl <;> decide
  have hfree : ¬(s.mode.current = .lockout ∨ s.mode.current = .isolated) := by
    rcases hcurrent with hc | hc | hc | hc <;> rw [hc] <;> decide
  rw [modeAnswer_pair ht hopen hfree hne, requestedPair_unlisted h, pairAnswer, refuse]

/-! ## The request's event -/

theorem replyBody_setMode (body : List Byte) (s t : State) :
    replyBody .setMode body .ok s (updateMarks t) = modeBody t := rfl

/-- A change that the block takes: the reply shows the mode record as the reactions leave it. -/
theorem setMode_taken {s : State} {tag : Byte} (h : HostReady s) (ht : tag ≠ 0) {asked current : Mode}
    {target : Option Mode} (ha : modeAnswer asked (served s) = accept (changeMode current target .requested (served s))) :
    ∃ t, exec (.setMode tag (u8 asked.num)) s = .next t ∧ Answered s t 0x90 tag .ok (modeBody t) ∧
      t.mode.kept = (settle (changeMode current target .requested (served s))).mode.kept ∧
      t.conv = (settle (changeMode current target .requested (served s))).conv ∧ Beyond (replied (served s)) t := by
  obtain ⟨hans, hout, hconv, -, -, -, hkept, -⟩ :=
    request_answered (f := ⟨Kind.setMode.code, tag, u8 asked.num⟩) h.1 (kind_ofByte_code .setMode) rfl ht (by decide)
      ((serve_setMode (notRemote_served h) asked).trans ha)
  rw [replied_mode] at hkept
  rw [replied_conv] at hconv
  rw [replyBody_setMode, ← modeBody_of_kept hkept] at hans
  exact ⟨_, rfl, hans, hkept, hconv, hout.trans (outside_replied (outside_of_beside (by simp)))⟩

/-- A request that the block answers without a change: the reply shows the mode record as it stands. -/
theorem setMode_refused {s : State} {tag : Byte} (h : HostReady s) (ht : tag ≠ 0) {body : List Byte}
    (hb : Kind.setMode.fits body = true) {status : Status} (hs : status.taken = false)
    (ha : serve .setMode body (served s) = (status, served s)) :
    ∃ t, exec (.setMode tag body) s = .next t ∧ Answered s t 0x90 tag status (modeBody s) ∧
      Quiet (replied (served s)) t := by
  obtain ⟨hans, hquiet⟩ := request_refusedBy h.1 ht hb hs ha
  exact ⟨_, rfl, modeBody_served s ▸ hans, hquiet⟩

/-- A mode that the block enters at once, with no target, is entered when the event ends. -/
theorem setMode_reached {s : State} {tag : Byte} (h : HostReady s) (ht : tag ≠ 0) {asked before current : Mode}
    (hc : s.mode.current = before) (hne : current ≠ before)
    (ha : modeAnswer asked (served s) = accept (changeMode current none .requested (served s))) :
    ∃ t, exec (.setMode tag (u8 asked.num)) s = .next t ∧ Answered s t 0x90 tag .ok (modeBody t) ∧
      t.mode.current = current ∧ t.mode.target = none ∧ t.mode.previous = before ∧ t.mode.entryTime = s.clock ∧
      t.mode.cause = .requested ∧ Beyond (replied (served s)) t := by
  obtain ⟨t, hexec, hans, hkept, -, hbeyond⟩ := setMode_taken h ht ha
  have hne' : ¬current = (served s).mode.current := by rw [served_current, hc]; exact hne
  have hmode : (settle (changeMode current none .requested (served s))).mode =
      (served s).mode.changed (served s).clock current none .requested := by
    rw [settle_mode (changeMode_reached ..).2, changeMode_mode, if_neg fun e => hne' e.1]
  rw [hmode] at hkept
  obtain ⟨hcurrent, htarget, hprevious, hentry, hcause, -, -⟩ := fields_of_kept hkept
  refine ⟨t, hexec, hans, hcurrent, htarget, hprevious.trans ?_, hentry.trans ?_, hcause, hbeyond⟩
  · exact (if_neg hne').trans ((served_current s).trans hc)
  · exact (if_neg hne').trans (served_clock s)

/-- A new Parked or Storm asked for in Idle or Generating is reached in the event, or becomes its target. -/
theorem setMode_stopping {s : State} {tag : Byte} (h : HostReady s) (ht : tag ≠ 0) {asked : Mode}
    (hasked : asked = .parked ∨ asked = .storm) (hc : s.mode.current = .idle ∨ s.mode.current = .generating)
    (hnew : s.mode.target ≠ some asked) :
    ∃ t, exec (.setMode tag (u8 asked.num)) s = .next t ∧ Answered s t 0x90 tag .ok (modeBody t) ∧
      t.mode.cause = .requested ∧ t.mode.idleLimit = none ∧ t.conv.queue = [] ∧ NoStringRuns t ∧
      ((t.mode.current = s.mode.current ∧ t.mode.target = some asked) ∨ (t.mode.current = asked ∧ t.mode.target = none)) ∧
      Beyond (replied (served s)) t := by
  have hnew' : (served s).mode.target ≠ some asked := by rw [served_target]; exact hnew
  have hf : fallingTarget (some asked) = true := by rcases hasked with rfl | rfl <;> rfl
  have hne : (served s).mode.current ≠ asked := by
    rw [served_current]
    rcases hasked with rfl | rfl <;> rcases hc with hc | hc <;> rw [hc] <;> decide
  obtain ⟨t, hexec, hans, hkept, hconv, hbeyond⟩ :=
    setMode_taken h ht (modeAnswer_stopping hasked (by rw [served_current]; exact hc) hnew')
  obtain ⟨⟨hcause, hlimit, hplace, hwaits⟩, hruns⟩ := settle_stopped hf hne hnew' .requested
  have hqueue := not_not.mp (not_or.mp hwaits).1
  obtain ⟨hcurrent, htarget, -, -, htcause, htlimit, -⟩ := fields_of_kept hkept
  rw [← hcurrent, ← htarget, served_current] at hplace
  exact ⟨t, hexec, hans, htcause.trans hcause, htlimit.trans hlimit, (congrArg Converter.queue hconv).trans hqueue,
    noStringRuns_of_noneRuns (noneRuns_conv hconv hruns), hplace, hbeyond⟩

/-- From Parked toward Idle or Generating: Idle, with the target set and the Idle limit loaded. -/
theorem setMode_starting {s : State} {tag : Byte} (h : HostReady s) (ht : tag ≠ 0) (hn : s.mode.target = none)
    {asked : Mode} (hasked : asked = .idle ∨ asked = .generating) (hc : s.mode.current = .parked)
    (hfree : nacelleFree s = true) {k : StringId} (hstate : (strOf s k).state = .offline)
    (henabled : (strOf s k).enabled = true) (hloop : (loopOf s k.loop).state ≠ .failed) :
    ∃ t, exec (.setMode tag (u8 asked.num)) s = .next t ∧ Answered s t 0x90 tag .ok (modeBody t) ∧
      t.mode.current = .idle ∧ t.mode.target = some asked ∧ t.mode.cause = .requested ∧
      t.mode.idleLimit = some ⟨s.clock, 120000⟩ ∧ Beyond (replied (served s)) t := by
  have hc' : (served s).mode.current = .parked := (served_current s).trans hc
  have hr : risingTarget (some asked) = true := by rcases hasked with rfl | rfl <;> rfl
  have hpair : requestedPair (served s) asked = some (.idle, some asked) := by
    rcases hasked with rfl | rfl <;> simp only [requestedPair, hc', nacelleFree_served, hfree, if_true]
  have hanswer := modeAnswer_pair (asked := asked) ((served_target s).trans hn)
    (by rcases hasked with rfl | rfl <;> decide) (by rw [hc']; decide)
    (by rw [hc']; rcases hasked with rfl | rfl <;> decide)
  rw [hpair, pairAnswer] at hanswer
  obtain ⟨t, hexec, hans, hkept, -, hbeyond⟩ := setMode_taken h ht hanswer
  have hstr : strOf (served s) k = strOf s k := strOf_conv (served_conv s) k
  rw [settle_started (k := k) hr hc' (hstr ▸ hstate) (hstr ▸ henabled) (by rw [served_loop]; exact hloop) .requested] at hkept
  obtain ⟨hcurrent, htarget, -, -, hcause, hlimit, -⟩ := fields_of_kept hkept
  refine ⟨t, hexec, hans, hcurrent, htarget, hcause, hlimit.trans ?_, hbeyond⟩
  exact (if_pos hr).trans (congrArg (startTimer · 120000) (served_clock s))

/-- Settles O17: each request by the answer of its block, the changes by what the reactions leave of them. -/
theorem setModeTakesTheRequestedPair : Obligations.SetModeTakesTheRequestedPair := by
  unfold Obligations.SetModeTakesTheRequestedPair
  have hone {p q asked : Mode} (ha : asked ∈ [p, q]) : asked = p ∨ asked = q := by simpa using ha
  refine ⟨fun s tag h ht hn => ?_, fun s tag h ht => ?_⟩
  · have hn' : (served s).mode.target = none := (served_target s).trans hn
    refine ⟨fun hc => ?_, fun hc => ?_, fun hc hgen => ?_, fun asked ha hc hfree ⟨k, hstate, henabled, hloop⟩ => ?_,
      fun asked ha hc => ?_⟩
    · have hc' : (served s).mode.current = .parked := (served_current s).trans hc
      refine setMode_reached (asked := .storm) h ht hc (by decide) ?_
      rw [modeAnswer_pair hn' (by decide) (by rw [hc']; decide) (by rw [hc']; decide)]
      simp only [requestedPair, hc', pairAnswer]
    · have hc' : (served s).mode.current = .storm := (served_current s).trans hc
      refine setMode_reached (asked := .parked) h ht hc (by decide) ?_
      rw [modeAnswer_pair hn' (by decide) (by rw [hc']; decide) (by rw [hc']; decide)]
      simp only [requestedPair, hc', pairAnswer]
    · have hc' : (served s).mode.current = .idle := (served_current s).trans hc
      refine setMode_reached (asked := .generating) h ht hc (by decide) ?_
      rw [modeAnswer_pair hn' (by decide) (by rw [hc']; decide) (by rw [hc']; decide)]
      simp only [requestedPair, hc', mayGenerate_served, hgen, if_true, pairAnswer]
    · exact setMode_starting h ht hn (hone ha) hc hfree hstate henabled hloop
    · obtain ⟨t, hexec, hans, hcause, hlimit, hqueue, -, hrest⟩ :=
        setMode_stopping h ht (hone ha) hc (by rw [hn]; exact fun e => nomatch e)
      exact ⟨t, hexec, hans, hcause, hlimit, hqueue, hrest⟩
  · have hanswered (asked : Mode) {status : Status} (hs : status.taken = false)
        (ha : modeAnswer asked (served s) = (status, served s)) := setMode_refused h ht (body := u8 asked.num) rfl hs
      ((serve_setMode (notRemote_served h) asked).trans ha)
    refine ⟨fun asked ha hc _ hnew => setMode_stopping h ht (hone ha) hc hnew, fun asked ha hl hi hidle hstands => ?_,
      fun asked ha hsome => ?_, fun asked hbar => ?_, fun n hn => ?_⟩
    · have hopen : ¬(asked = .lockout ∨ asked = .isolated) := by revert ha; cases asked <;> decide
      have ha : modeAnswer asked (served s) = (.ok, served s) := modeAnswer_stands hopen
        (by rw [served_current]; exact not_or.mpr ⟨hl, hi⟩) (by rw [served_target]; exact hidle)
        (by rw [served_current, served_target]; exact hstands)
      obtain ⟨t, hexec, hquiet, hans⟩ := exec_read (i := .setMode tag (u8 asked.num)) (k := .setMode) h.1 ht rfl rfl
        (by decide) ((serve_setMode (notRemote_served h) asked).trans ha) (modeBody_served s)
      exact ⟨t, hexec, hans, hquiet⟩
    · exact hanswered asked rfl (modeAnswer_busy (hone ha) (by rw [served_target]; exact hsome))
    · refine hanswered asked rfl ?_
      rw [← served_current, ← served_target, ← nacelleFree_served, ← mayGenerate_served] at hbar
      rcases hbar with ha | ha | ⟨hc, hidle⟩ | ⟨hn, hpair⟩
      · exact modeAnswer_closed (.inl ha)
      · exact modeAnswer_closed (.inr ha)
      · exact modeAnswer_locked hc hidle
      · exact modeAnswer_unlisted hn hpair
    · exact setMode_refused h ht rfl rfl (serve_setMode_unknown (notRemote_served h) hn)

end Sys2Proof.Machine

/-! SUPPORT. The mode controller's timers: the silence count, the calm of a storm and the Idle limit (R139, R141, R146). -/

namespace Sys2Proof.Machine

/-! ## STORM_ENTERED through the reactions -/

theorem followPrecharge_faults (s : State) : (followPrecharge s).faults = s.faults := by
  have hbegin : (beginPrecharge s).faults = s.faults := by
    unfold beginPrecharge
    repeat' split
    all_goals rfl
  have hfollow (k : StringId) (t : State) : (followLoop k t).faults = t.faults := by
    unfold followLoop
    repeat' split
    all_goals rfl
  have hclaim (t : State) : (followPrechargeClaim t).faults = t.faults := by
    unfold followPrechargeClaim
    repeat' split
    all_goals rfl
  exact (hclaim _).trans ((forEach_field (g := State.faults) hfollow _ _).trans hbegin)

theorem handPrecharge_faults (before after : Claims) (s : State) : (handPrecharge before after s).faults = s.faults := by
  unfold handPrecharge
  split
  · refine forEach_field (g := State.faults) (fun k t => ?_) _ s
    unfold abortPrecharge
    split <;> rfl
  · rfl

theorem handYaw_faults (before after : Claims) (s : State) : (handYaw before after s).faults = s.faults := by
  simp only [handYaw, yawGrantChange, takeYawGrant, yawGrantLost]
  repeat' split
  all_goals rfl

theorem judgeYaw_faults (s : State) : (judgeYaw s).faults = s.faults := congrArg Prod.snd (judgeYaw_mark s)

/-- No operation on a loop moves STORM_ENTERED. -/
theorem LoopStep.stormEntered {m : Liquid} {s t : State} (h : LoopStep m s t) :
    faultState t .stormEntered 1 = faultState s .stormEntered 1 :=
  congrArg FaultRow.state (h.rows _ (by cases m <;> decide) (by cases m <;> decide))

theorem faultState_of_faults {s t : State} (h : t.faults = s.faults) (c : FaultCode) (u : Nat) :
    faultState t c u = faultState s c u := by
  rw [faultState, rowAt, h]; rfl

theorem stormEntered_runWalk (s : State) : faultState (runWalk s) .stormEntered 1 = faultState s .stormEntered 1 := by
  simp only [runWalk, judgeRevoked]
  repeat' split
  · exact faultState_raise_of_ne (by decide) _
  · rfl
  · exact faultState_clearFault_of_ne (by decide) _

theorem stormEntered_walkAndHand (s : State) :
    faultState (walkAndHand s) .stormEntered 1 = faultState s .stormEntered 1 := by
  simp only [walkAndHand, handGrants]
  split
  · calc _ = _ := faultState_of_faults (handYaw_faults ..) _ _
      _ = _ := faultState_of_faults (handPrecharge_faults ..) _ _
      _ = _ := (loopStep_handPump ..).stormEntered
      _ = _ := (loopStep_handPump ..).stormEntered
      _ = faultState s .stormEntered 1 := stormEntered_runWalk s
  · rfl

/-- After the transition, a turn leaves STORM_ENTERED as it is. -/
theorem stormEntered_turn (s : State) :
    faultState (turn s) .stormEntered 1 = faultState (completeTransition s) .stormEntered 1 := by
  unfold turn judgeLoops
  calc _ = _ := stormEntered_walkAndHand _
    _ = _ := faultState_of_faults (judgeYaw_faults _) _ _
    _ = _ := (loopStep_judgeLoop .l2 _).stormEntered
    _ = _ := (loopStep_judgeLoop .l1 _).stormEntered
    _ = _ := faultState_of_faults (followPrecharge_faults _) _ _

/-- With no transition in flight the reactions leave STORM_ENTERED as it is. -/
theorem stormEntered_settle {s : State} (h : s.mode.target = none) :
    faultState (settle s) .stormEntered 1 = faultState s .stormEntered 1 := by
  refine (settle_keeps (P := fun t => t.mode = s.mode ∧ faultState t .stormEntered 1 = faultState s .stormEntered 1)
    (fun t ht => ?_) (fun t ht => ht) s ⟨rfl, rfl⟩).2
  obtain ⟨hmode, hrow⟩ := ht
  have hstill : completeTransition t = t := completeTransition_none (by rw [hmode]; exact h)
  exact ⟨by rw [turn_mode, hstill, hmode], by rw [stormEntered_turn, hstill, hrow]⟩

theorem state_of_pending {r q : FaultRow} (h : { r with pending := false } = { q with pending := false }) :
    r.state = q.state := (congrArg FaultRow.state h :)

theorem faultState_finish (s : State) (c : FaultCode) (u : Nat) : faultState (finish s) c u = faultState s c u :=
  state_of_pending (finish_row (rowOf c u) s)

/-! ## An event that ends a transition -/

/-- An event whose effect is a change to a mode with no target ends with the mode record of that change. -/
theorem react_changeMode {s u : State} (hp : s.powered = true) {f : State → State} {current : Mode} {cause : Cause}
    (hf : f (beginEvent s) = changeMode current none cause u)
    (hchange : ¬(current = u.mode.current ∧ none = u.mode.target)) :
    (react f s).mode.kept = (u.mode.changed u.clock current none cause).kept := by
  rw [react_mode hp (by rw [hf]; exact (changeMode_reached ..).2), hf, changeMode_mode, if_neg hchange]

/-- What a change of the mode record leaves of the rest. -/
theorem lasting_changeMode {s u : State} (hp : s.powered = true) {f : State → State} {current : Mode}
    {target : Option Mode} {cause : Cause} (hf : f (beginEvent s) = changeMode current target cause u) :
    lasting (react f s) = lasting u := by
  rw [lasting_react hp, hf]
  exact field_of_beside (f := lasting) (fun _ => rfl) (beside_changeMode ..)

theorem fields_of_lasting {s t : State} (h : lasting t = lasting s) :
    t.store = s.store ∧ t.grid = s.grid ∧ t.therm = s.therm ∧ t.retained = s.retained := by
  simpa [lasting] using h

/-! ## The silence timer (R146) -/

/-- `s` once an expiry of the silence timer is counted and the timer loaded again. -/
def silenceCounted (s : State) : State :=
  { s with mode := { s.mode with
      supCount := min 2 (s.mode.supCount + 1), supTimer := silenceTimer s s.mode.supInterval } }

section
variable {s : State} (he : s.mode.supEnabled = true) (ht : s.mode.supTimer.isSome = true)
include he ht

/-- The first expiry raises LINK_SILENT. -/
theorem supervisionExpires_first (hn : s.mode.supCount = 0) :
    supervisionExpires s = raise .linkSilent 1 (silenceCounted s) := by
  rw [supervisionExpires, if_pos ⟨he, ht⟩]
  exact if_pos (by rw [hn]; rfl)

/-- The second sends a turbine in Generating toward Parked. -/
theorem supervisionExpires_second (hn : s.mode.supCount ≥ 1) (hc : s.mode.current = .generating)
    (hnone : s.mode.target = none) :
    supervisionExpires s =
      changeMode (silenceCounted s).mode.current (some .parked) .linkSilence (silenceCounted s) := by
  rw [supervisionExpires, if_pos ⟨he, ht⟩]
  exact (if_neg (by omega)).trans (if_pos ⟨.inr hc, by rw [hnone]; rfl⟩)

theorem aside_supervisionExpires : aside (supervisionExpires s) = aside (silenceCounted s) := by
  rw [supervisionExpires, if_pos ⟨he, ht⟩]
  simp only
  split
  · rfl
  · split
    · exact aside_changeMode ..
    · rfl

end

/-- The expiry of the silence timer at the end of its event: counted, loaded again, and nothing else that lasts. -/
theorem silence_event {s : State} (hp : s.powered = true) (he : s.mode.supEnabled = true)
    (ht : s.mode.supTimer.isSome = true) :
    let t := react supervisionExpires s
    t.mode.supCount = min 2 (s.mode.supCount + 1) ∧ t.mode.supTimer = some ⟨s.clock, s.mode.supInterval * 1000⟩ ∧
    t.mode.owner = s.mode.owner ∧ t.grid = s.grid ∧ t.therm = s.therm ∧ t.store = s.store ∧ t.retained = s.retained := by
  have hfield {β : Type} {g : State → β} (ho : ∀ s, g (outside s) = g s) (ha : ∀ s, g (aside s) = g s) :
      g (react supervisionExpires s) = g (silenceCounted (beginEvent s)) :=
    (react_field ho hp _).trans (field_of_aside ha (aside_supervisionExpires (s := beginEvent s) he ht))
  exact ⟨hfield (g := fun t => t.mode.supCount) (fun _ => rfl) fun _ => rfl,
    hfield (g := fun t => t.mode.supTimer) (fun _ => rfl) fun _ => rfl,
    hfield (g := fun t => t.mode.owner) (fun _ => rfl) fun _ => rfl,
    hfield (g := State.grid) (fun _ => rfl) fun _ => rfl, hfield (g := State.therm) (fun _ => rfl) fun _ => rfl,
    hfield (g := State.store) (fun _ => rfl) fun _ => rfl, hfield (g := State.retained) (fun _ => rfl) fun _ => rfl⟩

/-- A second silence in Generating reaches Parked in its event, or goes on toward it. -/
theorem silence_parks {s : State} (hp : s.powered = true) (he : s.mode.supEnabled = true)
    (ht : s.mode.supTimer.isSome = true) (hn : s.mode.supCount ≥ 1) (hc : s.mode.current = .generating)
    (hnone : s.mode.target = none) :
    let t := react supervisionExpires s
    t.mode.cause = .linkSilence ∧
      (t.mode.target = some .parked ∨ t.mode.current = .parked ∧ t.mode.target = none) := by
  have hnew : s.mode.target ≠ some .parked := by rw [hnone]; exact fun e => nomatch e
  have hne : s.mode.current ≠ .parked := by rw [hc]; decide
  obtain ⟨⟨hcause, -, hplace, -⟩, -⟩ :=
    settle_stopped (s := silenceCounted (beginEvent s)) (asked := .parked) rfl hne hnew .linkSilence
  have hkept := finish_kept (settle (supervisionExpires (beginEvent s)))
  rw [← react_eq hp, supervisionExpires_second (s := beginEvent s) he ht hn hc hnone] at hkept
  obtain ⟨hcurrent, htarget, -, -, htcause, -, -⟩ := fields_of_kept hkept
  refine ⟨htcause.trans hcause, hplace.imp (fun h => htarget.trans h.2) fun h => ⟨hcurrent.trans h.1, htarget.trans h.2⟩⟩

/-! ## The calm timer (R141) -/

/-- Storm left for Parked clears STORM_ENTERED. -/
theorem stormEntered_left {s : State} (h : s.mode.current = .storm) (cause : Cause) :
    isActive (changeMode .parked none cause s) .stormEntered 1 = false := by
  have hne : ¬Mode.parked = s.mode.current := by rw [h]; decide
  simp only [changeMode, handMode, if_neg hne, if_neg fun e : _ ∧ _ => hne e.1, if_pos h]
  exact isActive_clearFault ..

theorem calm_event {s : State} (hp : s.powered = true) (hc : s.mode.current = .storm) (hcalm : s.mode.calm.isSome = true) :
    let t := react calmExpires s
    t.mode.current = .parked ∧ t.mode.target = none ∧ t.mode.previous = .storm ∧ t.mode.cause = .stormCalm ∧
    t.mode.calm = none ∧ isActive t .stormEntered 1 = false ∧ t.store = s.store ∧ t.grid = s.grid := by
  have hf : calmExpires (beginEvent s) = changeMode .parked none .stormCalm (beginEvent s) := if_pos ⟨hc, hcalm⟩
  have hne : ¬Mode.parked = s.mode.current := by rw [hc]; decide
  obtain ⟨hcurrent, htarget, hprevious, -, hcause, -, hnone⟩ := fields_of_kept (react_changeMode hp hf fun e => hne e.1)
  obtain ⟨hstore, hgrid, -, -⟩ := fields_of_lasting (lasting_changeMode hp hf)
  refine ⟨hcurrent, htarget, hprevious.trans ((if_neg hne).trans hc), hcause, hnone, ?_, hstore, hgrid⟩
  rw [react_eq hp, hf, isActive_congr ((faultState_finish ..).trans (stormEntered_settle (changeMode_reached ..).2))]
  exact stormEntered_left (s := beginEvent s) hc _

/-! ## The Idle limit (R139) -/

/-- The end of a transition is a change to a mode with no target. -/
theorem endTransition_eq (s : State) : ∃ current cause, endTransition s = changeMode current none cause s := by
  unfold endTransition
  repeat' split
  all_goals exact ⟨_, _, rfl⟩

/-- The mode and the cause in which the Idle limit ends a transition. -/
theorem idleLimit_event {s : State} (hp : s.powered = true) (hlimit : s.mode.idleLimit.isSome = true)
    (hr : risingTarget s.mode.target = true) {current : Mode} {cause : Cause}
    (hend : endTransition (beginEvent s) = changeMode current none cause (beginEvent s)) :
    let t := react idleLimitExpires s
    t.mode.current = current ∧ t.mode.cause = cause ∧ t.mode.target = none ∧ t.mode.idleLimit = none ∧
    t.store = s.store ∧ t.grid = s.grid := by
  have hf : idleLimitExpires (beginEvent s) = changeMode current none cause (beginEvent s) := by
    rw [← hend]; exact if_pos ⟨hlimit, hr⟩
  have hsome : ¬none = s.mode.target := by
    intro e; rw [← e] at hr; exact absurd hr (by decide)
  obtain ⟨hcurrent, htarget, -, -, hcause, hnone, -⟩ := fields_of_kept (react_changeMode hp hf fun e => hsome e.2)
  obtain ⟨hstore, hgrid, -, -⟩ := fields_of_lasting (lasting_changeMode hp hf)
  exact ⟨hcurrent, hcause, htarget, hnone, hstore, hgrid⟩

/-- Settles O48: the silence by its count, the calm and the Idle limit by the change of mode that each makes. -/
theorem modeTimersExpire : Obligations.ModeTimersExpire := by
  unfold Obligations.ModeTimersExpire
  rintro s hp ⟨hrows, -⟩
  refine ⟨fun he ht => ?_, fun hc hcalm => ⟨_, rfl, calm_event hp hc hcalm⟩, fun hlimit hr hc => ?_⟩
  · obtain ⟨hcount, htimer, howner, hgrid, htherm, hstore, hretained⟩ := silence_event hp he ht
    refine ⟨_, rfl, hcount, htimer, fun hn => ?_, silence_parks hp he ht, howner, hgrid, htherm, hstore, hretained⟩
    rw [react_isActive hp (by decide), supervisionExpires_first (s := beginEvent s) he ht hn]
    exact isActive_raise (s := silenceCounted (beginEvent s)) hrows .linkSilent
  · obtain ⟨_, _, hend⟩ := endTransition_eq (beginEvent s)
    obtain ⟨-, -, htarget, hnone, hstore, hgrid⟩ := idleLimit_event hp hlimit hr hend
    have hended {current : Mode} {cause : Cause}
        (h : endTransition (beginEvent s) = changeMode current none cause (beginEvent s)) :
        (react idleLimitExpires s).mode.current = current ∧ (react idleLimitExpires s).mode.cause = cause := by
      obtain ⟨hcurrent, hcause, -⟩ := idleLimit_event hp hlimit hr h
      exact ⟨hcurrent, hcause⟩
    have hidle : (beginEvent s).mode.current = .idle := hc
    refine ⟨_, rfl, htarget, hnone, fun hn => hended (if_pos hn), fun hn ha hm => hended ?_, fun hn ha hm => hended ?_,
      fun hn ha => hended ?_, hstore, hgrid⟩
    · exact (if_neg hn).trans ((if_pos ha).trans (if_pos hm))
    · have hmay : ¬mayGenerate (beginEvent s) = true := Bool.eq_false_iff.mp hm
      rw [← hidle]
      exact (if_neg hn).trans ((if_pos ha).trans (if_neg hmay))
    · have hgen : ¬s.mode.target = some .generating := by rw [ha]; decide
      rw [← hidle]
      exact (if_neg hn).trans (if_neg hgen)

end Sys2Proof.Machine

/-! SUPPORT. The emergency-stop chain, the key and the reset button (R142, R143, R145). -/

namespace Sys2Proof.Machine

/-! ## A yaw controller that pressurizes

`Pressing` of the reactions' own laws asks for the brake state too; a stop of a motion that pressurizes already leaves the brake
state alone, so the motion is followed by itself. -/

/-- The motion pressurizes. -/
def Pressurizes (s : State) : Prop := s.yaw.motion = .pressurizing

theorem pressurizes_yaw {s t : State} (h : Pressurizes s) (hy : t.yaw = s.yaw) : Pressurizes t := by
  rwa [Pressurizes, hy]

theorem pressurizes_forcedStop {s : State} (h : Pressurizes s) : Pressurizes (forcedStop s) := by
  simp only [Pressurizes] at h
  simp only [forcedStop, h]
  exact h

theorem pressurizes_stopKind {s : State} (h : Pressurizes s) (k : MoveKind) : stopKind k s = s := by
  simp only [Pressurizes] at h
  simp [stopKind, normalStop, runningStop, waiting, h]

theorem pressurizes_judgeYaw {s : State} (h : Pressurizes s) : Pressurizes (judgeYaw s) := by
  have hmode : Pressurizes (setYawMode (yawModeNow s) s) := h
  have hstop : modeStop (setYawMode (yawModeNow s) s) = setYawMode (yawModeNow s) s := by
    simp only [Pressurizes] at hmode
    simp [modeStop, runningStop, waiting, hmode]
  simp only [judgeYaw, yawModeEffect]
  repeat' split
  · exact h
  · exact pressurizes_forcedStop hmode
  · exact hmode
  · exact hmode
  · exact hmode
  · exact hmode
  · rwa [hstop]

theorem pressurizes_handYaw {s : State} (h : Pressurizes s) (before after : Claims) : handYaw before after s = s := by
  simp only [Pressurizes] at h
  simp [handYaw, yawGrantChange, takeYawGrant, yawGrantLost, h]

theorem pressurizes_yawOnMode {s : State} (h : Pressurizes s) (m : Mode) : Pressurizes (yawOnMode m s) := by
  cases m
  case storm => exact h
  case lockout => exact pressurizes_forcedStop h
  case generating =>
    simp only [yawOnMode, pressurizes_stopKind h]
    split <;> exact h
  all_goals exact h

theorem pressurizes_changeMode {s : State} (h : Pressurizes s) (m : Mode) (t : Option Mode) (c : Cause) :
    Pressurizes (changeMode m t c s) := by
  have hstrings : Pressurizes (stringsOnMode (m ≠ s.mode.current) m t { s with mode := s.mode.changed s.clock m t c }) :=
    pressurizes_yaw (s := s) h (sameYaw_stringsOnMode ..).1
  simp only [changeMode]
  split
  · exact h
  · split
    · exact hstrings
    · have hyaw := pressurizes_yawOnMode (pressurizes_yaw hstrings (coolOnMode_yaw m _)) m
      simp only [handMode]
      split <;> exact hyaw

/-- With no transition in flight a pressurizing motion goes on through the reactions. -/
theorem settle_pressurizes {s : State} (h : Pressurizes s) (hn : s.mode.target = none) : Pressurizes (settle s) := by
  refine (settle_keeps (P := fun t => t.mode = s.mode ∧ Pressurizes t) (fun t ht => ?_) (fun t ht => ht) s ⟨rfl, h⟩).2
  obtain ⟨hmode, hpress⟩ := ht
  have hstill : completeTransition t = t := completeTransition_none (by rw [hmode]; exact hn)
  refine ⟨by rw [turn_mode, hstill, hmode], ?_⟩
  have hjudged : Pressurizes (judgeYaw (judgeLoops (followPrecharge t))) :=
    pressurizes_judgeYaw (pressurizes_yaw hpress ((sameYaw_followPrecharge t).trans (sameYaw_judgeLoops _)).1)
  rw [turn, hstill]
  simp only [walkAndHand, handGrants]
  split
  · have hhanded (a b : Claims) (u : State) (hu : Pressurizes u) :
        Pressurizes (handPrecharge a b (handPump a b .l2 (handPump a b .l1 u))) :=
      pressurizes_yaw hu (((sameYaw_handPump a b .l1 u).trans (sameYaw_handPump ..)).trans (sameYaw_handPrecharge ..)).1
    have hwalked := hhanded (judgeYaw (judgeLoops (followPrecharge t))).aux.claims
      (runWalk (judgeYaw (judgeLoops (followPrecharge t)))).aux.claims _ (pressurizes_yaw hjudged (runWalk_yaw _))
    rwa [pressurizes_handYaw hwalked]
  · exact hjudged

/-! ## A forced stop (R111) -/

/-- After a forced stop the yaw controller is at rest, or it pressurizes. -/
theorem forcedStop_stills (s : State) : AtRest (forcedStop s) ∨ Pressurizes (forcedStop s) := by
  unfold forcedStop
  split
  · next hm =>
    split
    · exact .inl (atRest_completeWaiting s)
    · next hc => exact .inl ⟨hm, Bool.eq_false_iff.mpr hc⟩
  · exact .inr rfl
  · exact .inr rfl
  · exact .inr rfl
  · next hm => exact .inr hm

/-- Once stilled, the motion is no part of a move when a change to a mode with no target and its event have ended. -/
theorem settle_stilled {s : State} (h : AtRest s ∨ Pressurizes s) (m : Mode) (c : Cause) :
    (settle (changeMode m none c s)).yaw.motion = .hold ∨ (settle (changeMode m none c s)).yaw.motion = .pressurizing :=
  h.imp (fun h => (settle_atRest (atRest_changeMode h)).1) fun h =>
    settle_pressurizes (pressurizes_changeMode h m none c) (changeMode_reached ..).2

/-! ## The chain opens (R142) -/

/-- `s` with every string Faulted, ESTOP raised and the yaw stopped. -/
def chainStopped (s : State) : State := forcedStop (forEach StringId.all faultString (raise .estop 1 s))

theorem estopOpens_eq (s : State) :
    estopOpens s = changeMode (if s.mode.current = .lockout then .lockout else .parked) none .emergencyStop (chainStopped s) := by
  simp only [estopOpens, chainStopped]
  split <;> rfl

theorem beside_faultString (k : StringId) (s : State) : beside (faultString k s) = beside s := by
  unfold faultString
  split
  · rfl
  · rw [dequeue, beside_oweJudgement, beside_setQueue, beside_setStrState]
    refine beside_modStr (fun r => ?_) s
    rfl

theorem beside_chainStopped (s : State) : beside (chainStopped s) = beside (raise .estop 1 s) := by
  rw [chainStopped, beside_forcedStop, beside_forEach beside_faultString]

/-- A string that the open chain finds neither Isolated nor Faulted is Faulted and waits in no queue. -/
theorem stays_chainStopped {k : StringId} {s : State} (h : (strOf s k).state ≠ .isolated)
    (h' : (strOf s k).state ≠ .faulted) : Stays k (chainStopped s) := by
  refine stays_conv (forcedStop_conv _) ?_
  exact forEach_once (P := SameFor k (raise .estop 1 s)) (Q := Stays k) k
    (fun j hj t ht => ht.trans ((touches_faultString j t).others k hj.symm))
    (fun t ht => stays_faultString (by rw [ht.record]; exact h) (by rw [ht.record]; exact h'))
    (fun j hj t ht => stays_faultString_ne hj.symm ht) (.refl k _)

/-- A change to a mode with no target is the mode at the end of its event. -/
theorem react_reached {s u : State} (hp : s.powered = true) {f : State → State} {current : Mode} {cause : Cause}
    (hf : f (beginEvent s) = changeMode current none cause u) :
    (react f s).mode.current = current ∧ (react f s).mode.target = none := by
  have hreached := changeMode_reached current none cause u
  rw [← hf] at hreached
  obtain ⟨hcurrent, htarget, -⟩ := fields_of_kept (react_mode hp hreached.2)
  exact ⟨hcurrent.trans hreached.1, htarget.trans hreached.2⟩

/-- The chain that opens, at the end of its event. -/
theorem chainOpen_event {s : State} (hp : s.powered = true) (hrows : s.faults.rows.length = 79) :
    let t := react estopOpens s
    t.lines = s.lines ∧ isActive t .estop 1 = true ∧ t.mode.target = none ∧
    t.mode.current = (if s.mode.current = .lockout then .lockout else .parked) ∧
    (∀ k, (strOf s k).state ≠ .isolated → (strOf s k).state ≠ .faulted → (strOf t k).state = .faulted) ∧
    (t.yaw.motion = .hold ∨ t.yaw.motion = .pressurizing) ∧ lasting t = lasting s := by
  have hf := estopOpens_eq (beginEvent s)
  have hbeside : beside (estopOpens (beginEvent s)) = beside (raise .estop 1 (beginEvent s)) := by
    rw [hf, beside_changeMode, beside_chainStopped]
  have hevent : react estopOpens s = finish (settle (estopOpens (beginEvent s))) := react_eq hp _
  obtain ⟨hcurrent, htarget⟩ := react_reached hp hf
  refine ⟨?_, ?_, htarget, hcurrent, fun k hi hk => ?_, ?_, ?_⟩
  · exact (react_field (g := State.lines) (fun _ => rfl) hp _).trans
      (field_of_beside (f := State.lines) (fun _ => rfl) hbeside :)
  · rw [react_isActive hp (by decide), isActive_congr (faultState_of_beside hbeside (by decide))]
    exact isActive_raise (s := beginEvent s) hrows .estop
  · have hstays : Stays k (estopOpens (beginEvent s)) := by
      rw [hf]
      exact stays_changeMode (stays_chainStopped (s := beginEvent s) hi hk)
    rw [hevent, strOf_finish]
    exact (settle_stays hstays).1
  · rw [hevent, finish_yaw, hf]
    exact settle_stilled (s := chainStopped (beginEvent s)) (forcedStop_stills _) _ _
  · exact (lasting_react hp _).trans (field_of_beside (f := lasting) (fun _ => rfl) hbeside :)

/-- The chain that closes clears ESTOP, and no reaction follows. -/
theorem chainClose_quiet {s : State} (hp : s.powered = true) :
    Quiet (clearFault .estop 1 s) (event (clearFault .estop 1) s) :=
  quiet_event hp ⟨rfl, rfl, rfl, rfl, rfl, rfl, fun _ => rfl⟩

/-! ## The key (R143) -/

/-- A change of the owner writes it, and of the rest no more than the stop of a Manual move does. -/
theorem aside_setOwner (o : Owner) (s : State) :
    aside (setOwner o s) = aside { s with mode := { s.mode with owner := o } } := by
  simp only [setOwner, stopKind]
  repeat' split
  · rfl
  · exact aside_normalStop _
  · rfl

theorem aside_keyReaches (before p : KeyPos) (s : State) :
    aside (keyReaches before p s) = aside { s with mode := { s.mode with owner := ownerOf p } } := by
  simp only [keyReaches]
  split
  · rw [aside_changeMode, aside_setOwner]
  · split
    · rw [aside_changeMode, aside_setOwner]
    · exact aside_setOwner _ s

theorem ownerOf_eq (p : KeyPos) : ownerOf p = if p = .remotePos then .pendingRemote else .localOwner := by
  cases p <;> rfl

/-- The key at the end of its event: the owner it sets, and what it leaves. -/
theorem key_event {s : State} (hp : s.powered = true) (before p : KeyPos) :
    let t := react (keyReaches before p) s
    t.lines = s.lines ∧ t.mode.owner = ownerOf p ∧ lasting t = lasting s := by
  have hfield {β : Type} {g : State → β} (ho : ∀ s, g (outside s) = g s) (ha : ∀ s, g (aside s) = g s) :
      g (react (keyReaches before p) s) = g { beginEvent s with mode := { s.mode with owner := ownerOf p } } :=
    (react_field ho hp _).trans (field_of_aside ha (aside_keyReaches before p (beginEvent s)))
  exact ⟨hfield (g := State.lines) (fun _ => rfl) fun _ => rfl,
    hfield (g := fun t => t.mode.owner) (fun _ => rfl) fun _ => rfl, hfield (g := lasting) (fun _ => rfl) fun _ => rfl⟩

/-- The key at Lockout enters Lockout. -/
theorem key_locks {s : State} (hp : s.powered = true) (before : KeyPos) :
    let t := react (keyReaches before .lockoutPos) s
    t.mode.current = .lockout ∧ t.mode.target = none := by
  have hf : keyReaches before .lockoutPos (beginEvent s) =
      changeMode .lockout none .keyLockout (setOwner (ownerOf .lockoutPos) (beginEvent s)) := by
    rw [keyReaches]
    exact if_pos rfl
  exact react_reached hp hf

/-- The key that leaves Lockout leaves the mode to the grid. -/
theorem key_unlocks {s : State} (hp : s.powered = true) {p : KeyPos} (hne : p ≠ .lockoutPos) :
    let t := react (keyReaches .lockoutPos p) s
    t.mode.current = (if s.grid.state = .lost then .isolated else .parked) ∧ t.mode.target = none := by
  have hf : keyReaches .lockoutPos p (beginEvent s) =
      changeMode (if s.grid.state = .lost then .isolated else .parked) none .keyLeavesLockout
        (setOwner (ownerOf p) (beginEvent s)) := (if_neg hne).trans (if_pos rfl)
  exact react_reached hp hf

/-! ## The reset button (R145) -/

/-- A row of the table where some rows are acknowledged; outside the table there is none to acknowledge. -/
theorem rowAt_ackWhere {p : Nat → FaultRow → Bool} {i : Nat} (hblank : p i .blank = false) (s : State) :
    rowAt (ackWhere p s) i =
      if p i (rowAt s i) then ackRow (classOf s (codeOfRow i) ≠ .record) (rowAt s i) else rowAt s i := by
  simp only [rowAt, ackWhere, List.getD_eq_getElem?_getD, List.getElem?_mapIdx]
  cases s.faults.rows[i]? with
  | none => simp [hblank]
  | some r => rfl

/-- A press of the reset button acknowledges the Latched Trip rows and leaves every other row. -/
theorem rowAt_resetPressed (s : State) (i : Nat) :
    rowAt (resetPressed s) i =
      if (codeOfRow i).isTrip = true ∧ (rowAt s i).state = .latched then { rowAt s i with
        state := .clear, firstMark := false
        pending := (rowAt s i).pending || decide (classOf s (codeOfRow i) ≠ .record) } else rowAt s i := by
  have hblank : ((codeOfRow i).isTrip && decide (FaultRow.blank.state = .latched)) = false := Bool.and_false _
  rw [resetPressed, rowAt_ackWhere hblank]
  by_cases h : (codeOfRow i).isTrip = true ∧ (rowAt s i).state = .latched
  · rw [if_pos h, if_pos (by simp [h])]
    simp only [ackRow, h.2]
  · rw [if_neg h, if_neg (by simpa using h)]

/-- A row that no reaction moves stands outside but for its pending flag. -/
theorem outside_row {s t : State} (h : outside t = outside s) {i : Nat} (hi : reactiveRow i = false) :
    { rowAt t i with pending := false } = { rowAt s i with pending := false } := by
  have hrows : t.faults.rows.mapIdx rowOutside = s.faults.rows.mapIdx rowOutside :=
    congrArg (fun u : State => u.faults.rows) h
  have hout (u : State) : { rowAt u i with pending := false } =
      ((u.faults.rows.mapIdx rowOutside)[i]?).getD FaultRow.blank := by
    simp only [rowAt, List.getD_eq_getElem?_getD, List.getElem?_mapIdx]
    cases u.faults.rows[i]? with
    | none => rfl
    | some r => simp [rowOutside, hi]
  rw [hout, hout, hrows]

/-- No reaction moves a Trip row. -/
theorem tripRow_still {i : Nat} (h : (codeOfRow i).isTrip = true) : reactiveRow i = false := by
  rw [Bool.eq_false_iff]
  intro hi
  simp only [reactiveRow, Bool.or_eq_true, decide_eq_true_eq] at hi
  rcases hi with (((rfl | rfl) | rfl) | rfl) | rfl <;> exact absurd h (by decide)

theorem link_of_base {s t : State} (h : base t = base s) : t.link = s.link := congrArg (·.2.2.2.2.1) h

/-- Frames that an event with no reply of its own adds are notices. -/
theorem react_notices {s : State} (hp : s.powered = true) {f : State → State}
    (hl : (f (beginEvent s)).link = s.link) :
    ∀ g ∈ (react f s).link.outbound.drop s.link.outbound.length, g.notice = true := by
  have hlink : (settle (f (beginEvent s))).link = s.link := (link_of_base (base_settle _)).trans hl
  obtain ⟨notices, hout, hnotices⟩ := finish_outbound (settle (f (beginEvent s)))
  rw [react_eq hp, hout, hlink, List.drop_left]
  exact hnotices

/-- Settles O49: the chain, the key and the button, each by its own effect and by what the reactions leave of it. -/
theorem panelAndChainAct : Obligations.PanelAndChainAct := by
  unfold Obligations.PanelAndChainAct
  rintro s hp ⟨hrows, -⟩
  refine ⟨?_, ?_, fun p => ?_, ⟨resetPressed (beginEvent s), congrArg Host.Outcome.next (react_eq hp _),
    rowAt_resetPressed (beginEvent s)⟩, ?_⟩
  · obtain ⟨hlines, hestop, htarget, hcurrent, hstrings, hmotion, hlasting⟩ :=
      chainOpen_event (s := setLines (fun l => { l with chainClosed := false }) s) hp hrows
    obtain ⟨hstore, hgrid, htherm, hretained⟩ := fields_of_lasting hlasting
    refine ⟨_, rfl, hlines, hestop, htarget, hcurrent, hstrings, ?_, ?_, ?_, hstore, hretained, hgrid, htherm⟩ <;>
      (rcases hmotion with hm | hm <;> rw [hm] <;> decide)
  · have hquiet := chainClose_quiet (s := setLines (fun l => { l with chainClosed := true }) s) hp
    obtain ⟨hout, -, -, -, -, -, hstands⟩ := hquiet
    have hrow := state_of_pending (hstands (rowOf .estop 1))
    have hlines : (event (clearFault .estop 1) (setLines (fun l => { l with chainClosed := true }) s)).lines =
        { s.lines with chainClosed := true } := outside_field (f := State.lines) (fun _ => rfl) hout
    refine ⟨_, rfl, hlines, (isActive_congr hrow).trans (isActive_clearFault ..), ?_⟩
    rw [hlines]
    exact chainClose_quiet (s := setLines (fun l => { l with chainClosed := true }) s) hp
  · have hp' : (setLines (fun l => { l with key := p }) s).powered = true := hp
    obtain ⟨hlines, howner, hlasting⟩ := key_event hp' s.lines.key p
    obtain ⟨hstore, hgrid, htherm, hretained⟩ := fields_of_lasting hlasting
    refine ⟨_, rfl, hlines, howner.trans (ownerOf_eq p), fun hlock => ?_, fun hne hkey => ?_, hstore, hretained, hgrid,
      htherm⟩
    · subst hlock
      exact key_locks hp' _
    · rw [hkey]
      exact key_unlocks hp' hne
  · have hrow {i : Nat} (hi : reactiveRow i = false) : { rowAt (react resetPressed s) i with pending := false } =
        { rowAt (resetPressed (beginEvent s)) i with pending := false } := outside_row (outside_react hp) hi
    refine ⟨_, rfl, fun i htrip hlatched => ?_, fun i hi hnot => ?_, react_notices hp rfl,
      react_field (g := State.store) (fun _ => rfl) hp _, react_field (g := State.retained) (fun _ => rfl) hp _,
      react_field (g := State.grid) (fun _ => rfl) hp _⟩
    · rw [state_of_pending (hrow (tripRow_still htrip)), rowAt_resetPressed, if_pos ⟨htrip, hlatched⟩]
    · have hkeep : ¬((codeOfRow i).isTrip = true ∧ (rowAt s i).state = .latched) := by
        rintro ⟨htrip, hlatched⟩
        rcases hnot with h | h
        · rw [h] at htrip; exact absurd htrip (by decide)
        · exact h hlatched
      have hstands : rowAt (resetPressed (beginEvent s)) i = rowAt s i :=
        (rowAt_resetPressed (beginEvent s) i).trans (if_neg hkeep)
      rw [hrow hi, hstands]

end Sys2Proof.Machine

/-! SUPPORT. The rows of the fault table: where a code's rows lie, what a raise, a clear and an acknowledgement leave of each row, and the slot that a Trip raise captures into (R151 to R155, R160). -/

namespace Sys2Proof.Machine

/-! ## Where the rows lie (R151) -/

theorem rowOf_lt {c : FaultCode} {u : Nat} (h1 : 1 ≤ u) (hu : u ≤ c.units) : rowOf c u < 79 := by
  have hlast : c.firstRow + c.units ≤ 79 := by cases c <;> decide
  simp only [rowOf]
  omega

theorem codeOfRow_firstRow_add (c : FaultCode) : ∀ k < c.units, codeOfRow (c.firstRow + k) = c := by
  cases c <;> decide

theorem codeOfRow_rowOf {c : FaultCode} {u : Nat} (h1 : 1 ≤ u) (hu : u ≤ c.units) : codeOfRow (rowOf c u) = c :=
  codeOfRow_firstRow_add c (u - 1) (by omega)

theorem codeOfRow_of_le {i : Nat} (h : 79 ≤ i) : codeOfRow i = .settingsDefault := List.getD_eq_default _ _ h

theorem rowAt_of_le {s : State} {i : Nat} (h : s.faults.rows.length ≤ i) : rowAt s i = .blank := List.getD_eq_default _ _ h

/-! ## A capture (R160) -/

/-- Taking slot `k` from a row that names it. -/
def FaultRow.without (k : Nat) (r : FaultRow) : FaultRow := if r.slot = some k then { r with slot := none } else r

theorem detachSlot_getD (rows : List FaultRow) (k i : Nat) :
    (detachSlot rows k).getD i .blank = (rows.getD i .blank).without k := by
  simp only [detachSlot, List.getD_eq_getElem?_getD, List.getElem?_map]
  cases rows[i]? <;> rfl

/-- A capture with no slot to use: the row's snapshot is lost. -/
theorem capture_of_no_slot {t : FaultTable} {i : Nat} (h : chooseSlot t i = none) (snap : Snapshot) :
    capture t i snap = { t with rows := updateAt t.rows i fun r => { r with slot := none, lost := true } } := by
  simp only [capture, h]

/-- A capture into slot `k`. -/
theorem capture_of_slot {t : FaultTable} {i k : Nat} (h : chooseSlot t i = some k) (snap : Snapshot) :
    capture t i snap =
      { rows := updateAt (detachSlot t.rows k) i fun r => { r with slot := some k, lost := false }
        slots := t.slots.set (k - 1) (some snap)
        capture := t.capture.filter (· ≠ k) ++ [k] } := by
  simp only [capture, h]

/-- What a capture may write of a row: its slot, and whether its snapshot is lost. -/
def FaultRow.bare (r : FaultRow) : FaultRow := { r with slot := none, lost := false }

theorem bare_without (k : Nat) (r : FaultRow) : (r.without k).bare = r.bare := by
  unfold FaultRow.without; split <;> rfl

theorem bare_updateAt {f : FaultRow → FaultRow} (hf : ∀ r, (f r).bare = r.bare) (rows : List FaultRow) (i j : Nat) :
    ((updateAt rows i f).getD j .blank).bare = (rows.getD j .blank).bare := by
  simp only [updateAt, List.getD_eq_getElem?_getD, List.getElem?_modify]
  cases rows[j]? with
  | none => rfl
  | some r => by_cases h : i = j <;> simp [h, hf]

theorem capture_bare (t : FaultTable) (i : Nat) (snap : Snapshot) (j : Nat) :
    ((capture t i snap).rows.getD j .blank).bare = (t.rows.getD j .blank).bare := by
  cases h : chooseSlot t i with
  | none => rw [capture_of_no_slot h]; exact bare_updateAt (by intro _; rfl) _ _ _
  | some k =>
    rw [capture_of_slot h]
    refine (bare_updateAt (by intro _; rfl) _ _ _).trans ?_
    rw [detachSlot_getD, bare_without]

/-! ## A raise (R153) -/

/-- The table of a raise before its capture. -/
def entered (s : State) (i : Nat) : FaultTable := { s.faults with rows := updateAt s.faults.rows i (enterActive s i) }

theorem raise_of_active {c : FaultCode} {u : Nat} {s : State} (h : (rowAt s (rowOf c u)).state = .active) :
    raise c u s = s := by
  simp only [raise, raiseIn, h, if_true]

theorem raise_faults {c : FaultCode} {u : Nat} {s : State} (h : (rowAt s (rowOf c u)).state ≠ .active) :
    (raise c u s).faults = if (codeOfRow (rowOf c u)).isTrip then
      capture (entered s (rowOf c u)) (rowOf c u) (snapshotNow s (rowOf c u)) else entered s (rowOf c u) := by
  simp only [raise, raiseIn, h, if_false, entered]

/-- But for its slot and its lost mark, a raised row is the row entered. -/
theorem raise_bare {c : FaultCode} {u : Nat} {s : State} (h : (rowAt s (rowOf c u)).state ≠ .active) (j : Nat) :
    (rowAt (raise c u s) j).bare = ((updateAt s.faults.rows (rowOf c u) (enterActive s (rowOf c u))).getD j .blank).bare := by
  rw [rowAt, raise_faults h]
  split
  · exact capture_bare _ _ _ j
  · rfl

theorem raise_bare_self {c : FaultCode} {u : Nat} {s : State} (h : (rowAt s (rowOf c u)).state ≠ .active)
    (hlt : rowOf c u < s.faults.rows.length) :
    (rowAt (raise c u s) (rowOf c u)).bare = (enterActive s (rowOf c u) (rowAt s (rowOf c u))).bare := by
  rw [raise_bare h, getD_updateAt_self hlt]; rfl

/-- A raise leaves of every other row all but its slot. -/
theorem raise_bare_ne {c : FaultCode} {u j : Nat} (hj : j ≠ rowOf c u) (s : State) :
    (rowAt (raise c u s) j).bare = (rowAt s j).bare := by
  by_cases h : (rowAt s (rowOf c u)).state = .active
  · rw [raise_of_active h]
  · rw [raise_bare h, getD_updateAt_ne hj.symm]; rfl

/-- The fields that a capture leaves. -/
theorem fields_of_bare {r q : FaultRow} (h : r.bare = q.bare) :
    r.state = q.state ∧ r.ack = q.ack ∧ r.count = q.count ∧ r.lastTime = q.lastTime ∧ r.lastStamp = q.lastStamp ∧
    r.pending = q.pending ∧ r.firstMark = q.firstMark :=
  ⟨(congrArg FaultRow.state h :), (congrArg FaultRow.ack h :), (congrArg FaultRow.count h :),
    (congrArg FaultRow.lastTime h :), (congrArg FaultRow.lastStamp h :), (congrArg FaultRow.pending h :),
    (congrArg FaultRow.firstMark h :)⟩

/-! ## A clear (R154) -/

theorem rowAt_clearFault_self {c : FaultCode} {u : Nat} {s : State} (hlt : rowOf c u < s.faults.rows.length) :
    rowAt (clearFault c u s) (rowOf c u) = clearRow (classOf s c ≠ .record) (rowAt s (rowOf c u)) :=
  getD_updateAt_self hlt _ _

theorem rowAt_clearFault_ne {c : FaultCode} {u j : Nat} (h : j ≠ rowOf c u) (s : State) :
    rowAt (clearFault c u s) j = rowAt s j := getD_updateAt_ne h.symm _ _ _

theorem clearRow_of_not_active {b : Bool} {r : FaultRow} (h : r.state ≠ .active) : clearRow b r = r := if_neg h

theorem clearRow_of_acked {b : Bool} {r : FaultRow} (h : r.state = .active) (ha : r.ack = true) :
    clearRow b r = { r with state := .clear, ack := false, firstMark := false, pending := r.pending || b } := by
  simp only [clearRow, h, ha, if_true]

theorem clearRow_of_unacked {b : Bool} {r : FaultRow} (h : r.state = .active) (ha : r.ack = false) :
    clearRow b r = { r with state := .latched, pending := r.pending || b } := by
  simp only [clearRow, h, ha, if_true, Bool.false_eq_true, if_false]

theorem clearFault_faults_of_not_active {c : FaultCode} {u : Nat} {s : State} (h : (rowAt s (rowOf c u)).state ≠ .active) :
    (clearFault c u s).faults = s.faults := by
  have hrows : updateAt s.faults.rows (rowOf c u) (clearRow (classOf s c ≠ .record)) = s.faults.rows := by
    apply List.ext_getElem (by simp [updateAt])
    intro n _ hn
    simp only [updateAt, List.getElem_modify]
    split
    · next e =>
      subst e
      refine clearRow_of_not_active ?_
      rwa [rowAt, List.getD_eq_getElem _ _ hn] at h
    · rfl
  simp only [clearFault, hrows]

/-! ## The slot chosen (R160) -/

theorem entered_row_self {s : State} {i : Nat} (hlt : i < s.faults.rows.length) :
    (entered s i).rows.getD i .blank = enterActive s i (rowAt s i) := getD_updateAt_self hlt _ _

theorem entered_row_ne {s : State} {i j : Nat} (h : j ≠ i) : (entered s i).rows.getD j .blank = rowAt s j :=
  getD_updateAt_ne h.symm _ _ _

/-- A slot whose row neither is Clear nor Active and acknowledged keeps its snapshot. -/
def KeepsSlot (s : State) (k : Nat) : Prop := ∀ x, s.faults.slots.getD (k - 1) none = some x →
  (rowAt s x.row).state ≠ .clear ∧ ((rowAt s x.row).state = .active → (rowAt s x.row).ack = false)

/-- Row `i` itself, just raised, is Active and not acknowledged, so a raise makes no slot displaceable. -/
theorem not_displaceable {s : State} {i k : Nat} (hlt : i < s.faults.rows.length) (h : KeepsSlot s k) :
    displaceable (entered s i) k = false := by
  unfold displaceable
  split
  · rfl
  · next x hx =>
    obtain ⟨hclear, hack⟩ := h x hx
    by_cases hrow : x.row = i
    · rw [hrow, entered_row_self hlt]
      simp [enterActive]
    · rw [entered_row_ne hrow]
      simpa [hclear] using hack

theorem displaceable_entered {s : State} {i k : Nat} {x : Snapshot} (hx : s.faults.slots.getD (k - 1) none = some x)
    (hrow : x.row ≠ i)
    (h : (rowAt s x.row).state = .clear ∨ ((rowAt s x.row).state = .active ∧ (rowAt s x.row).ack = true)) :
    displaceable (entered s i) k = true := by
  have hslot : (entered s i).slots.getD (k - 1) none = some x := hx
  simp only [displaceable, hslot, entered_row_ne hrow]
  rcases h with h | ⟨h, ha⟩
  · simp [h]
  · simp [h, ha]

theorem chooseSlot_own {s : State} {i k : Nat} (hlt : i < s.faults.rows.length) (h : (rowAt s i).slot = some k) :
    chooseSlot (entered s i) i = some k := by
  have : (enterActive s i (rowAt s i)).slot = some k := h
  simp only [chooseSlot, entered_row_self hlt, this]

/-- Without a slot of its own a row takes the lowest empty one, and only without an empty one a displaceable one. -/
theorem chooseSlot_of_none {s : State} {i : Nat} (hlt : i < s.faults.rows.length) (h : (rowAt s i).slot = none) :
    chooseSlot (entered s i) i =
      (([1, 2, 3, 4, 5, 6, 7, 8].find? fun k => (s.faults.slots.getD (k - 1) none).isNone).or
        (s.faults.capture.find? (displaceable (entered s i)))) := by
  have hown : (enterActive s i (rowAt s i)).slot = none := h
  simp only [chooseSlot, entered_row_self hlt, hown]
  split <;> next e => simp only [entered] at e; rw [e]; rfl

/-- The eight slots, by number. -/
theorem mem_slotNumbers {k : Nat} : k ∈ [1, 2, 3, 4, 5, 6, 7, 8] ↔ 1 ≤ k ∧ k ≤ 8 := by
  simp only [List.mem_cons, List.not_mem_nil, or_false]
  omega

theorem chooseSlot_empty {s : State} {i k : Nat} (hlt : i < s.faults.rows.length) (h : (rowAt s i).slot = none)
    (h1 : 1 ≤ k) (h8 : k ≤ 8) (hempty : s.faults.slots.getD (k - 1) none = none)
    (hlow : ∀ n, 1 ≤ n → n < k → s.faults.slots.getD (n - 1) none ≠ none) : chooseSlot (entered s i) i = some k := by
  have hfind : ([1, 2, 3, 4, 5, 6, 7, 8].find? fun k => (s.faults.slots.getD (k - 1) none).isNone) = some k := by
    have hsplit : [1, 2, 3, 4, 5, 6, 7, 8] = List.range' 1 (k - 1) ++ k :: List.range' (k + 1) (8 - k) := by
      interval_cases k <;> rfl
    rw [hsplit, List.find?_append, List.find?_eq_none.mpr, List.find?_cons_of_pos]
    · rfl
    · exact Option.isNone_iff_eq_none.mpr hempty
    · intro n hn
      obtain ⟨hn1, hnk⟩ := List.mem_range'_1.mp hn
      exact fun hnone => hlow n hn1 (by omega) (Option.isNone_iff_eq_none.mp hnone)
  rw [chooseSlot_of_none hlt h, hfind]
  rfl

theorem chooseSlot_full {s : State} {i : Nat} (hlt : i < s.faults.rows.length) (h : (rowAt s i).slot = none)
    (hfull : ∀ k, 1 ≤ k → k ≤ 8 → s.faults.slots.getD (k - 1) none ≠ none) :
    chooseSlot (entered s i) i = s.faults.capture.find? (displaceable (entered s i)) := by
  rw [chooseSlot_of_none hlt h, List.find?_eq_none.mpr]
  · rfl
  · intro k hk
    obtain ⟨h1, h8⟩ := mem_slotNumbers.mp hk
    exact fun hnone => hfull k h1 h8 (Option.isNone_iff_eq_none.mp hnone)

/-! ## The capture of a Trip raise (R160) -/

section
variable {s : State} {c : FaultCode} {u : Nat}

theorem raise_faults_of_trip (hrow : (codeOfRow (rowOf c u)).isTrip = true) (h : (rowAt s (rowOf c u)).state ≠ .active) :
    (raise c u s).faults = capture (entered s (rowOf c u)) (rowOf c u) (snapshotNow s (rowOf c u)) := by
  rw [raise_faults h, if_pos hrow]

theorem without_slot (k : Nat) (r : FaultRow) : (r.without k).slot = if r.slot = some k then none else r.slot := by
  unfold FaultRow.without; split <;> rfl

theorem without_lost (k : Nat) (r : FaultRow) : (r.without k).lost = r.lost := by
  unfold FaultRow.without; split <;> rfl

theorem getD_set_self {α : Type} {l : List α} {i : Nat} (h : i < l.length) (x d : α) : (l.set i x).getD i d = x := by
  simp [h]

theorem getD_set_ne {α : Type} {i j : Nat} (h : i ≠ j) (l : List α) (x d : α) : (l.set i x).getD j d = l.getD j d := by
  simp [h]

/-- The slot chosen is captured into. -/
theorem capturedIn_raise (hrow : (codeOfRow (rowOf c u)).isTrip = true) (h : (rowAt s (rowOf c u)).state ≠ .active)
    (hlt : rowOf c u < s.faults.rows.length) (hslots : s.faults.slots.length = 8) {k : Nat} (h1 : 1 ≤ k) (h8 : k ≤ 8)
    (hk : chooseSlot (entered s (rowOf c u)) (rowOf c u) = some k) : CapturedIn s (raise c u s) (rowOf c u) k := by
  have hfaults := (raise_faults_of_trip hrow h).trans (capture_of_slot hk _)
  have hlt' : rowOf c u < (detachSlot (entered s (rowOf c u)).rows k).length := by
    simpa [detachSlot, entered, updateAt] using hlt
  have hself : rowAt (raise c u s) (rowOf c u) =
      { ((enterActive s (rowOf c u) (rowAt s (rowOf c u))).without k) with slot := some k, lost := false } := by
    rw [rowAt, hfaults]
    simp only [getD_updateAt_self hlt', detachSlot_getD, entered_row_self hlt]
  have hother {j : Nat} (hj : j ≠ rowOf c u) : rowAt (raise c u s) j = (rowAt s j).without k := by
    rw [rowAt, hfaults]
    simp only [getD_updateAt_ne hj.symm, detachSlot_getD, entered_row_ne hj]
  rw [CapturedIn, hself, hfaults]
  refine ⟨getD_set_self (by omega : k - 1 < s.faults.slots.length) _ _, rfl, rfl, rfl, fun j hj => ?_, fun n hn hne => ?_⟩
  · rw [hother hj]
    exact ⟨without_slot k _, without_lost k _⟩
  · exact getD_set_ne (by omega) _ _ _

/-- With no slot to use the snapshot is lost and no other snapshot moves. -/
theorem raise_loses_snapshot (hrow : (codeOfRow (rowOf c u)).isTrip = true) (h : (rowAt s (rowOf c u)).state ≠ .active)
    (hlt : rowOf c u < s.faults.rows.length) (hk : chooseSlot (entered s (rowOf c u)) (rowOf c u) = none) :
    (rowAt (raise c u s) (rowOf c u)).slot = none ∧ (rowAt (raise c u s) (rowOf c u)).lost = true ∧
    (raise c u s).faults.slots = s.faults.slots ∧ (raise c u s).faults.capture = s.faults.capture ∧
    ∀ j, j ≠ rowOf c u → (rowAt (raise c u s) j).slot = (rowAt s j).slot := by
  have hfaults := (raise_faults_of_trip hrow h).trans (capture_of_no_slot hk _)
  have hlt' : rowOf c u < (entered s (rowOf c u)).rows.length := by simpa [entered, updateAt] using hlt
  have hself : rowAt (raise c u s) (rowOf c u) =
      { enterActive s (rowOf c u) (rowAt s (rowOf c u)) with slot := none, lost := true } := by
    rw [rowAt, hfaults]
    simp only [getD_updateAt_self hlt', entered_row_self hlt]
  rw [hself, hfaults]
  refine ⟨rfl, rfl, rfl, rfl, fun j hj => ?_⟩
  rw [rowAt, hfaults]
  simp only [getD_updateAt_ne hj.symm, entered_row_ne hj]

end

/-! ## The statement -/

/-- What a raise leaves of its own row, and of the others' states. -/
theorem raise_row {s : State} {c : FaultCode} {u : Nat} (hlt : rowOf c u < s.faults.rows.length)
    (hcode : codeOfRow (rowOf c u) = c) :
    (rowAt (raise c u s) (rowOf c u)).state = .active ∧
    ((rowAt s (rowOf c u)).state = .active → (raise c u s).faults = s.faults) ∧
    ((rowAt s (rowOf c u)).state ≠ .active →
      (rowAt (raise c u s) (rowOf c u)).ack = false ∧
      (rowAt (raise c u s) (rowOf c u)).count = min 255 ((rowAt s (rowOf c u)).count + 1) ∧
      (rowAt (raise c u s) (rowOf c u)).lastTime = some s.clock ∧
      (rowAt (raise c u s) (rowOf c u)).lastStamp = some s.evt.stamp ∧
      (classOf s c ≠ .record → (rowAt (raise c u s) (rowOf c u)).pending = true)) ∧
    ∀ i, i ≠ rowOf c u →
      (rowAt (raise c u s) i).state = (rowAt s i).state ∧ (rowAt (raise c u s) i).ack = (rowAt s i).ack := by
  refine ⟨raise_state_self hlt, fun h => by rw [raise_of_active h], fun h => ?_, fun i hi => ?_⟩
  · obtain ⟨-, hack, hcount, htime, hstamp, hpending, -⟩ := fields_of_bare (raise_bare_self h hlt)
    refine ⟨hack, hcount, htime, hstamp, fun hclass => hpending.trans ?_⟩
    simp [enterActive, hcode, hclass]
  · obtain ⟨hstate, hack, -⟩ := fields_of_bare (raise_bare_ne hi s)
    exact ⟨hstate, hack⟩

/-- Settles O50: the row of a raise and of a clear by what each leaves of it, the snapshot by the slot chosen. -/
theorem raiseAndClearChangeTheirRow : Obligations.RaiseAndClearChangeTheirRow := by
  unfold Obligations.RaiseAndClearChangeTheirRow
  intro s c u hlen h1 hu
  have hlt : rowOf c u < s.faults.rows.length := hlen ▸ rowOf_lt h1 hu
  have hcode := codeOfRow_rowOf h1 hu
  refine ⟨raise_row hlt hcode, fun h ha => ?_, fun h ha => ?_, clearFault_faults_of_not_active,
    fun i hi => rowAt_clearFault_ne hi s, fun htrip h hslots => ?_⟩
  · rw [rowAt_clearFault_self hlt, clearRow_of_acked h ha]
  · have hrow := (rowAt_clearFault_self hlt).trans (clearRow_of_unacked h ha)
    exact ⟨hrow, by simp only [isHeld, faultState, hrow]; rfl⟩
  · rw [← hcode] at htrip
    refine ⟨fun k hk1 hk8 hown => ?_, fun hnone => ⟨fun k hk1 hk8 hempty hlow => ?_, fun hfull => ⟨?_, fun hkept => ?_⟩⟩⟩
    · exact capturedIn_raise htrip h hlt hslots hk1 hk8 (chooseSlot_own hlt hown)
    · exact capturedIn_raise htrip h hlt hslots hk1 hk8 (chooseSlot_empty hlt hnone hk1 hk8 hempty hlow)
    · intro older k newer x hcapture hk1 hk8 hkept hx hrow hstate
      refine capturedIn_raise htrip h hlt hslots hk1 hk8 ?_
      have holder : older.find? (displaceable (entered s (rowOf c u))) = none :=
        List.find?_eq_none.mpr fun n hn => by rw [not_displaceable hlt (hkept n hn)]; decide
      rw [chooseSlot_full hlt hnone hfull, hcapture, List.find?_append, holder, List.find?_cons_of_pos]
      · rfl
      · exact displaceable_entered hx hrow hstate
    · refine raise_loses_snapshot htrip h hlt ?_
      rw [chooseSlot_full hlt hnone hfull]
      exact List.find?_eq_none.mpr fun n hn => by rw [not_displaceable hlt (hkept n hn)]; decide

end Sys2Proof.Machine

/-! SUPPORT. The first-fault mark: who carries it after a raise, a clear and an acknowledgement (R157). -/

namespace Sys2Proof.Machine

/-! ## The Trip rows held -/

theorem rowCodes_length : rowCodes.length = 79 := by decide

theorem trip_lt {i : Nat} (h : (codeOfRow i).isTrip = true) : i < 79 := by
  by_contra hi
  rw [codeOfRow_of_le (Nat.le_of_not_lt hi)] at h
  exact absurd h (by decide)

/-- A Trip row is held where a row of the table, at a Trip code's index, is Active or Latched. -/
theorem anyTripHeld_iff {rows : List FaultRow} (hlen : rows.length = 79) :
    anyTripHeld rows = true ↔ ∃ i, (codeOfRow i).isTrip = true ∧ (rows.getD i .blank).state ≠ .clear := by
  have hcode {i : Nat} (hi : i < rowCodes.length) : codeOfRow i = rowCodes[i] := List.getD_eq_getElem _ _ hi
  simp only [anyTripHeld, List.any_eq_true, Prod.exists, Bool.and_eq_true, decide_eq_true_eq]
  constructor
  · rintro ⟨c, r, hmem, hc, hr⟩
    obtain ⟨i, hi, heq⟩ := List.getElem_of_mem hmem
    rw [List.length_zip] at hi
    rw [List.getElem_zip, Prod.mk.injEq] at heq
    obtain ⟨rfl, rfl⟩ := heq
    have hcodes : i < rowCodes.length := by omega
    have hrows : i < rows.length := by omega
    exact ⟨i, by rw [hcode hcodes]; exact hc, by rw [List.getD_eq_getElem _ _ hrows]; exact hr⟩
  · rintro ⟨i, hc, hr⟩
    have hi : i < 79 := trip_lt hc
    have hcodes : i < rowCodes.length := rowCodes_length ▸ hi
    have hrows : i < rows.length := hlen ▸ hi
    refine ⟨rowCodes[i], rows[i], ?_, by rwa [hcode hcodes] at hc, by rwa [List.getD_eq_getElem _ _ hrows] at hr⟩
    rw [List.mem_iff_getElem]
    exact ⟨i, by rw [List.length_zip]; omega, List.getElem_zip⟩

/-- A row other than `i` is a Trip row that is Active or Latched. -/
def OtherTripHeld (s : State) (i : Nat) : Prop :=
  ∃ j, j ≠ i ∧ (codeOfRow j).isTrip = true ∧ (rowAt s j).state ≠ .clear

theorem anyTripHeld_others {s : State} (hlen : s.faults.rows.length = 79) (i : Nat) :
    anyTripHeld (s.faults.rows.set i .blank) = true ↔ OtherTripHeld s i := by
  rw [anyTripHeld_iff (by simpa using hlen)]
  refine exists_congr fun j => ?_
  by_cases h : j = i
  · subst h
    have hblank : (s.faults.rows.set j .blank).getD j .blank = .blank := by
      simp only [List.getD_eq_getElem?_getD, List.getElem?_set_self']
      cases s.faults.rows[j]? <;> rfl
    have hclear : ((s.faults.rows.set j .blank).getD j .blank).state = .clear := congrArg FaultRow.state hblank
    exact ⟨fun ⟨_, hheld⟩ => absurd hclear hheld, fun ⟨hne, _⟩ => absurd rfl hne⟩
  · rw [getD_set_ne (Ne.symm h)]
    simp [h, rowAt]

/-- The mark of a row that enters Active: kept, or taken where no other Trip row is held. -/
theorem enterActive_mark {s : State} (hlen : s.faults.rows.length = 79) (i : Nat) (r : FaultRow) :
    (enterActive s i r).firstMark = true ↔
      r.firstMark = true ∨ ((codeOfRow i).isTrip = true ∧ ¬OtherTripHeld s i) := by
  simp only [enterActive, Bool.or_eq_true, Bool.and_eq_true, Bool.not_eq_true', ← anyTripHeld_others hlen,
    Bool.not_eq_true]

/-! ## A raise (R157) -/

theorem raise_mark_self {s : State} {c : FaultCode} {u : Nat} (hlen : s.faults.rows.length = 79)
    (h : (rowAt s (rowOf c u)).state ≠ .active) (hlt : rowOf c u < 79) :
    (rowAt (raise c u s) (rowOf c u)).firstMark = true ↔ (rowAt s (rowOf c u)).firstMark = true ∨
      ((codeOfRow (rowOf c u)).isTrip = true ∧ ¬OtherTripHeld s (rowOf c u)) := by
  obtain ⟨-, -, -, -, -, -, hmark⟩ := fields_of_bare (raise_bare_self h (hlen ▸ hlt))
  rw [hmark, enterActive_mark hlen]

theorem raise_mark_ne {c : FaultCode} {u j : Nat} (hj : j ≠ rowOf c u) (s : State) :
    (rowAt (raise c u s) j).firstMark = (rowAt s j).firstMark := by
  obtain ⟨-, -, -, -, -, -, hmark⟩ := fields_of_bare (raise_bare_ne hj s)
  exact hmark

/-- A raise beyond the table changes no row. -/
theorem raise_bare_outside {s : State} {c : FaultCode} {u : Nat} (h : (rowAt s (rowOf c u)).state ≠ .active)
    (hle : s.faults.rows.length ≤ rowOf c u) (j : Nat) : (rowAt (raise c u s) j).bare = (rowAt s j).bare := by
  have hrows : updateAt s.faults.rows (rowOf c u) (enterActive s (rowOf c u)) = s.faults.rows :=
    List.modify_eq_self hle
  rw [raise_bare h, hrows]
  rfl

/-! ## What keeps the mark sound -/

/-- A row `q` that comes of a row `r` carries the mark only where `r` does, and then is no more Clear than `r`. -/
def MarkFalls (r q : FaultRow) : Prop :=
  q.firstMark = true → r.firstMark = true ∧ (r.state ≠ .clear → q.state ≠ .clear)

theorem MarkFalls.of_eq {r q : FaultRow} (hmark : q.firstMark = r.firstMark) (hstate : q.state = r.state) : MarkFalls r q :=
  fun h => ⟨hmark ▸ h, fun hheld => hstate ▸ hheld⟩

theorem MarkFalls.refl (r : FaultRow) : MarkFalls r r := .of_eq rfl rfl

theorem markFalls_clearRow (b : Bool) (r : FaultRow) : MarkFalls r (clearRow b r) := by
  unfold clearRow
  split
  · split
    · exact fun h => absurd h Bool.false_ne_true
    · exact fun h => ⟨h, fun _ => nofun⟩
  · exact .refl r

theorem markFalls_ackRow (b : Bool) (r : FaultRow) : MarkFalls r (ackRow b r) := by
  unfold ackRow
  split
  · exact fun h => absurd h Bool.false_ne_true
  · exact .of_eq rfl rfl
  · exact .refl r

theorem markFalls_classRow (before after : FaultClass) (r : FaultRow) : MarkFalls r (classRow before after r) := by
  unfold classRow
  repeat' split
  all_goals exact .of_eq rfl rfl

theorem markFalls_resetCount (r : FaultRow) : MarkFalls r (resetCount r) := by
  unfold resetCount
  split <;> exact .of_eq rfl rfl

theorem markFalls_without (k : Nat) (r : FaultRow) : MarkFalls r (r.without k) := by
  unfold FaultRow.without
  split <;> exact .of_eq rfl rfl

/-- A change of the rows that gives no row the mark, and leaves none that it makes Clear with it. -/
theorem FirstFaultSound.of_rows {s t : State} (h : FirstFaultSound s) (hlen : t.faults.rows.length = s.faults.rows.length)
    (hrow : ∀ i, MarkFalls (rowAt s i) (rowAt t i)) : FirstFaultSound t := by
  obtain ⟨hrows, htrip, hone⟩ := h
  refine ⟨hlen.trans hrows, fun i hi => ?_, fun i j hi hj => hone i j (hrow i hi).1 (hrow j hj).1⟩
  obtain ⟨hmark, hheld⟩ := hrow i hi
  obtain ⟨hc, hstate⟩ := htrip i hmark
  exact ⟨hc, hheld hstate⟩

/-- One row changed; beyond the table there is none. -/
theorem getD_updateAt {f : FaultRow → FaultRow} (hf : f .blank = .blank) (rows : List FaultRow) (i j : Nat) :
    (updateAt rows i f).getD j .blank = if i = j then f (rows.getD j .blank) else rows.getD j .blank := by
  simp only [updateAt, List.getD_eq_getElem?_getD, List.getElem?_modify]
  cases rows[j]? with
  | none => simp [hf]
  | some r => split <;> rfl

/-- Every row changed by its index; beyond the table there is none. -/
theorem getD_mapIdx {f : Nat → FaultRow → FaultRow} (hf : ∀ i, f i .blank = .blank) (rows : List FaultRow) (i : Nat) :
    (rows.mapIdx f).getD i .blank = f i (rows.getD i .blank) := by
  simp only [List.getD_eq_getElem?_getD, List.getElem?_mapIdx]
  cases rows[i]? with
  | none => exact (hf i).symm
  | some r => rfl

theorem FirstFaultSound.of_updateAt {s : State} (h : FirstFaultSound s) {i : Nat} {f : FaultRow → FaultRow}
    (hblank : f .blank = .blank) (hf : ∀ r, MarkFalls r (f r)) :
    FirstFaultSound { s with faults := { s.faults with rows := updateAt s.faults.rows i f } } := by
  refine h.of_rows (by simp [updateAt]) fun j => ?_
  have hrow : rowAt { s with faults := { s.faults with rows := updateAt s.faults.rows i f } } j =
      if i = j then f (rowAt s j) else rowAt s j := getD_updateAt hblank ..
  rw [hrow]
  split
  · exact hf _
  · exact .refl _

theorem FirstFaultSound.of_mapIdx {s : State} (h : FirstFaultSound s) {f : Nat → FaultRow → FaultRow}
    (hblank : ∀ i, f i .blank = .blank) (hf : ∀ i r, MarkFalls r (f i r)) :
    FirstFaultSound { s with faults := { s.faults with rows := s.faults.rows.mapIdx f } } := by
  refine h.of_rows (by simp) fun i => ?_
  have hrow : rowAt { s with faults := { s.faults with rows := s.faults.rows.mapIdx f } } i = f i (rowAt s i) :=
    getD_mapIdx hblank ..
  rw [hrow]
  exact hf i _

theorem clearRow_blank (b : Bool) : clearRow b .blank = .blank := rfl
theorem ackRow_blank (b : Bool) : ackRow b .blank = .blank := rfl

theorem ackRow_of_latched {b : Bool} {r : FaultRow} (h : r.state = .latched) :
    ackRow b r = { r with state := .clear, firstMark := false, pending := r.pending || b } := by
  simp only [ackRow, h]

theorem ackRow_of_active {b : Bool} {r : FaultRow} (h : r.state = .active) : ackRow b r = { r with ack := true } := by
  simp only [ackRow, h]

theorem ackRow_of_clear {b : Bool} {r : FaultRow} (h : r.state = .clear) : ackRow b r = r := by
  simp only [ackRow, h]

theorem rowAt_ackAt_self (i : Nat) (s : State) :
    rowAt (ackAt i s) i = ackRow (classOf s (codeOfRow i) ≠ .record) (rowAt s i) :=
  (getD_updateAt (ackRow_blank _) _ i i).trans (if_pos rfl)

theorem resetCount_blank : resetCount .blank = .blank := rfl

theorem classRow_blank (before after : FaultClass) : classRow before after .blank = .blank := by
  unfold classRow
  split
  · rfl
  · exact if_neg fun h => h.2 rfl

theorem firstFaultSound_clearFault {s : State} (h : FirstFaultSound s) (c : FaultCode) (u : Nat) :
    FirstFaultSound (clearFault c u s) := h.of_updateAt (clearRow_blank _) (markFalls_clearRow _)

theorem firstFaultSound_ackAt {s : State} (h : FirstFaultSound s) (i : Nat) : FirstFaultSound (ackAt i s) :=
  h.of_updateAt (ackRow_blank _) (markFalls_ackRow _)

theorem firstFaultSound_clearPending {s : State} (h : FirstFaultSound s) (i : Nat) : FirstFaultSound (clearPending i s) :=
  h.of_updateAt (f := fun r => { r with pending := false }) rfl fun _ => .of_eq rfl rfl

theorem firstFaultSound_ackWhere {s : State} (h : FirstFaultSound s) (p : Nat → FaultRow → Bool) :
    FirstFaultSound (ackWhere p s) := by
  refine h.of_mapIdx (fun i => ?_) fun i r => ?_
  · exact ite_eq_right_iff.mpr fun _ => ackRow_blank _
  · split
    · exact markFalls_ackRow _ r
    · exact .refl r

theorem firstFaultSound_changeClass {s : State} (h : FirstFaultSound s) (c : FaultCode) (cls : FaultClass) :
    FirstFaultSound (changeClass c cls s) := by
  refine FirstFaultSound.of_mapIdx (s := modWorking _ s) h (fun i => ?_) fun i r => ?_
  · exact ite_eq_right_iff.mpr fun _ => classRow_blank _ _
  · split
    · exact markFalls_classRow _ _ r
    · exact .refl r

/-- The counts of the rows that `p` picks reset (R165). -/
def resetWhere (p : Nat → Bool) (t : FaultTable) : FaultTable :=
  { t with rows := t.rows.mapIdx fun i r => if p i then resetCount r else r }

theorem firstFaultSound_resetWhere {s : State} (h : FirstFaultSound s) (p : Nat → Bool) :
    FirstFaultSound { s with faults := resetWhere p s.faults } := by
  refine h.of_mapIdx (fun i => ?_) fun i r => ?_
  · exact ite_eq_right_iff.mpr fun _ => resetCount_blank
  · split
    · exact markFalls_resetCount r
    · exact .refl r

theorem firstFaultSound_freeSlot {s : State} (h : FirstFaultSound s) (k : Nat) :
    FirstFaultSound { s with faults := freeSlot k s.faults } := by
  refine h.of_rows (by simp [freeSlot, detachSlot]) fun i => ?_
  have hrow : rowAt { s with faults := freeSlot k s.faults } i = (rowAt s i).without k := detachSlot_getD ..
  rw [hrow]
  exact markFalls_without k _

/-- A raised row takes the mark only where no other row can carry it. -/
theorem firstFaultSound_raise {s : State} (h : FirstFaultSound s) (c : FaultCode) (u : Nat) :
    FirstFaultSound (raise c u s) := by
  by_cases ha : (rowAt s (rowOf c u)).state = .active
  · rw [raise_of_active ha]; exact h
  by_cases hlt : rowOf c u < 79
  · obtain ⟨hlen, htrip, hone⟩ := id h
    have hlast {i : Nat} (hi : (rowAt (raise c u s) i).firstMark = true) (hne : i ≠ rowOf c u) :
        (rowAt s i).firstMark = true := (raise_mark_ne hne s).symm.trans hi
    have halone {i : Nat} (hself : (rowAt (raise c u s) (rowOf c u)).firstMark = true)
        (hi : (rowAt s i).firstMark = true) : i = rowOf c u := by
      by_contra hne
      obtain ⟨hc, hheld⟩ := htrip i hi
      rcases (raise_mark_self hlen ha hlt).mp hself with hmark | ⟨-, hfree⟩
      · exact hne (hone _ _ hi hmark)
      · exact hfree ⟨i, hne, hc, hheld⟩
    refine ⟨(raise_rows_length c u s).trans hlen, fun i hi => ?_, fun i j hi hj => ?_⟩
    · by_cases hne : i = rowOf c u
      · subst hne
        refine ⟨?_, by rw [raise_state_self (hlen ▸ hlt)]; decide⟩
        rcases (raise_mark_self hlen ha hlt).mp hi with hmark | ⟨hc, -⟩
        · exact (htrip _ hmark).1
        · exact hc
      · rw [raise_state_ne (Ne.symm hne)]
        exact htrip i (hlast hi hne)
    · by_cases hi' : i = rowOf c u
      · subst hi'
        by_contra hne
        exact hne (halone hi (hlast hj (Ne.symm hne))).symm
      · by_cases hj' : j = rowOf c u
        · subst hj'
          exact halone hj (hlast hi hi')
        · exact hone i j (hlast hi hi') (hlast hj hj')
  · refine h.of_rows (raise_rows_length c u s) fun i hi => ?_
    obtain ⟨hstate, -, -, -, -, -, hmark⟩ := fields_of_bare (raise_bare_outside ha (by rw [h.1]; omega) i)
    exact ⟨hmark.symm.trans hi, fun hheld => by rwa [hstate]⟩

end Sys2Proof.Machine

/-! SUPPORT. The fault table walked once for any predicate on it: what raises, clears, acknowledgements,
notices taken, class changes and the two clearing requests keep, every command keeps (R151 to R166). -/

namespace Sys2Proof.Machine

/-- The fault table of a state meets `P`. -/
def HasTable (P : FaultTable → Prop) (s : State) : Prop := P s.faults

theorem HasTable.congr {P : FaultTable → Prop} {s t : State} (hfaults : t.faults = s.faults) (h : HasTable P s) :
    HasTable P t := by
  rw [HasTable, hfaults]; exact h

/-- Whatever the model does to a fault table keeps `P`. -/
structure TableKeeps (P : FaultTable → Prop) : Prop where
  raised : ∀ {s c u}, HasTable P s → HasTable P (raise c u s)
  cleared : ∀ {s c u}, HasTable P s → HasTable P (clearFault c u s)
  acked : ∀ {s p}, HasTable P s → HasTable P (ackWhere p s)
  taken : ∀ {s i}, HasTable P s → HasTable P (clearPending i s)
  classed : ∀ {s c cls}, HasTable P s → HasTable P (changeClass c cls s)
  freed : ∀ {t k}, P t → P (freeSlot k t)
  counted : ∀ {t p}, P t → P (resetWhere p t)
  reset : P FaultTable.atStart

/-! ## Operations that leave the fault table -/

theorem judgeCharger_faults (s : State) : (judgeCharger s).faults = s.faults := by
  unfold judgeCharger
  repeat' split
  all_goals rfl

theorem auxOnNormal_faults (s : State) : (auxOnNormal s).faults = s.faults := by
  unfold auxOnNormal; split <;> rfl

theorem chargeSuccess_faults (k : StringId) (s : State) : (chargeSuccess k s).faults = s.faults := by
  unfold chargeSuccess; split <;> rfl

theorem disableString_faults (k : StringId) (s : State) : (disableString k s).faults = s.faults := by
  have henabled (t : State) : (modStr k (fun r => { r with enabled := false }) t).faults = t.faults := rfl
  rw [disableString, henabled]
  split <;> rfl

theorem enableString_faults (k : StringId) (s : State) : (enableString k s).faults = s.faults := by
  rw [enableString, testJoin_faults]
  split <;> rfl

theorem releaseStep_faults (k : StringId) (s : State) : (releaseStep k s).faults = s.faults := by
  unfold releaseStep
  repeat' split
  all_goals rfl

theorem runStep_faults (k : StringId) (s : State) : (runStep k s).faults = s.faults := by
  unfold runStep; split <;> rfl

theorem limitStep_faults (k : StringId) (s : State) : (limitStep k s).faults = s.faults := by
  simp only [limitStep]; split <;> rfl

theorem sharingStep_faults (s : State) : (sharingStep s).faults = s.faults := by
  unfold sharingStep; split <;> rfl

theorem completeStop_faults (k : StringId) (s : State) : (completeStop k s).faults = s.faults := by
  unfold completeStop
  extract_lets r t opened
  repeat' split
  all_goals rfl

theorem stoppingStep_faults (k : StringId) (s : State) : (stoppingStep k s).faults = s.faults := by
  unfold stoppingStep
  extract_lets n t
  repeat' split
  · exact completeStop_faults k s
  · exact completeStop_faults k t
  · rfl
  · rfl

theorem joinEntered_faults (before : State) (k : StringId) (s : State) : (joinEntered before k s).faults = s.faults := by
  unfold joinEntered
  split
  · exact testJoin_faults k s
  · rfl

theorem testJoins_faults (l : List StringId) (s : State) : (testJoins l s).faults = s.faults :=
  forEach_field (g := State.faults) testJoin_faults l s

theorem stringsOnMode_faults (b : Bool) (m : Mode) (target : Option Mode) (s : State) :
    (stringsOnMode b m target s).faults = s.faults := by
  unfold stringsOnMode
  repeat' split
  all_goals simp only [stopStrings_faults, testJoins_faults]

theorem followFanClaim_faults (l : Liquid) (s : State) : (followFanClaim l s).faults = s.faults := by
  simp only [followFanClaim]
  repeat' split
  all_goals rfl

theorem followFanClaim3_faults (s : State) : (followFanClaim3 s).faults = s.faults := by
  unfold followFanClaim3; split <;> rfl

theorem proofSuccess_faults (l : Liquid) (s : State) : (proofSuccess l s).faults = s.faults := by
  simp only [proofSuccess]
  split
  · rfl
  · rw [followFanClaim_faults]; rfl

theorem beginTrial_faults (l : Liquid) (p : Pump) (role : PumpRole) (s : State) :
    (beginTrial l p role s).faults = s.faults := by
  simp only [beginTrial]
  split
  · rw [proofSuccess_faults]; rfl
  · rfl

theorem startLoop_faults (l : Liquid) (s : State) : (startLoop l s).faults = s.faults := by
  unfold startLoop
  split
  · exact beginTrial_faults ..
  · rfl

theorem flowChange_faults (l : Liquid) (flow : Bool) (s : State) : (flowChange l flow s).faults = s.faults := by
  simp only [flowChange]
  repeat' split
  all_goals simp only [proofSuccess_faults, modLoop_faults]

theorem followSelection_faults (l : Liquid) (n : Nat) (s : State) : (followSelection l n s).faults = s.faults := by
  rw [followSelection, followFanClaim_faults]; rfl

theorem evaluateAir_faults (s : State) : (evaluateAir s).faults = s.faults := by
  simp only [evaluateAir]
  repeat' split
  all_goals simp only [followFanClaim3_faults, submitClaim_faults, modAir_faults]

theorem runOnExpires_faults (l : Liquid) (s : State) : (runOnExpires l s).faults = s.faults := by
  unfold runOnExpires
  split
  · exact followFanClaim_faults l _
  · rfl

theorem evaluateHeaters_faults (humidity : Int) (s : State) : (evaluateHeaters humidity s).faults = s.faults := by
  simp only [evaluateHeaters, apply_ite State.faults, submitClaim_faults, withdrawClaim_faults, ite_self]

theorem modFan_faults (f : FanId) (g : FanChannel → FanChannel) (s : State) : (modFan f g s).faults = s.faults := by
  cases f <;> rfl

theorem fanFails_faults (f : FanId) (s : State) : (fanFails f s).faults = s.faults := by
  simp only [fanFails]
  split
  · split
    · exact (followFanClaim_faults .l1 _).trans (modFan_faults _ _ s)
    · exact (followFanClaim_faults .l2 _).trans (modFan_faults _ _ s)
    · exact (followFanClaim3_faults _).trans (modFan_faults _ _ s)
  · rfl

theorem returnFans_faults (l : LoopId) (s : State) : (returnFans l s).faults = s.faults := by
  cases l
  · exact followFanClaim_faults .l1 _
  · exact followFanClaim_faults .l2 _
  · exact followFanClaim3_faults _

theorem runningStop_faults (s : State) : (runningStop s).faults = s.faults := by
  unfold runningStop
  repeat' split
  all_goals rfl

theorem completeWaiting_faults (s : State) : (completeWaiting s).faults = s.faults := rfl

theorem forcedStop_faults (s : State) : (forcedStop s).faults = s.faults := by
  unfold forcedStop
  repeat' split
  all_goals rfl

theorem rampSettles_faults (s : State) : (rampSettles s).faults = s.faults := by
  unfold rampSettles; split <;> rfl

theorem startClearanceMove_faults (n : Nat) (x : Int) (s : State) : (startClearanceMove n x s).faults = s.faults := by
  simp only [startClearanceMove]; split <;> rfl

theorem carryStop_faults (s : State) (x : Int) : (carryStop s x).faults = s.faults := by
  unfold carryStop
  repeat' split
  all_goals rfl

theorem jog_faults (d : Dir) (s : State) : (jog d s).faults = s.faults := by
  simp only [jog, modYaw]
  split <;> rfl

theorem goTo_faults (x target : Int) (s : State) : (goTo x target s).faults = s.faults := by
  unfold goTo
  extract_lets t
  repeat' split
  all_goals rfl

theorem pressJog_faults (d : Dir) (s : State) : (pressJog d s).faults = s.faults := by
  simp only [pressJog]
  split
  · refine (jog_faults d _).trans ?_
    split <;> rfl
  · rfl

theorem qHoldEnds_faults (s : State) : (qHoldEnds s).faults = s.faults := by
  unfold qHoldEnds; split <;> rfl

theorem setMonitor_faults (m : MonitorId) (x : Monitor) (s : State) : (setMonitor m x s).faults = s.faults := by
  cases m <;> rfl

theorem accountCharger_faults (s : State) : (accountCharger s).faults = s.faults := by
  unfold accountCharger
  split
  · rfl
  · exact judgeCharger_faults s

theorem watchProof_faults (p : BrakeProof) (present : Bool) (s : State) : (watchProof p present s).faults = s.faults := by
  unfold watchProof; split <;> rfl

end Sys2Proof.Machine

/-! SUPPORT. The fault table walked once, continued: the budget, the converter, cooling, yaw and mode. -/

namespace Sys2Proof.Machine

section
variable {P : FaultTable → Prop} (hP : TableKeeps P) {s : State}
include hP

/-! ## Rows that follow a condition -/

theorem TableKeeps.after_setFault {c : FaultCode} {u : Nat} {b : Bool} (h : HasTable P s) :
    HasTable P (setFault c u b s) := by
  cases b
  · exact hP.cleared h
  · exact hP.raised h

theorem TableKeeps.after_rowAct {a : RowAct} {c : FaultCode} {u : Nat} (h : HasTable P s) :
    HasTable P (rowAct a c u s) := by
  cases a
  · exact hP.raised h
  · exact hP.cleared h
  · exact h

/-! ## Budget -/

theorem TableKeeps.after_judgeRevoked {before : Claims} (h : HasTable P s) : HasTable P (judgeRevoked before s) := by
  unfold judgeRevoked
  split
  · exact hP.raised h
  · split
    · exact h
    · exact hP.cleared h

theorem TableKeeps.after_runWalk (h : HasTable P s) : HasTable P (runWalk s) := hP.after_judgeRevoked h

theorem TableKeeps.after_writeMarks {low critical : Bool} (h : HasTable P s) :
    HasTable P (writeMarks low critical s) := by
  simp only [writeMarks]
  repeat' split
  · exact hP.after_setFault (hP.after_setFault h)
  · exact hP.after_setFault h
  · exact hP.after_setFault h
  · exact h

theorem TableKeeps.after_judgeMarks (h : HasTable P s) : HasTable P (judgeMarks s) := hP.after_writeMarks h

theorem TableKeeps.after_sourceToBattery (h : HasTable P s) : HasTable P (sourceToBattery s) := by
  simp only [sourceToBattery]
  split
  · exact hP.cleared h
  · exact h

theorem TableKeeps.after_sourceToGrid (h : HasTable P s) : HasTable P (sourceToGrid s) := by
  refine .congr (judgeCharger_faults _) ?_
  split
  · exact hP.cleared h
  · exact h

theorem TableKeeps.after_auxOnDip (h : HasTable P s) : HasTable P (auxOnDip s) := by
  unfold auxOnDip
  split
  · exact hP.raised h
  · exact h
  · exact h

theorem TableKeeps.after_auxOnRecovering (h : HasTable P s) : HasTable P (auxOnRecovering s) := by
  unfold auxOnRecovering
  split
  · exact h
  · exact hP.after_sourceToGrid h
  · exact h

theorem TableKeeps.after_auxOnLost (h : HasTable P s) : HasTable P (auxOnLost s) := by
  unfold auxOnLost
  split
  · exact hP.after_sourceToBattery h
  · exact hP.after_sourceToBattery h
  · exact h

/-! ## Converter supervisor -/

theorem TableKeeps.after_tripString {c : FaultCode} {k : StringId} (h : HasTable P s) : HasTable P (tripString c k s) :=
  .congr (faultString_faults k _) (hP.raised h)

theorem TableKeeps.after_testCurrent {k : StringId} {n : Nat} (h : HasTable P s) : HasTable P (testCurrent k n s) := by
  simp only [testCurrent]
  split
  · split
    · exact hP.after_tripString h
    · exact h
  · exact hP.cleared h

theorem TableKeeps.after_testDcLink {k : StringId} (h : HasTable P s) : HasTable P (testDcLink k s) := by
  unfold testDcLink
  split
  · exact hP.after_tripString h
  · split
    · exact hP.cleared h
    · exact h

theorem TableKeeps.after_testGate {k : StringId} {b : Bool} (h : HasTable P s) : HasTable P (testGate k b s) := by
  unfold testGate
  split
  · exact hP.after_tripString h
  · exact hP.cleared h

theorem TableKeeps.after_takeReport {k : StringId} {i u : Nat} {b : Bool} (h : HasTable P s) :
    HasTable P (takeReport k i u b s) := by
  simp only [takeReport]
  split
  · exact h
  · refine .congr (chargeSuccess_faults k _) ?_
    exact hP.after_testGate (hP.after_testDcLink (hP.after_testCurrent h))

theorem TableKeeps.after_timeoutPrecharge {k : StringId} (h : HasTable P s) : HasTable P (timeoutPrecharge k s) := by
  unfold timeoutPrecharge
  split
  · exact hP.after_tripString h
  · exact h

theorem TableKeeps.after_silenceStep {k : StringId} (h : HasTable P s) : HasTable P (silenceStep k s) := by
  simp only [silenceStep]
  split
  · exact h
  · split
    · exact hP.after_tripString h
    · exact h

theorem TableKeeps.after_beforeSharing (h : HasTable P s) : HasTable P (beforeSharing s) := by
  refine .congr (forEach_field (g := State.faults) limitStep_faults _ _) ?_
  refine .congr (forEach_field (g := State.faults) runStep_faults _ _) ?_
  refine .congr (forEach_field (g := State.faults) releaseStep_faults _ _) ?_
  refine forEach_keeps (fun _ _ ht => hP.cleared ht) _ _ ?_
  exact forEach_keeps (fun _ _ ht => hP.after_silenceStep ht) _ _ h

theorem TableKeeps.after_shareInterval (h : HasTable P s) : HasTable P (shareInterval s) := by
  have hcommands (t : State) : (commandStep t).faults = t.faults := rfl
  refine .congr (s := beforeSharing s) ?_ (hP.after_beforeSharing h)
  simp only [shareInterval, hcommands, forEach_field (g := State.faults) (joinEntered_faults s),
    forEach_field (g := State.faults) stoppingStep_faults, sharingStep_faults]

/-! ## Thermal model and cooling controller -/

theorem TableKeeps.after_readInlet {l : Liquid} {x : Int} (h : HasTable P s) :
    HasTable P (readInlet l x s) := hP.after_rowAct h

theorem TableKeeps.after_substituteInlet {l : Liquid} (h : HasTable P s) : HasTable P (substituteInlet l s) := by
  simp only [substituteInlet]
  split
  · exact hP.raised h
  · exact h

theorem TableKeeps.after_testJunction {k : StringId} (h : HasTable P s) : HasTable P (testJunction k s) := by
  simp only [testJunction]
  split
  · split
    · exact h
    · exact hP.after_tripString h
  · split
    · exact hP.cleared h
    · exact h

theorem TableKeeps.after_testDerate {k : StringId} (h : HasTable P s) : HasTable P (testDerate k s) := by
  unfold testDerate
  split
  · split
    · exact h
    · exact hP.raised h
  · exact hP.cleared h

theorem TableKeeps.after_thermalInterval {x y : Int} (h : HasTable P s) : HasTable P (thermalInterval x y s) := by
  have hread : HasTable P (readInlet .l2 y (readInlet .l1 x (countInterval s))) :=
    hP.after_readInlet (hP.after_readInlet h)
  rw [thermalInterval_steps]
  have hloads (t : State) : (formHeatLoads t).faults = t.faults := rfl
  exact .congr (hloads _) (forEach_keeps (fun _ _ ht => hP.after_testDerate (hP.after_testJunction ht)) _ _ hread)

theorem TableKeeps.after_applyThermalSettings (h : HasTable P s) : HasTable P (applyThermalSettings s) :=
  forEach_keeps (fun k t ht => hP.after_testDerate (hP.after_testJunction (s := relimit k t) ht)) _ _ h

theorem TableKeeps.after_loopOff {l : Liquid} (h : HasTable P s) : HasTable P (loopOff l s) := hP.cleared h

theorem TableKeeps.after_pumpGrantLost {l : Liquid} (h : HasTable P s) : HasTable P (pumpGrantLost l s) := by
  unfold pumpGrantLost
  split
  · exact hP.cleared h
  · exact h

theorem TableKeeps.after_loopFail {l : Liquid} (h : HasTable P s) : HasTable P (loopFail l s) := by
  refine .congr (s := raise .loopFailed l.num s) ?_ (hP.raised h)
  exact forEach_field (g := State.faults) (stopOne_faults true) _ _

theorem TableKeeps.after_standbyTrial {l : Liquid} (h : HasTable P s) : HasTable P (standbyTrial l s) := 
  .congr (beginTrial_faults ..) (hP.raised h)

theorem TableKeeps.after_pumpFails {l : Liquid} (h : HasTable P s) : HasTable P (pumpFails l s) := by
  unfold pumpFails
  split
  · exact hP.after_loopFail h
  · exact hP.after_standbyTrial h

theorem TableKeeps.after_proofTimeout {l : Liquid} (h : HasTable P s) : HasTable P (proofTimeout l s) := by
  unfold proofTimeout
  split
  · exact hP.after_pumpFails h
  · exact h

theorem TableKeeps.after_dropTimeout {l : Liquid} (h : HasTable P s) : HasTable P (dropTimeout l s) := by
  unfold dropTimeout
  split
  · exact hP.after_pumpFails h
  · exact h

theorem TableKeeps.after_judgeLoop {l : Liquid} (h : HasTable P s) : HasTable P (judgeLoop l s) := by
  simp only [judgeLoop]
  split
  · split
    · exact h
    · split
      · split <;> exact h
      · split
        · exact hP.after_loopOff h
        · exact h
  · exact h

theorem TableKeeps.after_judgeLoops (h : HasTable P s) :
    HasTable P (judgeLoops s) := hP.after_judgeLoop (hP.after_judgeLoop h)

theorem TableKeeps.after_evaluateFailed {l : Liquid} (h : HasTable P s) : HasTable P (evaluateFailed l s) := by
  simp only [evaluateFailed]
  split
  · refine .congr (testJoins_faults _ _) ?_
    have hreleased : P (clearFault .loopFlow l.num
        (modLoop l (fun r => { r with state := .off }) (clearFault .loopFailed l.num s))).faults :=
      hP.cleared (hP.cleared h)
    exact hreleased
  · exact hP.cleared h

theorem TableKeeps.after_evaluateLoop {l : Liquid} {x : Int} (h : HasTable P s) : HasTable P (evaluateLoop l x s) := by
  unfold evaluateLoop
  extract_lets t
  have ht : HasTable P t := h
  split
  · exact hP.after_evaluateFailed ht
  · split
    · exact .congr (followSelection_faults ..) ht
    · exact ht

theorem TableKeeps.after_readAir {x : Int} (h : HasTable P s) : HasTable P (readAir x s) := hP.after_rowAct h

theorem TableKeeps.after_airOff (h : HasTable P s) : HasTable P (airOff s) := hP.cleared h

theorem TableKeeps.after_runOnExpires3 (h : HasTable P s) : HasTable P (runOnExpires3 s) := by
  simp only [runOnExpires3]
  split
  · split
    · exact hP.after_airOff h
    · exact .congr (followFanClaim3_faults _) h
  · exact h

theorem TableKeeps.after_runOnOf {l : LoopId} (h : HasTable P s) : HasTable P (runOnOf l s) := by
  cases l
  · exact .congr (runOnExpires_faults .l1 s) h
  · exact .congr (runOnExpires_faults .l2 s) h
  · exact hP.after_runOnExpires3 h

theorem TableKeeps.after_setClamp {l : Liquid} (h : HasTable P s) : HasTable P (setClamp l s) := hP.after_setFault h

theorem TableKeeps.after_limitAir (h : HasTable P s) : HasTable P (limitAir s) := by
  unfold limitAir
  split
  · exact h
  · exact hP.after_setFault h

theorem TableKeeps.after_clampLoops (h : HasTable P s) :
    HasTable P (clampLoops s) := hP.after_limitAir (hP.after_setClamp (hP.after_setClamp h))

theorem TableKeeps.after_evaluateCooling {a b air x : Int} (h : HasTable P s) :
    HasTable P (evaluateCooling a b air x s) := by
  refine .congr ((evaluateHeaters_faults _ _).trans (evaluateAir_faults _)) ?_
  have hloops {t : State} (ht : HasTable P t) : HasTable P (evaluateLoop .l2 b (evaluateLoop .l1 a t)) :=
    hP.after_evaluateLoop (hP.after_evaluateLoop ht)
  exact hP.after_readAir (hloops h)

/-! ## Yaw controller -/

theorem TableKeeps.after_judgeDrives (h : HasTable P s) : HasTable P (judgeDrives s) := hP.after_setFault h

theorem TableKeeps.after_raiseTwistHard (h : HasTable P s) :
    HasTable P (raiseTwistHard s) := hP.raised (c := .twistHard) (u := 1) h

theorem TableKeeps.after_judgeDwell {k : Option MoveKind} {forced : Bool} (h : HasTable P s) :
    HasTable P (judgeDwell k forced s) := by
  unfold judgeDwell
  split
  · exact h
  · split
    · split
      · exact hP.raised h
      · exact h
    · split
      · exact hP.cleared h
      · exact h

theorem TableKeeps.after_stopWaiting (h : HasTable P s) : HasTable P (stopWaiting s) := hP.after_judgeDwell h

theorem TableKeeps.after_completeMove {forced : Bool} (h : HasTable P s) :
    HasTable P (completeMove forced s) := hP.after_judgeDwell h

theorem TableKeeps.after_normalStop (h : HasTable P s) : HasTable P (normalStop s) := by
  unfold normalStop
  split
  · exact hP.after_stopWaiting h
  · exact .congr (runningStop_faults s) h

theorem TableKeeps.after_stopKind {k : MoveKind} (h : HasTable P s) : HasTable P (stopKind k s) := by
  unfold stopKind
  split
  · exact hP.after_normalStop h
  · exact h

theorem TableKeeps.after_brakeFailed (h : HasTable P s) : HasTable P (brakeFailed s) := by
  unfold brakeFailed
  extract_lets t u
  have ht : HasTable P t := hP.raised h
  have hu : HasTable P u := by
    unfold u
    split
    · exact .congr (completeWaiting_faults t) ht
    · exact ht
  split
  · exact hu
  · exact hP.after_completeMove ht

theorem TableKeeps.after_ventSettles (h : HasTable P s) : HasTable P (ventSettles s) := by
  unfold ventSettles
  split
  · split
    · exact h
    · exact hP.after_brakeFailed h
  · exact h

theorem TableKeeps.after_pressurizeSettles (h : HasTable P s) : HasTable P (pressurizeSettles s) := by
  unfold pressurizeSettles
  split
  · split
    · exact hP.after_completeMove h
    · exact hP.after_brakeFailed h
  · exact h

theorem TableKeeps.after_proofLost {p : BrakeProof} (h : HasTable P s) : HasTable P (proofLost p s) := by
  unfold proofLost
  split
  all_goals
    split
    · exact hP.after_brakeFailed h
    · exact h

theorem TableKeeps.after_startUntwist {x : Int} (h : HasTable P s) : HasTable P (startUntwist x s) :=
  hP.cleared (c := .untwistDue) (u := 1)
    (s := modYaw (fun y => { y with
      untwist := { y.untwist with ready := false, wait := none, inFlight := true }, mode := .untwist }) s) h

theorem TableKeeps.after_stopUntwistWait (h : HasTable P s) : HasTable P (stopUntwistWait s) := hP.cleared h

theorem TableKeeps.after_twistSensorFails (h : HasTable P s) : HasTable P (twistSensorFails s) := by
  refine .congr (sensorStop_faults _) ?_
  have hraised : HasTable P (raise .twistSensor 1 s) := hP.raised h
  exact hP.after_stopUntwistWait hraised

theorem TableKeeps.after_applyHardLimit (h : HasTable P s) : HasTable P (applyHardLimit s) := by
  unfold applyHardLimit
  split
  · exact h
  · split
    · split
      · split
        · simp only
          split
          · exact hP.after_raiseTwistHard (hP.after_stopWaiting h)
          · exact hP.after_stopWaiting h
        · exact h
      · exact h
      · exact hP.after_raiseTwistHard h
      · exact h
      · exact h
    · exact h

theorem TableKeeps.after_judgeSoftLimit (h : HasTable P s) : HasTable P (judgeSoftLimit s) := by
  unfold judgeSoftLimit
  split
  · split
    · exact hP.raised (c := .twistSoft) (u := 1) h
    · exact h
  · exact h

theorem TableKeeps.after_judgeUntwistEnd (h : HasTable P s) : HasTable P (judgeUntwistEnd s) := by
  unfold judgeUntwistEnd
  split
  · split
    · exact hP.cleared (hP.cleared (hP.cleared h))
    · exact h
  · exact h

theorem TableKeeps.after_applyTheta (h : HasTable P s) : HasTable P (applyTheta s) := by
  have hlimits : HasTable P (judgeUntwistEnd (judgeSoftLimit (applyHardLimit s))) :=
    hP.after_judgeUntwistEnd (hP.after_judgeSoftLimit (hP.after_applyHardLimit h))
  simp only [applyTheta]
  split
  · exact hlimits
  · refine .congr (carryStop_faults _ _) ?_
    split
    · exact hP.after_normalStop hlimits
    · exact hlimits

theorem TableKeeps.after_encoderUpdate {r : EncoderReading} (h : HasTable P s) : HasTable P (encoderUpdate r s) := by
  unfold encoderUpdate
  extract_lets t
  have ht : HasTable P t := h
  split
  · exact hP.after_twistSensorFails ht
  · extract_lets new u
    have hu : HasTable P u := ht
    split
    · split
      · exact hP.after_twistSensorFails hu
      · exact hP.after_applyTheta hu
    · exact ht

theorem TableKeeps.after_sampleVanes {a b : Reading} {wind : Nat} (h : HasTable P s) :
    HasTable P (sampleVanes a b wind s) := by
  have hboth (x y : Bool) {t : State} (ht : HasTable P t) :
      HasTable P (setFault .vaneFault 2 x (setFault .vaneFault 1 y t)) := hP.after_setFault (hP.after_setFault ht)
  unfold sampleVanes
  extract_lets
  repeat' split
  · exact hP.raised (hboth _ _ h)
  · exact hP.cleared (hboth _ _ h)
  · exact hboth _ _ h

theorem TableKeeps.after_sampleWind {a b : Reading} {wind : Nat} (h : HasTable P s) :
    HasTable P (sampleWind a b wind s) := by
  have hmeans (t : State) : (formCap (formMeans t)).faults = t.faults := rfl
  exact .congr (hmeans _) (hP.after_sampleVanes h)

theorem TableKeeps.after_clearBrakeFault (h : HasTable P s) : HasTable P (clearBrakeFault s) := by
  unfold clearBrakeFault
  split
  · exact hP.cleared h
  · exact h

theorem TableKeeps.after_testStops (h : HasTable P s) : HasTable P (testStops s) := by
  unfold testStops
  split
  · exact hP.after_normalStop h
  · split <;> exact h

theorem TableKeeps.after_testUntwistWait {wind : Nat} (h : HasTable P s) : HasTable P (testUntwistWait wind s) := by
  simp only [testUntwistWait]
  split
  · split
    · split
      · exact hP.cleared h
      · exact h
    · split <;> exact h
  · exact h

theorem TableKeeps.after_testAutoStart (h : HasTable P s) : HasTable P (testAutoStart s) := by
  unfold testAutoStart
  split
  · split
    · exact h
    · split
      · exact hP.after_raiseTwistHard h
      · exact h
  · exact h

theorem TableKeeps.after_testStarts (h : HasTable P s) : HasTable P (testStarts s) := by
  unfold testStarts
  split
  · split
    · exact hP.after_startUntwist h
    · exact h
  · exact hP.after_testAutoStart h

theorem TableKeeps.after_testClearance (h : HasTable P s) : HasTable P (testClearance s) := by
  unfold testClearance
  split
  · exact h
  · split
    · exact h
    · split
      · exact hP.cleared h
      · exact .congr (startClearanceMove_faults ..) h

theorem TableKeeps.after_sampleMotion {wind : Nat} (h : HasTable P s) : HasTable P (sampleMotion wind s) := by
  have htested : HasTable P (testUntwistWait wind (testStops s)) := hP.after_testUntwistWait (hP.after_testStops h)
  simp only [sampleMotion]
  split
  · exact hP.after_testClearance htested
  · exact hP.after_testStarts htested

theorem TableKeeps.after_manualStop (h : HasTable P s) : HasTable P (manualStop s) := hP.after_normalStop h

theorem TableKeeps.after_manualAuto (h : HasTable P s) : HasTable P (manualAuto s) := by
  simp only [manualAuto]
  split
  · exact hP.after_normalStop h
  · exact h

theorem TableKeeps.after_setOwner {o : Owner} (h : HasTable P s) : HasTable P (setOwner o s) := by
  simp only [setOwner]
  split
  · exact h
  · exact hP.after_stopKind h

theorem TableKeeps.after_releaseJog {d : Dir} (h : HasTable P s) : HasTable P (releaseJog d s) := by
  unfold releaseJog
  split
  · exact hP.after_normalStop h
  · exact h

theorem TableKeeps.after_manualTimeout (h : HasTable P s) : HasTable P (manualTimeout s) := by
  unfold manualTimeout
  split
  · exact hP.after_stopKind h
  · exact h

theorem TableKeeps.after_driveFails {c : Fin 10} (h : HasTable P s) : HasTable P (driveFails c s) := by
  simp only [driveFails]
  split
  · exact hP.after_judgeDrives (hP.raised h)
  · exact h

theorem TableKeeps.after_returnDrives {l : List (Fin 10)} (h : HasTable P s) : HasTable P (returnDrives l s) :=
  hP.after_judgeDrives (forEach_keeps (fun _ _ ht => hP.cleared ht) l _ h)

theorem TableKeeps.after_clearanceBecomesDue (h : HasTable P s) : HasTable P (clearanceBecomesDue s) := by
  unfold clearanceBecomesDue
  split
  · exact h
  · split
    · exact h
    · exact hP.raised h

theorem TableKeeps.after_setReference {ref : Int} {a : Nat} (h : HasTable P s) : HasTable P (setReference ref a s) :=
  hP.after_clearanceBecomesDue (hP.after_judgeUntwistEnd (hP.after_judgeSoftLimit (hP.cleared h)))

theorem TableKeeps.after_applyTwistLimits {old : Settings} (h : HasTable P s) : HasTable P (applyTwistLimits old s) := by
  have hhard : HasTable P (if s.store.working.hardLimit < old.hardLimit then applyHardLimit s else s) := by
    split
    · exact hP.after_applyHardLimit h
    · exact h
  unfold applyTwistLimits
  extract_lets t
  split
  · exact hP.after_judgeSoftLimit hhard
  · exact hhard

theorem TableKeeps.after_untwistWaitExpires (h : HasTable P s) : HasTable P (untwistWaitExpires s) := by
  simp only [untwistWaitExpires]
  split
  · split
    · exact hP.raised h
    · exact h
  · exact h

theorem TableKeeps.after_commandUntwist {x : Int} (h : HasTable P s) : HasTable P (commandUntwist x s) := by
  simp only [commandUntwist]
  split
  · exact hP.after_judgeUntwistEnd h
  · exact hP.after_startUntwist h

/-! ## Mode controller -/

theorem TableKeeps.after_yawOnMode {m : Mode} (h : HasTable P s) : HasTable P (yawOnMode m s) := by
  unfold yawOnMode
  split
  · exact hP.after_stopUntwistWait h
  · exact .congr (forcedStop_faults _) (hP.cleared h)
  · extract_lets t
    have ht : HasTable P t := hP.after_stopKind h
    split
    · exact hP.raised ht
    · exact ht
  all_goals exact hP.cleared h

theorem TableKeeps.after_handMode {before m : Mode} (h : HasTable P s) : HasTable P (handMode before m s) := by
  have hyaw : HasTable P (yawOnMode m (coolOnMode m s)) := hP.after_yawOnMode (.congr (coolOnMode_faults m s) h)
  simp only [handMode]
  split
  · exact hP.cleared hyaw
  · exact hyaw

theorem TableKeeps.after_changeMode {m : Mode} {target : Option Mode} {c : Cause} (h : HasTable P s) :
    HasTable P (changeMode m target c s) := by
  unfold changeMode
  split
  · exact h
  · extract_lets t u
    have hu : HasTable P u := .congr (stringsOnMode_faults _ _ _ t) h
    split
    · exact hu
    · exact hP.after_handMode hu

theorem TableKeeps.after_endTransition (h : HasTable P s) : HasTable P (endTransition s) := by
  unfold endTransition
  split
  · exact hP.after_changeMode h
  · split
    · split <;> exact hP.after_changeMode h
    · exact hP.after_changeMode h

theorem TableKeeps.after_completeTransition (h : HasTable P s) : HasTable P (completeTransition s) := by
  unfold completeTransition
  split
  case h_5 => exact h
  all_goals split
  all_goals first | exact h | exact hP.after_endTransition h | exact hP.after_changeMode h

theorem TableKeeps.after_idleLimitExpires (h : HasTable P s) : HasTable P (idleLimitExpires s) := by
  unfold idleLimitExpires
  split
  · exact hP.after_endTransition h
  · exact h

theorem TableKeeps.after_modeOnLost (h : HasTable P s) : HasTable P (modeOnLost s) := by
  unfold modeOnLost
  split
  · exact h
  · exact hP.after_changeMode h

theorem TableKeeps.after_modeOnReturn (h : HasTable P s) : HasTable P (modeOnReturn s) := by
  unfold modeOnReturn
  split
  · exact hP.after_changeMode h
  · exact h

theorem TableKeeps.after_testStormEntry (h : HasTable P s) : HasTable P (testStormEntry s) := by
  unfold testStormEntry
  split
  · exact hP.after_changeMode (hP.raised h)
  · exact h

theorem TableKeeps.after_calmExpires (h : HasTable P s) : HasTable P (calmExpires s) := by
  unfold calmExpires
  split
  · exact hP.after_changeMode h
  · exact h

theorem TableKeeps.after_estopOpens (h : HasTable P s) : HasTable P (estopOpens s) := by
  unfold estopOpens
  extract_lets t
  have ht : HasTable P t := by
    refine .congr (s := raise .estop 1 s) ?_ (hP.raised h)
    exact (forcedStop_faults _).trans (forEach_field (g := State.faults) faultString_faults _ _)
  split <;> exact hP.after_changeMode ht

theorem TableKeeps.after_keyReaches {before p : KeyPos} (h : HasTable P s) : HasTable P (keyReaches before p s) := by
  have howner : HasTable P (setOwner (ownerOf p) s) := hP.after_setOwner h
  simp only [keyReaches]
  split
  · exact hP.after_changeMode howner
  · split
    · exact hP.after_changeMode howner
    · exact howner

theorem TableKeeps.after_supervisionReload (h : HasTable P s) : HasTable P (supervisionReload s) := by
  unfold supervisionReload
  split
  · exact hP.cleared h
  · exact h

theorem TableKeeps.after_supervisionExpires (h : HasTable P s) : HasTable P (supervisionExpires s) := by
  simp only [supervisionExpires]
  split
  · split
    · exact hP.raised h
    · split
      · exact hP.after_changeMode h
      · exact h
  · exact h

theorem TableKeeps.after_storeCompletes (h : HasTable P s) : HasTable P (storeCompletes s) := by
  unfold storeCompletes
  split
  · exact h
  · exact hP.cleared h

end

end Sys2Proof.Machine

/-! SUPPORT. The fault table walked once, continued: the grid monitor, the reactions of an event, requests, starts,
and every command. -/

namespace Sys2Proof.Machine

section
variable {P : FaultTable → Prop} (hP : TableKeeps P) {s : State}
include hP

/-! ## Grid monitor -/

theorem TableKeeps.after_followOver {before after : Bool} (h : HasTable P s) :
    HasTable P (followOver before after s) := by
  unfold followOver
  split
  · split <;> exact h
  · split
    · exact hP.cleared h
    · exact h

theorem TableKeeps.after_sampleMonitor {m : MonitorId} (h : HasTable P s) : HasTable P (sampleMonitor m s).1 := by
  have hset (x : Monitor) : HasTable P (setMonitor m x s) := .congr (setMonitor_faults m x s) h
  simp only [sampleMonitor]
  split
  · exact hP.after_followOver (hset _)
  · exact hset _

theorem TableKeeps.after_armMonitor {m : MonitorId} {arm : Bool} {level n : Nat} (h : HasTable P s) :
    HasTable P (armMonitor m arm level n s) := by
  have hset (x : Monitor) : HasTable P (setMonitor m x s) := .congr (setMonitor_faults m x s) h
  simp only [armMonitor]
  split
  · split
    · exact hP.after_followOver (hset _)
    · exact hP.cleared (hset _)
  · exact hset _

theorem TableKeeps.after_enterLost (h : HasTable P s) : HasTable P (enterLost s) := by
  have hraised : HasTable P (raise .gridLost 1 s) := hP.raised h
  exact hP.after_auxOnLost (hP.after_modeOnLost (.congr (stopStrings_faults true _) hraised))

theorem TableKeeps.after_lostBy {c : FaultCode} (h : HasTable P s) : HasTable P (lostBy c s) :=
  hP.after_enterLost (hP.raised h)

theorem TableKeeps.after_enterDip (h : HasTable P s) : HasTable P (enterDip s) := hP.after_auxOnDip h

theorem TableKeeps.after_beginDip (h : HasTable P s) : HasTable P (beginDip s) := by
  have hraised : HasTable P (raise .gridDip 1 (addDip s)) := hP.raised h
  simp only [beginDip]
  split
  · exact hP.after_enterDip hraised
  · exact hP.after_lostBy hraised

theorem TableKeeps.after_beginRecovery (h : HasTable P s) : HasTable P (beginRecovery s) := hP.after_auxOnRecovering h

theorem TableKeeps.after_applyM1 {e : MonitorEvent} (h : HasTable P s) : HasTable P (applyM1 e s) := by
  unfold applyM1
  split
  · exact hP.after_beginDip h
  · exact hP.after_beginDip h
  · exact hP.after_beginRecovery h
  · exact h

theorem TableKeeps.after_checkOver (h : HasTable P s) : HasTable P (checkOver s) := by
  unfold checkOver
  split
  · split
    · exact hP.after_lostBy h
    · exact h
  · exact h

theorem TableKeeps.after_checkDip {d : DipTiming} (h : HasTable P s) : HasTable P (checkDip d s) := by
  simp only [checkDip]
  split
  · exact hP.after_lostBy h
  · exact h

theorem TableKeeps.after_recoveryEnds (h : HasTable P s) : HasTable P (recoveryEnds s) :=
  .congr (auxOnNormal_faults _) (hP.cleared h)

theorem TableKeeps.after_checkRecovery {r : RecoveryTiming} (h : HasTable P s) : HasTable P (checkRecovery r s) := by
  simp only [checkRecovery]
  split
  · exact hP.after_recoveryEnds h
  · exact h

theorem TableKeeps.after_gridReturns (h : HasTable P s) : HasTable P (gridReturns s) :=
  .congr (auxOnNormal_faults _) (hP.after_modeOnReturn (hP.cleared (hP.cleared (hP.cleared h))))

theorem TableKeeps.after_checkReturn (h : HasTable P s) : HasTable P (checkReturn s) := by
  simp only [checkReturn]
  split
  · split
    · exact hP.after_gridReturns h
    · exact h
  · exact h

theorem TableKeeps.after_checkTiming (h : HasTable P s) : HasTable P (checkTiming s) := by
  unfold checkTiming
  split
  · exact hP.after_checkDip h
  · exact hP.after_checkRecovery h
  · exact hP.after_checkReturn h
  · exact h

theorem TableKeeps.after_gridSample {u : Nat} (h : HasTable P s) : HasTable P (gridSample u s) := by
  have hfirst : HasTable P (sampleMonitor .m1 (takeVoltage u s)).1 := hP.after_sampleMonitor h
  have hmonitors := hP.after_sampleMonitor (m := .m3) (hP.after_sampleMonitor (m := .m2) hfirst)
  exact hP.after_checkTiming (hP.after_checkOver (hP.after_applyM1 (s := ageDips _) hmonitors))

theorem TableKeeps.after_rideThroughEnds (h : HasTable P s) : HasTable P (rideThroughEnds s) := by
  unfold rideThroughEnds
  split
  · split
    · exact h
    · exact hP.after_lostBy h
  · exact h

theorem TableKeeps.after_recoveryTimesOut (h : HasTable P s) : HasTable P (recoveryTimesOut s) := by
  unfold recoveryTimesOut
  split
  · exact hP.after_recoveryEnds h
  · exact h

theorem TableKeeps.after_overTimesOut (h : HasTable P s) : HasTable P (overTimesOut s) := by
  unfold overTimesOut
  split
  · exact hP.after_lostBy h
  · exact h

theorem TableKeeps.after_dwellCompletes (h : HasTable P s) : HasTable P (dwellCompletes s) := by
  unfold dwellCompletes
  split
  · exact hP.after_gridReturns h
  · exact h

theorem TableKeeps.after_accountBattery (h : HasTable P s) : HasTable P (accountBattery s) :=
  .congr (accountCharger_faults _) (hP.after_judgeMarks h)

theorem TableKeeps.after_bridgeExpires (h : HasTable P s) : HasTable P (bridgeExpires s) := by
  unfold bridgeExpires
  split
  · exact hP.after_sourceToBattery h
  · exact h

theorem TableKeeps.after_normalCountExpires (h : HasTable P s) : HasTable P (normalCountExpires s) := by
  unfold normalCountExpires
  split
  · exact hP.after_sourceToGrid h
  · exact h

/-! ## The reactions of an event -/

theorem TableKeeps.after_handPump {before after : Claims} {l : Liquid} (h : HasTable P s) :
    HasTable P (handPump before after l s) := by
  unfold handPump
  split
  · exact .congr (startLoop_faults l s) h
  · split
    · exact hP.after_pumpGrantLost h
    · exact h

theorem TableKeeps.after_walkAndHand (h : HasTable P s) : HasTable P (walkAndHand s) := by
  simp only [walkAndHand, handGrants]
  split
  · refine .congr ((handYaw_faults ..).trans (handPrecharge_faults ..)) ?_
    exact hP.after_handPump (hP.after_handPump (hP.after_runWalk h))
  · exact h

theorem TableKeeps.after_turn (h : HasTable P s) : HasTable P (turn s) := by
  have hprecharge : HasTable P (followPrecharge (completeTransition s)) :=
    .congr (followPrecharge_faults _) (hP.after_completeTransition h)
  exact hP.after_walkAndHand (.congr (judgeYaw_faults _) (hP.after_judgeLoops hprecharge))

theorem TableKeeps.after_settle (h : HasTable P s) : HasTable P (settle s) :=
  settle_keeps (P := HasTable P) (fun _ => hP.after_turn) (fun _ ht => ht) s h

theorem TableKeeps.after_coolingEvaluation {a b air x : Int} (h : HasTable P s) :
    HasTable P (coolingEvaluation a b air x s) := hP.after_clampLoops (hP.after_settle (hP.after_evaluateCooling h))

theorem TableKeeps.after_airSubstitution (h : HasTable P s) : HasTable P (airSubstitution s) := by
  have hraised : HasTable P (substituteAir s) := hP.raised h
  unfold airSubstitution
  split
  · exact hP.after_limitAir (hP.after_settle (.congr (evaluateAir_faults _) hraised))
  · exact h

theorem TableKeeps.after_yawSample {a b : Reading} {w : Int} (h : HasTable P s) : HasTable P (yawSample a b w s) := by
  have hstorm {t : State} (ht : HasTable P t) : HasTable P (testCalm (testStormEntry t)) :=
    .congr (testCalm_faults _) (hP.after_testStormEntry ht)
  simp only [yawSample]
  exact hP.after_sampleMotion
    (.congr (judgeYaw_faults _) (hP.after_clearBrakeFault (hstorm (hP.after_sampleWind h))))

/-! ## The end of an event -/

theorem TableKeeps.after_takeFaultNotice (h : HasTable P s) : HasTable P (takeFaultNotice s) := by
  unfold takeFaultNotice
  split
  · split
    · exact hP.taken h
    · exact h
  · exact h

theorem TableKeeps.after_takeFaultNotices {n : Nat} (h : HasTable P s) : HasTable P (takeFaultNotices n s) := by
  induction n generalizing s with
  | zero => exact h
  | succ n ih => exact ih (hP.after_takeFaultNotice h)

theorem TableKeeps.after_finish (h : HasTable P s) : HasTable P (finish s) :=
  hP.after_takeFaultNotices (.congr (takeModeNotice_faults _) h)

/-- An event whose own effect keeps the table. -/
theorem TableKeeps.after_event {f : State → State} (hf : ∀ {u}, HasTable P u → HasTable P (f u)) (h : HasTable P s) :
    HasTable P (event f s) := by
  unfold event
  split
  · exact hP.after_finish (hf h)
  · exact h

theorem TableKeeps.after_react {f : State → State} (hf : ∀ {u}, HasTable P u → HasTable P (f u)) (h : HasTable P s) :
    HasTable P (react f s) := hP.after_event (fun hu => hP.after_settle (hf hu)) h

theorem TableKeeps.after_react_of_faults {f : State → State} (hf : ∀ u, (f u).faults = u.faults) (h : HasTable P s) :
    HasTable P (react f s) := hP.after_react (fun hu => .congr (hf _) hu) h

/-! ## Requests -/

theorem TableKeeps.after_accept (h : HasTable P s) : HasTable P (accept s).2 := hP.after_settle h

theorem TableKeeps.after_acceptClamped {b : Bool} (h : HasTable P s) :
    HasTable P (acceptClamped b s).2 := hP.after_settle h

theorem TableKeeps.after_applySetting {i : SettingId} {old : Settings} (h : HasTable P s) :
    HasTable P (applySetting i old s) := by
  cases i
  case td | tx => exact hP.after_applyThermalSettings h
  case softLimit | hardLimit => exact hP.after_applyTwistLimits h
  all_goals exact h

theorem TableKeeps.after_serveSetSetting {body : List Byte} (h : HasTable P s) :
    HasTable P (serveSetSetting body s).2 := by
  simp only [serveSetSetting, serveSetting]
  repeat' split
  case isFalse => exact hP.after_acceptClamped (hP.after_applySetting h)
  all_goals exact h

theorem TableKeeps.after_serveYawCommand {body : List Byte} (h : HasTable P s) :
    HasTable P (serveYawCommand body s).2 := by
  unfold serveYawCommand
  split
  · unfold serveJog
    repeat' split
    · exact h
    · exact h
    · exact h
    · exact hP.after_accept (.congr (jog_faults ..) h)
  · unfold serveJog
    repeat' split
    · exact h
    · exact h
    · exact h
    · exact hP.after_accept (.congr (jog_faults ..) h)
  · simp only [serveGoTo]
    repeat' split
    · exact h
    · exact h
    · exact h
    · exact h
    · exact h
    · exact h
    · exact hP.after_accept (.congr (goTo_faults ..) h)
  · unfold serveYawStop
    repeat' split
    · exact h
    · exact h
    · exact hP.after_accept (hP.after_manualStop h)
  · unfold serveYawAuto
    split
    · exact h
    · exact hP.after_accept (hP.after_manualAuto h)
  · unfold serveUntwist
    repeat' split
    · exact h
    · exact h
    · exact h
    · exact h
    · exact h
    · exact hP.after_accept (hP.after_commandUntwist h)
  · split <;> exact h

theorem TableKeeps.after_serveLiquidCooling {l : Liquid} {loop : LoopId} {body : List Byte} (h : HasTable P s) :
    HasTable P (serveLiquidCooling l loop body s).2 := by
  unfold serveLiquidCooling
  extract_lets asked setpoint duty t
  split
  · exact h
  · split
    · exact h
    · split
      · exact hP.after_acceptClamped (.congr (returnFans_faults ..) h)
      · exact h

/-- A block's answer keeps the table. -/
theorem TableKeeps.after_serve {k : Kind} {body : List Byte} (h : HasTable P s) : HasTable P (serve k body s).2 := by
  cases k
  case setMode =>
    simp only [serve, serveSetMode]
    repeat' split
    · exact h
    · exact h
    · exact h
    · exact h
    · exact h
    · exact h
    · exact hP.after_accept (hP.after_changeMode h)
    · exact h
    · exact hP.after_accept (hP.after_changeMode h)
  case claimControl =>
    simp only [serve, serveClaimControl]
    split
    · exact hP.after_accept (hP.after_setOwner h)
    · exact h
  case setStringEnable =>
    simp only [serve, serveSetStringEnable]
    repeat' split
    · exact h
    · exact h
    · exact hP.after_accept (.congr (enableString_faults ..) h)
    · exact hP.after_accept (.congr (disableString_faults ..) h)
  case armGridMonitor =>
    simp only [serve, serveArmGridMonitor]
    repeat' split
    · exact h
    · exact h
    · exact h
    · exact h
    · exact h
    · exact hP.after_armMonitor h
  case setCooling =>
    simp only [serve, serveSetCooling]
    repeat' split
    · exact h
    · exact hP.after_serveLiquidCooling h
    · exact hP.after_serveLiquidCooling h
    · exact h
    · exact h
    · exact hP.after_accept (.congr (returnFans_faults ..) h)
    · exact h
    · exact h
  case setAuxReserves =>
    simp only [serve, serveSetAuxReserves]
    repeat' split
    · exact h
    · exact h
    · exact h
    · exact h
    · exact hP.after_acceptClamped h
  case setHoist =>
    simp only [serve, serveSetHoist]
    repeat' split
    · exact h
    · exact hP.after_accept h
    · exact hP.after_accept h
    · exact hP.after_accept h
    · exact h
  case setBatteryEnergy =>
    simp only [serve, serveSetBatteryEnergy]
    repeat' split
    · exact h
    · exact h
    · exact hP.after_acceptClamped (.congr (judgeCharger_faults _) (hP.after_judgeMarks h))
  case yawCommand => exact hP.after_serveYawCommand h
  case setDriveSlots =>
    simp only [serve, serveSetDriveSlots]
    repeat' split
    · exact h
    · exact h
    · exact h
    · exact h
    · exact h
    · exact hP.after_accept (hP.after_returnDrives h)
  case setTwistReference =>
    simp only [serve, serveSetTwistReference]
    repeat' split
    · exact h
    · exact h
    · exact h
    · exact h
    · exact hP.after_accept (hP.after_setReference h)
    · exact h
    · exact h
  case setSetting => exact hP.after_serveSetSetting h
  case ackFault =>
    simp only [serve, serveAckFault]
    repeat' split
    · exact h
    · exact h
    · exact hP.after_accept (hP.acked h)
  case setFaultClass =>
    simp only [serve, serveSetFaultClass]
    repeat' split
    · exact h
    · exact h
    · exact h
    · exact h
    · exact h
    · exact hP.classed h
    · exact h
  case clearSnapshot =>
    simp only [serve, serveClearSnapshot]
    repeat' split
    · exact h
    · exact h
    · exact List.foldlRecOn _ _ h fun _ ht _ _ => hP.freed ht
  case clearCounts =>
    simp only [serve, serveClearCounts]
    repeat' split
    · exact h
    · exact h
    · exact hP.counted h
  all_goals
    simp only [serve, serveRead, serveSetTime, serveRestart, serveEnableSupervision, serveSetPower, serveSetRideThrough,
      serveSetYawPolicy, serveSetNoDwellWindow, serveGetFaults, serveGetSnapshot, serveGetSetting, serveStoreSettings,
      serveLockSettings]
  all_goals repeat' split
  all_goals exact h

/-! ## The port -/

theorem TableKeeps.after_queueReply {kind tag : Byte} {st : Status} {content : List Byte} {restart : Bool}
    (h : HasTable P s) : HasTable P (queueReply kind tag st content restart s) := by
  simp only [queueReply]
  split
  · exact hP.cleared h
  · exact h

theorem TableKeeps.after_serveFrame {f : Frame} (h : HasTable P s) : HasTable P (serveFrame f s) := by
  have hmarks (k : Kind) (t : State) : (clearMarks k t).faults = t.faults := by unfold clearMarks; split <;> rfl
  simp only [serveFrame]
  split
  · exact hP.after_queueReply (.congr (hmarks _ _) (hP.after_serve h))
  · exact hP.after_queueReply h
  · exact h

theorem TableKeeps.after_pump {n : Nat} (h : HasTable P s) : HasTable P (pump n s) := by
  induction n generalizing s with
  | zero => exact h
  | succ n ih =>
    rw [pump]
    split
    · split
      · exact h
      · exact ih (hP.after_serveFrame h)
    · exact h

theorem TableKeeps.after_takeFrame {f : Frame} (h : HasTable P s) : HasTable P (takeFrame f s) := by
  have hreload : HasTable P (supervisionReload s) := hP.after_supervisionReload h
  refine hP.after_pump ?_
  simp only [acceptFrame]
  split
  · exact hreload
  · exact hP.raised hreload

theorem TableKeeps.after_parserEffects {l : List ParserEvent} (h : HasTable P s) : HasTable P (parserEffects l s) := by
  refine forEach_keeps (P := HasTable P) (fun e t ht => ?_) l s h
  cases e
  · exact ht
  · exact hP.after_takeFrame ht

theorem TableKeeps.after_takeByte {b : Byte} {time : Nat} (h : HasTable P s) : HasTable P (takeByte b time s) :=
  hP.after_parserEffects h

theorem TableKeeps.after_takeGap (h : HasTable P s) : HasTable P (takeGap s) := hP.after_parserEffects h

theorem TableKeeps.after_endBreak (h : HasTable P s) : HasTable P (endBreak s) := hP.after_pump h

/-! ## Starts -/

theorem TableKeeps.after_startRows {twistLost imageLost : Bool} (h : HasTable P s) :
    HasTable P (startRows twistLost imageLost s) := by
  have hif {b : Prop} [Decidable b] {t u : State} (ht : HasTable P t) (hu : HasTable P u) :
      HasTable P (if b then t else u) := by split <;> assumption
  have hclear {b : Prop} [Decidable b] {c : FaultCode} {u : Nat} {t : State} (ht : HasTable P t) :
      HasTable P (if b then clearFault c u t else t) := hif (hP.cleared ht) ht
  have hraise {b : Prop} [Decidable b] {c : FaultCode} {u : Nat} {t : State} (ht : HasTable P t) :
      HasTable P (if b then raise c u t else t) := hif (hP.raised ht) ht
  have hclears {t : State} (ht : HasTable P t) (l : List Nat) : HasTable P (forEach l (clearFault .yawDrive) t) :=
    forEach_keeps (P := HasTable P) (fun _ _ => hP.cleared) l t ht
  unfold startRows
  extract_lets lost s1 s2 s3 s4 s5 s6 s7 s8 s9 s10 s11 s12 s13 s14
  have h1 : HasTable P s1 := hif h (hP.cleared (hP.cleared h))
  have h2 : HasTable P s2 := hif h1 (hP.cleared h1)
  have h3 : HasTable P s3 := hP.after_setFault h2
  have h5 : HasTable P s5 := hclear (hclear h3)
  have h6 : HasTable P s6 := hP.cleared (hP.cleared (hP.cleared h5))
  have h7 : HasTable P s7 := hP.cleared (hP.cleared h6)
  have h8 : HasTable P s8 := hP.after_setFault (hP.after_setFault h7)
  have h9 : HasTable P s9 := hclears h8 _
  have h11 : HasTable P s11 := hP.after_setFault (hP.after_setFault h9)
  have h12 : HasTable P s12 := hraise h11
  have h14 : HasTable P s14 := hP.cleared (hP.cleared (hP.cleared (hP.after_setFault h12)))
  exact hraise h14

theorem TableKeeps.after_startSettles {twistLost imageLost : Bool} (h : HasTable P s) :
    HasTable P (startSettles twistLost imageLost s) := by
  unfold startSettles
  extract_lets marked cleared rows aux claims withYaw charged walked
  have hrows : HasTable P rows := hP.after_startRows h
  have hcharged : HasTable P charged := .congr (judgeCharger_faults _) hrows
  have hwalked : HasTable P walked := by
    unfold walked
    split
    · exact hP.after_runWalk hcharged
    · exact hcharged
  exact hwalked

theorem TableKeeps.after_warmRestart {u : Nat} (h : HasTable P s) : HasTable P (warmRestart u s) :=
  hP.after_startSettles h

/-- A cold start begins with an empty table. -/
theorem TableKeeps.after_coldStart (u : Nat) (s : State) : HasTable P (coldStart u s) :=
  hP.after_startSettles hP.reset

theorem TableKeeps.after_frameLeaves (h : HasTable P s) : HasTable P (frameLeaves s) := by
  simp only [frameLeaves]
  repeat' split
  · exact h
  · exact hP.after_warmRestart h
  · exact hP.after_finish (hP.after_pump h)

theorem TableKeeps.after_breakLine (h : HasTable P s) : HasTable P (breakLine s) := by
  have hcleared : HasTable P (clearFault .linkOverrun 1 (modLink (fun _ => { Link.atStart with breakOn := true }) s)) :=
    hP.cleared h
  simp only [breakLine]
  split
  · exact hP.after_warmRestart hcleared
  · exact hP.after_finish hcleared

/-! ## Every command -/

theorem TableKeeps.after_exec (c : Instr) (h : HasTable P s) : ∃ t, exec c s = .next t ∧ HasTable P t := by
  cases c
  case coldStart u => exact ⟨_, rfl, hP.after_coldStart u s⟩
  case warmRestart u =>
    refine ⟨_, rfl, ?_⟩
    split
    · exact hP.after_warmRestart h
    · exact h
  case powerFailure => exact ⟨_, rfl, hP.reset⟩
  case byteArrival b time => exact ⟨_, rfl, hP.after_event hP.after_takeByte h⟩
  case frameGapTimeout => exact ⟨_, rfl, hP.after_event hP.after_takeGap h⟩
  case linkBreakEnd => exact ⟨_, rfl, hP.after_event hP.after_endBreak h⟩
  case frameSent =>
    refine ⟨_, rfl, ?_⟩
    split
    · exact hP.after_frameLeaves h
    · exact h
  case linkBreak =>
    refine ⟨_, rfl, ?_⟩
    split
    · exact hP.after_breakLine h
    · exact h
  case takeModeNotice => exact ⟨_, rfl, hP.after_event (fun hu => .congr (takeModeNotice_faults _) hu) h⟩
  case takeFaultNotice => exact ⟨_, rfl, hP.after_event hP.after_takeFaultNotice h⟩
  case storeCompletion => exact ⟨_, rfl, hP.after_event hP.after_storeCompletes h⟩
  case flowSwitchChange l flow =>
    refine ⟨_, rfl, ?_⟩
    split
    · exact hP.after_react_of_faults (flowChange_faults l flow) h
    · exact h
  case fanFeedbackChange f running =>
    exact ⟨_, rfl, hP.after_react_of_faults (fun _ => rfl) (.congr (modFan_faults f _ s) h)⟩
  case brakeProofChange p present =>
    have hshown : HasTable P (showProof p present s) := by cases p <;> exact h
    exact ⟨_, rfl, hP.after_event (fun hu => .congr (watchProof_faults ..) hu) hshown⟩
  case jogButtonPress d =>
    have hheld : HasTable P (holdButton d true s) := by cases d <;> exact h
    refine ⟨_, rfl, hP.after_react (fun hu => ?_) hheld⟩
    split
    · exact hP.after_releaseJog hu
    · exact .congr (pressJog_faults ..) hu
  case jogButtonRelease d =>
    have hheld : HasTable P (holdButton d false s) := by cases d <;> exact h
    exact ⟨_, rfl, hP.after_react hP.after_releaseJog hheld⟩
  case supervisionTimerExpiry => exact ⟨_, rfl, hP.after_react hP.after_supervisionExpires h⟩
  case stringReport k i u bad => exact ⟨_, rfl, hP.after_react hP.after_takeReport h⟩
  case prechargeTimeout =>
    exact ⟨_, rfl, hP.after_react
      (fun hu => forEach_keeps (P := HasTable P) (fun _ _ => hP.after_timeoutPrecharge) _ _ hu) h⟩
  case shareInterval => exact ⟨_, rfl, hP.after_react hP.after_shareInterval h⟩
  case gridSample u => exact ⟨_, rfl, hP.after_react hP.after_gridSample h⟩
  case dipListAging => exact ⟨_, rfl, hP.after_event (fun hu => hu) h⟩
  case rideThroughExceeded => exact ⟨_, rfl, hP.after_react hP.after_rideThroughEnds h⟩
  case qHoldEnd => exact ⟨_, rfl, hP.after_event (fun hu => .congr (qHoldEnds_faults _) hu) h⟩
  case recoveryTimeout => exact ⟨_, rfl, hP.after_react hP.after_recoveryTimesOut h⟩
  case overvoltageTimeout => exact ⟨_, rfl, hP.after_react hP.after_overTimesOut h⟩
  case returnDwellComplete => exact ⟨_, rfl, hP.after_react hP.after_dwellCompletes h⟩
  case thermalInterval x y => exact ⟨_, rfl, hP.after_react hP.after_thermalInterval h⟩
  case inletSubstitute l => exact ⟨_, rfl, hP.after_event hP.after_substituteInlet h⟩
  case flowProofTimeout l => exact ⟨_, rfl, hP.after_react hP.after_proofTimeout h⟩
  case flowDropTimeout l => exact ⟨_, rfl, hP.after_react hP.after_dropTimeout h⟩
  case coolingEvaluation a b air x => exact ⟨_, rfl, hP.after_react hP.after_coolingEvaluation h⟩
  case airSensorSubstitute => exact ⟨_, rfl, hP.after_react hP.after_airSubstitution h⟩
  case runOnExpiry l => exact ⟨_, rfl, hP.after_react hP.after_runOnOf h⟩
  case fanMismatchExpiry f => exact ⟨_, rfl, hP.after_react_of_faults (fanFails_faults f) h⟩
  case bridgeTimerExpiry => exact ⟨_, rfl, hP.after_react hP.after_bridgeExpires h⟩
  case normalCountExpiry => exact ⟨_, rfl, hP.after_react hP.after_normalCountExpires h⟩
  case batteryAccounting => exact ⟨_, rfl, hP.after_react hP.after_accountBattery h⟩
  case yawSample a b w => exact ⟨_, rfl, hP.after_react hP.after_yawSample h⟩
  case brakeVentExpiry => exact ⟨_, rfl, hP.after_react hP.after_ventSettles h⟩
  case brakePressurizeExpiry => exact ⟨_, rfl, hP.after_react hP.after_pressurizeSettles h⟩
  case brakeProofAbsenceExpiry p => exact ⟨_, rfl, hP.after_react hP.after_proofLost h⟩
  case rampingExpiry => exact ⟨_, rfl, hP.after_react_of_faults rampSettles_faults h⟩
  case manualTimerExpiry => exact ⟨_, rfl, hP.after_react hP.after_manualTimeout h⟩
  case restTimerExpiry => exact ⟨_, rfl, hP.after_event (fun hu => hu) h⟩
  case driveFeedbackChange c running => exact ⟨_, rfl, hP.after_react_of_faults (fun _ => rfl) h⟩
  case driveMismatchExpiry c => exact ⟨_, rfl, hP.after_react hP.after_driveFails h⟩
  case encoderUpdate r => exact ⟨_, rfl, hP.after_react hP.after_encoderUpdate h⟩
  case untwistWaitExpiry => exact ⟨_, rfl, hP.after_react hP.after_untwistWaitExpires h⟩
  case calmTimerExpiry => exact ⟨_, rfl, hP.after_react hP.after_calmExpires h⟩
  case idleLimitExpiry => exact ⟨_, rfl, hP.after_react hP.after_idleLimitExpires h⟩
  case estopChainOpen => exact ⟨_, rfl, hP.after_react hP.after_estopOpens h⟩
  case estopChainClose => exact ⟨_, rfl, hP.after_event hP.cleared h⟩
  case keySwitch p => exact ⟨_, rfl, hP.after_react hP.after_keyReaches h⟩
  case resetButton => exact ⟨_, rfl, hP.after_react hP.acked h⟩
  all_goals exact ⟨_, rfl, hP.after_event hP.after_takeFrame h⟩

/-- Every step keeps the table: a command by `after_exec`, and an idle millisecond leaves it. -/
theorem TableKeeps.after_step (h : HasTable P s) {t : State} (hstep : step s = .next t) : HasTable P t := by
  have hidle : HasTable P (idle s) := by unfold idle; split <;> exact h
  unfold step at hstep
  split at hstep
  · exact Host.Outcome.next.inj hstep ▸ hidle
  · next c rest _ =>
    obtain ⟨u, hexec, hu⟩ := hP.after_exec (s := { s with pending := rest }) c h
    exact Host.Outcome.next.inj (hexec.symm.trans hstep) ▸ hu

end

end Sys2Proof.Machine

/-! SUPPORT. The first-fault mark through every command, and the episode rule (R157). -/

namespace Sys2Proof.Machine

/-- A fault table whose first-fault mark is sound in any state that holds it. -/
def MarkSound (t : FaultTable) : Prop := FirstFaultSound { State.reset with faults := t }

theorem hasTable_markSound (s : State) : HasTable MarkSound s ↔ FirstFaultSound s := Iff.rfl

/-- The table of a start: no row carries the mark. -/
theorem markSound_atStart : MarkSound .atStart := by
  have hblank (i : Nat) : rowAt { State.reset with faults := .atStart } i = .blank := by
    simp only [rowAt, FaultTable.atStart, List.getD_eq_getElem?_getD, List.getElem?_replicate]
    split <;> rfl
  have hmark (i : Nat) : (rowAt { State.reset with faults := .atStart } i).firstMark ≠ true := by
    rw [hblank]; exact Bool.false_ne_true
  exact ⟨rfl, fun i hi => absurd hi (hmark i), fun i _ hi _ => absurd hi (hmark i)⟩

theorem markSound_tableKeeps : TableKeeps MarkSound where
  raised {s _ _} h := firstFaultSound_raise (s := s) h _ _
  cleared {s _ _} h := firstFaultSound_clearFault (s := s) h _ _
  acked {s _} h := firstFaultSound_ackWhere (s := s) h _
  taken {s _} h := firstFaultSound_clearPending (s := s) h _
  classed {s _ _} h := firstFaultSound_changeClass (s := s) h _ _
  freed h := firstFaultSound_freeSlot h _
  counted h := firstFaultSound_resetWhere h _
  reset := markSound_atStart

theorem firstFaultSound_step {s t : State} (h : FirstFaultSound s) (hstep : step s = .next t) : FirstFaultSound t :=
  (hasTable_markSound t).mp (markSound_tableKeeps.after_step ((hasTable_markSound s).mpr h) hstep)

/-- Settles O51: the mark of a raised row by `raise_mark_self`, and soundness through every step by the walk of the table. -/
theorem firstFaultMarkFollowsItsEpisode : Obligations.FirstFaultMarkFollowsItsEpisode := by
  unfold Obligations.FirstFaultMarkFollowsItsEpisode
  intro s c u i h1 hu hlen
  have hlt := rowOf_lt h1 hu
  have hcode := codeOfRow_rowOf h1 hu
  refine ⟨fun h => ⟨firstFaultSound_raise h c u, firstFaultSound_clearFault h c u, firstFaultSound_ackAt h i⟩,
    fun htrip hnot => ⟨fun hfree => ?_, fun j hj hc hheld => ?_⟩, fun t => firstFaultSound_step, fun ha hack => ?_,
    fun hlatched => ?_, fun j hj => raise_mark_ne hj s⟩
  · refine (raise_mark_self hlen hnot hlt).mpr (.inr ⟨by rw [hcode]; exact htrip, ?_⟩)
    rintro ⟨j, hj, hc, hheld⟩
    exact hheld (hfree j hj hc)
  · have hother : OtherTripHeld s (rowOf c u) := ⟨j, hj, hc, hheld⟩
    rw [Bool.eq_iff_iff, raise_mark_self hlen hnot hlt]
    simp [hother]
  · rw [rowAt_clearFault_self (hlen ▸ hlt), clearRow_of_acked ha hack]
  · rw [rowAt_ackAt_self, ackRow_of_latched hlatched]

end Sys2Proof.Machine

/-! SUPPORT. The requests to the fault table: AckFault, ClearSnapshot and ClearCounts (R155, R161, R165). -/

namespace Sys2Proof.Machine

/-! ## The rows that the port moves -/

/-- The port moves no row but LINK_SILENT on the way to the block that serves. -/
theorem rowAt_served {i : Nat} (hi : i ≠ 74) (s : State) : rowAt (served s) i = rowAt s i := by
  unfold served supervisionReload
  split
  · exact rowAt_clearFault_ne (c := .linkSilent) (u := 1) hi _
  · rfl

/-- A reply moves no row but LINK_OVERRUN. -/
theorem rowAt_replied {i : Nat} (hi : i ≠ 75) (s : State) : rowAt (replied s) i = rowAt s i := by
  simp only [replied]
  split
  · exact rowAt_clearFault_ne (c := .linkOverrun) (u := 1) hi _
  · rfl

theorem served_slots (s : State) : (served s).faults.slots = s.faults.slots := by
  unfold served supervisionReload; split <;> rfl

theorem classOf_served (s : State) (c : FaultCode) : classOf (served s) c = classOf s c := by
  simp only [classOf, (served_frame s).1]

theorem clearRow_slot (b : Bool) (r : FaultRow) : (clearRow b r).slot = r.slot := by
  unfold clearRow
  repeat' split
  all_goals rfl

theorem clearFault_slot (c : FaultCode) (u i : Nat) (s : State) :
    (rowAt (clearFault c u s) i).slot = (rowAt s i).slot := by
  have hrow : rowAt (clearFault c u s) i =
      if rowOf c u = i then clearRow (classOf s c ≠ .record) (rowAt s i) else rowAt s i :=
    getD_updateAt (clearRow_blank _) ..
  rw [hrow]
  split
  · exact clearRow_slot ..
  · rfl

/-! ## Slots freed (R161) -/

/-- Slot `k` holds no snapshot, has no place in the capture order and belongs to no row. -/
def SlotFree (k : Nat) (t : FaultTable) : Prop :=
  t.slots.getD (k - 1) none = none ∧ k ∉ t.capture ∧ ∀ i, (t.rows.getD i .blank).slot ≠ some k

theorem slotFree_freeSlot (k : Nat) (t : FaultTable) : SlotFree k (freeSlot k t) := by
  refine ⟨?_, by simp [freeSlot], fun i => ?_⟩
  · simp only [freeSlot, List.getD_eq_getElem?_getD, List.getElem?_set_self']
    cases t.slots[k - 1]? <;> rfl
  · simp only [freeSlot, detachSlot_getD, without_slot]
    split
    · exact nofun
    · assumption

/-- A slot that is free stays so when another is freed. -/
theorem SlotFree.freeSlot {k : Nat} {t : FaultTable} (h : SlotFree k t) (j : Nat) : SlotFree k (freeSlot j t) := by
  obtain ⟨hslot, hcapture, hrow⟩ := h
  refine ⟨?_, fun hmem => hcapture (List.mem_of_mem_filter hmem), fun i => ?_⟩
  · by_cases hj : j - 1 = k - 1
    · rw [← hj]; exact (slotFree_freeSlot j t).1
    · exact (getD_set_ne hj ..).trans hslot
  · simp only [Machine.freeSlot, detachSlot_getD, without_slot]
    split
    · exact nofun
    · exact hrow i

/-- Slots freed in turn. -/
def freeSlots (ks : List Nat) (t : FaultTable) : FaultTable := ks.foldl (fun t k => freeSlot k t) t

theorem SlotFree.freeSlots {k : Nat} {t : FaultTable} (h : SlotFree k t) (ks : List Nat) : SlotFree k (freeSlots ks t) := by
  induction ks generalizing t with
  | nil => exact h
  | cons j ks ih => exact ih (h.freeSlot j)

theorem slotFree_freeSlots {k : Nat} {ks : List Nat} (hk : k ∈ ks) (t : FaultTable) : SlotFree k (freeSlots ks t) := by
  induction ks generalizing t with
  | nil => exact absurd hk List.not_mem_nil
  | cons j ks ih =>
    rcases List.mem_cons.mp hk with rfl | hk
    · exact (slotFree_freeSlot k t).freeSlots ks
    · exact ih hk _

theorem mem_slotsNamed {n k : Nat} (h1 : 1 ≤ k) (h8 : k ≤ 8) (h : n = 0 ∨ k = n) : k ∈ slotsNamed n := by
  unfold slotsNamed
  split
  · exact mem_slotNumbers.mpr ⟨h1, h8⟩
  · exact List.mem_singleton.mpr (h.resolve_left ‹_›)

theorem freeSlots_slot_ne {n k : Nat} (h1 : 1 ≤ k) (hn : n ≠ 0) (hk : k ≠ n) (t : FaultTable) :
    (freeSlots (slotsNamed n) t).slots.getD (k - 1) none = t.slots.getD (k - 1) none := by
  rw [slotsNamed, if_neg hn]
  exact getD_set_ne (by omega) ..

/-- What frees a slot holds after the reply too. -/
theorem SlotFree.replied {k : Nat} {s : State} (h : SlotFree k s.faults) : SlotFree k (replied s).faults := by
  obtain ⟨hslot, hcapture, hrow⟩ := h
  simp only [Machine.replied]
  split
  · exact ⟨hslot, hcapture, fun i hi => hrow i ((clearFault_slot .linkOverrun 1 i _).symm.trans hi)⟩
  · exact ⟨hslot, hcapture, hrow⟩

theorem replied_slots (s : State) : (replied s).faults.slots = s.faults.slots := by
  simp only [replied]; split <;> rfl

theorem slots_of_quiet {s t : State} (h : Quiet s t) : t.faults.slots = s.faults.slots :=
  outside_field (f := fun u => u.faults.slots) (fun _ => rfl) h.1

theorem SlotFree.quiet {k : Nat} {s t : State} (h : SlotFree k s.faults) (hquiet : Quiet s t) : SlotFree k t.faults := by
  obtain ⟨hslot, hcapture, hrow⟩ := h
  have hcaptures : t.faults.capture = s.faults.capture :=
    outside_field (f := fun u => u.faults.capture) (fun _ => rfl) hquiet.1
  obtain ⟨-, -, -, -, -, -, hrows⟩ := id hquiet
  have hslots (i : Nat) : (rowAt t i).slot = (rowAt s i).slot := (congrArg FaultRow.slot (hrows i) :)
  exact ⟨by rwa [slots_of_quiet hquiet], by rwa [hcaptures], fun i hi => hrow i ((hslots i).symm.trans hi)⟩

/-! ## The blocks' answers -/

/-- The argument of a request for rows: a row of the table, or 255 for all. -/
def NamesRows (n : Byte) : Prop := n.toNat ≤ 78 ∨ n.toNat = 255

theorem NamesRows.inRange {n : Byte} (h : NamesRows n) : ¬(natAt [n] 0 > 78 ∧ natAt [n] 0 ≠ 255) := by
  have hn : natAt [n] 0 = n.toNat := rfl
  rw [hn]
  rcases h with h | h <;> omega

theorem rowNamed_iff {n i : Nat} : rowNamed n i = true ↔ n = 255 ∨ i = n := by
  rw [rowNamed, Bool.or_eq_true, decide_eq_true_eq, decide_eq_true_eq, eq_comm (a := n) (b := i)]

theorem serve_ackFault {s : State} (h : notRemote s = false) {n : Byte} (hn : NamesRows n) :
    serve .ackFault [n] s = (.ok, settle (ackWhere (fun i _ => rowNamed n.toNat i) s)) := by
  simp only [serve, serveAckFault, h, if_neg hn.inRange, Bool.false_eq_true, if_false]
  rfl

theorem serve_clearSnapshot {s : State} (h : notRemote s = false) {n : Byte} (hn : n.toNat ≤ 8) :
    serve .clearSnapshot [n] s = (.ok, { s with faults := freeSlots (slotsNamed n.toNat) s.faults }) := by
  have hin : ¬natAt [n] 0 > 8 := Nat.not_lt.mpr hn
  simp only [serve, serveClearSnapshot, h, if_neg hin, Bool.false_eq_true, if_false]
  rfl

theorem serve_clearCounts {s : State} (h : notRemote s = false) {n : Byte} (hn : NamesRows n) :
    serve .clearCounts [n] s = (.ok, { s with faults := resetWhere (rowNamed n.toNat) s.faults }) := by
  simp only [serve, serveClearCounts, h, if_neg hn.inRange, Bool.false_eq_true, if_false]
  rfl

/-! ## The rows after the blocks -/

/-- The rows that AckFault names, acknowledged (R155). -/
theorem rowAt_ackNamed (n i : Nat) (s : State) :
    rowAt (ackWhere (fun i _ => rowNamed n i) s) i = if n = 255 ∨ i = n then
      ackRow (classOf s (codeOfRow i) ≠ .record) (rowAt s i) else rowAt s i := by
  have hrow : rowAt (ackWhere (fun i _ => rowNamed n i) s) i =
      if rowNamed n i then ackRow (classOf s (codeOfRow i) ≠ .record) (rowAt s i) else rowAt s i :=
    getD_mapIdx (f := fun i r => if rowNamed n i then ackRow (classOf s (codeOfRow i) ≠ .record) r else r)
      (fun _ => ite_eq_right_iff.mpr fun _ => ackRow_blank _) ..
  rw [hrow]
  exact if_congr rowNamed_iff rfl rfl

theorem ackRow_state (b : Bool) (r : FaultRow) :
    (ackRow b r).state = if r.state = .latched then .clear else r.state := by
  unfold ackRow
  split <;> simp [*]

theorem rowAt_resetWhere (n i : Nat) (s : State) :
    rowAt { s with faults := resetWhere (rowNamed n) s.faults } i =
      if n = 255 ∨ i = n then resetCount (rowAt s i) else rowAt s i := by
  have hrow : rowAt { s with faults := resetWhere (rowNamed n) s.faults } i =
      if rowNamed n i then resetCount (rowAt s i) else rowAt s i :=
    getD_mapIdx (f := fun i r => if rowNamed n i then resetCount r else r)
      (fun _ => ite_eq_right_iff.mpr fun _ => resetCount_blank) ..
  rw [hrow]
  exact if_congr rowNamed_iff rfl rfl

theorem resetCount_of_clear {r : FaultRow} (h : r.state = .clear) :
    resetCount r = { r with count := 0, firstTime := none, lost := false } := if_pos h

theorem resetCount_of_held {r : FaultRow} (h : r.state ≠ .clear) : resetCount r = r := if_neg h

/-- The rows after ClearCounts and its reply (R165). -/
theorem rowAt_countsCleared {s t : State} {n i : Nat}
    (h : Quiet (replied { served s with faults := resetWhere (rowNamed n) (served s).faults }) t)
    (h74 : i ≠ 74) (h75 : i ≠ 75) :
    { rowAt t i with pending := false } =
      { (if n = 255 ∨ i = n then resetCount (rowAt s i) else rowAt s i) with pending := false } := by
  obtain ⟨-, -, -, -, -, -, hrows⟩ := h
  rw [hrows i, rowAt_replied h75, rowAt_resetWhere, rowAt_served h74]

/-! ## The requests -/

section
variable {s : State} (h : HostReady s) {tag : Byte} (ht : tag ≠ 0)
include h ht

/-- A request whose block changes the fault table alone and reacts to nothing: the answer, the records kept, and the table as
the block and the reply leave it. -/
theorem table_answered {k : Kind} (hr : k ≠ .restart) {body : List Byte} (hb : k.fits body = true) {f : FaultTable}
    (ha : serve k body (served s) = (.ok, { served s with faults := f })) :
    let t := request ⟨k.code, tag, body⟩ s
    (∃ content, Answered s t (replyKind k.code) tag .ok content) ∧
    Quiet (replied { served s with faults := f }) t ∧
    t.conv = s.conv ∧ t.aux = s.aux ∧ t.yaw = s.yaw ∧ t.store = s.store := by
  obtain ⟨hans, hquiet⟩ := request_answered (f := ⟨k.code, tag, body⟩) h.1 (kind_ofByte_code k) hb ht hr ha
  obtain ⟨hout, hconv, -, haux, hyaw, -, -⟩ := id hquiet
  refine ⟨⟨_, hans⟩, hquiet, hconv.trans ?_, haux.trans ?_, hyaw.trans ?_,
    (outside_field (f := State.store) (fun _ => rfl) hout).trans ?_⟩ <;> rw [replied_eq]
  · exact served_conv s
  · exact served_aux s
  · exact served_yaw s
  · exact (served_frame s).1

/-- AckFault (R155). -/
theorem ackFault_answered {n : Byte} (hn : NamesRows n) :
    let t := request ⟨Kind.ackFault.code, tag, [n]⟩ s
    Answered s t 0xE1 tag .ok (u8 (ackCount [n] (served s))) ∧
    t.store = s.store ∧ t.grid = s.grid ∧ t.therm = s.therm ∧ t.retained = s.retained ∧
    ∀ i, reactiveRow i = false → i ≠ 74 → i ≠ 75 →
      { rowAt t i with pending := false } = { (if n.toNat = 255 ∨ i = n.toNat then
        ackRow (classOf s (codeOfRow i) ≠ .record) (rowAt s i) else rowAt s i) with pending := false } := by
  obtain ⟨hans, -, hbeyond⟩ :=
    settled_answered (k := .ackFault) nofun rfl h ht (serve_ackFault (notRemote_served h) hn)
  have hlasting := (lasting_beyond hbeyond).trans (rfl : _ = lasting (served s))
  obtain ⟨hstore, hgrid, htherm, hretained⟩ := fields_of_lasting hlasting
  obtain ⟨hstore', hgrid', htherm', hretained'⟩ := served_frame s
  refine ⟨hans, hstore.trans hstore', hgrid.trans hgrid', htherm.trans htherm', hretained.trans hretained',
    fun i hi h74 h75 => ?_⟩
  rw [outside_row hbeyond hi, rowAt_replied h75, rowAt_ackNamed, rowAt_served h74, classOf_served]

end

/-- Settles O14: the row of each request by its block, and by what the port and the reactions leave. -/
theorem faultTableRequestsAct : Obligations.FaultTableRequestsAct := by
  unfold Obligations.FaultTableRequestsAct
  intro s tag n h ht
  have hremote := notRemote_served h
  refine ⟨fun hn => ?_, fun hn _ => ?_, fun hn => ?_⟩
  · obtain ⟨hans, hstore, hgrid, htherm, hretained, hrows⟩ := ackFault_answered h ht hn
    refine ⟨_, rfl, hans, fun i hi h74 h75 hnamed => ?_, fun i hi h74 h75 hall hne => ?_, hstore, hgrid, htherm, hretained,
      _, serve_ackFault hremote hn, fun i => ?_⟩
    · have hrow := hrows i hi h74 h75
      rw [if_pos hnamed] at hrow
      refine ⟨(state_of_pending hrow).trans (ackRow_state ..), fun hactive => ?_⟩
      rw [ackRow_of_active hactive] at hrow
      exact (congrArg FaultRow.ack hrow :)
    · have hrow := hrows i hi h74 h75
      rwa [if_neg (not_or.mpr ⟨hall, hne⟩)] at hrow
    · rw [rowAt_ackNamed, classOf_served]
      refine if_congr Iff.rfl ?_ rfl
      cases hstate : (rowAt (served s) i).state with
      | clear => exact ackRow_of_clear hstate
      | active => exact ackRow_of_active hstate
      | latched => exact ackRow_of_latched hstate
  · obtain ⟨hans, hquiet, hconv, haux, hyaw, hstore⟩ :=
      table_answered h ht (k := .clearSnapshot) nofun rfl (serve_clearSnapshot hremote hn)
    refine ⟨_, rfl, hans, fun k h1 h8 hk => ?_, fun k h1 _ hzero hk => ?_, hconv, haux, hyaw, hstore⟩
    · have hnamed : n.toNat = 0 ∨ k = n.toNat := hk.imp_left (congrArg BitVec.toNat)
      exact (SlotFree.replied (slotFree_freeSlots (mem_slotsNamed h1 h8 hnamed) _)).quiet hquiet
    · have hzero' : n.toNat ≠ 0 := fun h0 => hzero (BitVec.eq_of_toNat_eq h0)
      rw [slots_of_quiet hquiet, replied_slots]
      exact (freeSlots_slot_ne h1 hzero' hk _).trans (by rw [served_slots])
  · obtain ⟨hans, hquiet, hkept⟩ := table_answered h ht (k := .clearCounts) nofun rfl (serve_clearCounts hremote hn)
    have hrows {i : Nat} (h74 : i ≠ 74) (h75 : i ≠ 75) := rowAt_countsCleared hquiet h74 h75
    refine ⟨_, rfl, hans, fun i h74 h75 hnamed hclear => ?_, fun i h74 h75 hnot => ?_, hkept⟩
    · have hrow := hrows h74 h75
      rw [if_pos hnamed, resetCount_of_clear hclear] at hrow
      exact ⟨(congrArg FaultRow.count hrow :), (congrArg FaultRow.firstTime hrow :), (congrArg FaultRow.lost hrow :)⟩
    · rw [hrows h74 h75]
      split
      · rename_i hnamed
        rw [resetCount_of_held (hnot.resolve_right fun hout => hnamed.elim hout.1 hout.2)]
      · rfl

end Sys2Proof.Machine

/-! SUPPORT. Requests that the port itself refuses, before any block sees them (R171). -/

namespace Sys2Proof.Machine

theorem portCheck_unknown {f : Frame} (h : Kind.ofByte f.kind = none) : portCheck f = some .badKind := by
  simp [portCheck, h]

theorem portCheck_length {k : Kind} {f : Frame} (hk : Kind.ofByte f.kind = some k) (h : k.fits f.body = false) :
    portCheck f = some .badLength := by
  simp [portCheck, hk, h]

theorem portCheck_tag {k : Kind} {f : Frame} (hk : Kind.ofByte f.kind = some k) (h : k.fits f.body = true)
    (ht : f.tag = 0) : portCheck f = some .badArg := by
  have ht' : f.tag = 0#8 := ht
  simp [portCheck, hk, h, ht']

/-- Settles O8: each of the three checks of the port refuses the request, by `request_refused`. -/
theorem portRefusesBeforeTheBlocks : Obligations.PortRefusesBeforeTheBlocks := by
  unfold Obligations.PortRefusesBeforeTheBlocks
  intro s tag body hready
  refine ⟨fun kind hkind => ?_, fun k hlength => ?_, fun k hfits => ?_⟩
  · obtain ⟨hans, hquiet⟩ := request_refused (f := ⟨kind, tag, body⟩) hready (portCheck_unknown hkind)
    exact ⟨_, rfl, hans, hquiet⟩
  · rw [← replyKind_code]
    exact request_refused (f := ⟨k.code, tag, body⟩) hready (portCheck_length (kind_ofByte_code k) hlength)
  · rw [← replyKind_code]
    exact request_refused (f := ⟨k.code, 0, body⟩) hready (portCheck_tag (kind_ofByte_code k) hfits rfl)

end Sys2Proof.Machine

/-! SUPPORT. The link and the sizes of the tables, which no operation of a block writes but the reading of the vanes: what the room of the queues and the sizes rest on (R170, R174, R103, R113, R63, R148). -/

namespace Sys2Proof.Machine

/-- The sizes of the wind ring, of the drive and fan channels, of the change marks and of the items compared. -/
def sizes (s : State) : List Nat :=
  [s.yaw.ring.length, s.yaw.channels.length, s.cool.l1.fans.length, s.cool.l2.fans.length, s.cool.l3.fans.length,
    s.mode.marks.length, s.mode.base.length]

/-- The link and the sizes. -/
def shape (s : State) : Link × List Nat := (s.link, sizes s)

/-- What the reactions may write leaves every size but those of the mode record. -/
theorem shape_of_beside {s t : State} (h : beside t = beside s) (hmarks : t.mode.marks = s.mode.marks)
    (hbase : t.mode.base = s.mode.base) : shape t = shape s := by
  have hlink : t.link = s.link := (congrArg State.link h :)
  have hring : t.yaw.ring = s.yaw.ring := (congrArg (fun u => u.yaw.ring) h :)
  have hchannels : t.yaw.channels.length = s.yaw.channels.length := by
    simpa [beside, Yaw.outside] using congrArg (fun u : State => u.yaw.channels.length) h
  have h1 : t.cool.l1.fans.length = s.cool.l1.fans.length := by
    simpa [beside, LiquidLoop.outside] using congrArg (fun u : State => u.cool.l1.fans.length) h
  have h2 : t.cool.l2.fans.length = s.cool.l2.fans.length := by
    simpa [beside, LiquidLoop.outside] using congrArg (fun u : State => u.cool.l2.fans.length) h
  have h3 : t.cool.l3.fans.length = s.cool.l3.fans.length := by
    simpa [beside, AirLoop.outside] using congrArg (fun u : State => u.cool.l3.fans.length) h
  simp only [shape, sizes, hlink, hring, hchannels, h1, h2, h3, hmarks, hbase]

theorem shape_of_reaction {s t : State} (h : beside t = beside s) (hmode : t.mode = s.mode) : shape t = shape s :=
  shape_of_beside h (congrArg ModeCtl.marks hmode) (congrArg ModeCtl.base hmode)

theorem shape_forEach {α : Type} {f : α → State → State} (h : ∀ a s, shape (f a s) = shape s) (l : List α) (s : State) :
    shape (forEach l f s) = shape s := forEach_field h l s

theorem length_updateAt {α : Type} (l : List α) (i : Nat) (f : α → α) : (updateAt l i f).length = l.length :=
  List.length_modify f l i

/-! ## Plain updates -/

@[simp] theorem shape_beginEvent (s : State) : shape (beginEvent s) = shape s := rfl
@[simp] theorem shape_modYaw {f : Yaw → Yaw} {s : State} (hring : (f s.yaw).ring.length = s.yaw.ring.length)
    (hchannels : (f s.yaw).channels.length = s.yaw.channels.length) : shape (modYaw f s) = shape s := by
  simp [shape, sizes, modYaw, hring, hchannels]
@[simp] theorem shape_modGrid (f : Grid → Grid) (s : State) : shape (modGrid f s) = shape s := rfl
@[simp] theorem shape_modStr (k : StringId) (f : StringRec → StringRec) (s : State) :
    shape (modStr k f s) = shape s := rfl
@[simp] theorem shape_modLoop {l : Liquid} {f : LiquidLoop → LiquidLoop} {s : State}
    (h : (f (loopOf s l)).fans.length = (loopOf s l).fans.length) : shape (modLoop l f s) = shape s := by
  cases l <;> simpa [shape, sizes, modLoop, loopOf] using h
@[simp] theorem shape_modAir {f : AirLoop → AirLoop} {s : State} (h : (f s.cool.l3).fans.length = s.cool.l3.fans.length) :
    shape (modAir f s) = shape s := by
  simp [shape, sizes, modAir, h]
@[simp] theorem shape_modTwist (f : TwistRecord → TwistRecord) (s : State) : shape (modTwist f s) = shape s := rfl
@[simp] theorem shape_modWorking (f : Settings → Settings) (s : State) : shape (modWorking f s) = shape s := rfl
@[simp] theorem shape_withMode {x : ModeCtl} {s : State} (hmarks : x.marks.length = s.mode.marks.length)
    (hbase : x.base = s.mode.base) : shape { s with mode := x } = shape s := by
  simp [shape, sizes, hmarks, hbase]
@[simp] theorem shape_withTherm (x : Thermal) (s : State) : shape { s with therm := x } = shape s := rfl
@[simp] theorem shape_withCool {x : Cooling} {s : State} (h1 : x.l1 = s.cool.l1) (h2 : x.l2 = s.cool.l2)
    (h3 : x.l3 = s.cool.l3) : shape { s with cool := x } = shape s := by
  simp [shape, sizes, h1, h2, h3]
@[simp] theorem shape_setQueue (q : List StringId) (s : State) : shape (setQueue q s) = shape s := rfl
@[simp] theorem shape_raise (c : FaultCode) (u : Nat) (s : State) : shape (raise c u s) = shape s := rfl
@[simp] theorem shape_clearFault (c : FaultCode) (u : Nat) (s : State) : shape (clearFault c u s) = shape s := rfl
@[simp] theorem shape_setFault (c : FaultCode) (u : Nat) (b : Bool) (s : State) :
    shape (setFault c u b s) = shape s := by cases b <;> rfl
@[simp] theorem shape_rowAct (a : RowAct) (c : FaultCode) (u : Nat) (s : State) :
    shape (rowAct a c u s) = shape s := by cases a <;> rfl
@[simp] theorem shape_ackWhere (p : Nat → FaultRow → Bool) (s : State) : shape (ackWhere p s) = shape s := rfl
@[simp] theorem shape_setInlet (l : Liquid) (x : Inlet) (s : State) : shape (setInlet l x s) = shape s := rfl
@[simp] theorem shape_setMonitor (m : MonitorId) (x : Monitor) (s : State) : shape (setMonitor m x s) = shape s := by
  cases m <;> rfl
@[simp] theorem shape_oweWalk (s : State) : shape (oweWalk s) = shape s := rfl

@[simp] theorem shape_setCeiling (id : ClaimId) (n : Nat) (s : State) : shape (setCeiling id n s) = shape s := rfl
@[simp] theorem shape_submitClaim (id : ClaimId) (n : Nat) (s : State) : shape (submitClaim id n s) = shape s := rfl
@[simp] theorem shape_withdrawClaim (id : ClaimId) (s : State) : shape (withdrawClaim id s) = shape s := rfl

/-! ## Operations of the reactions, used by the commands too -/

@[simp] theorem shape_setStrState (k : StringId) (st : StrState) (s : State) : shape (setStrState k st s) = shape s :=
  shape_of_reaction (beside_setStrState k st s) rfl
@[simp] theorem shape_oweJudgement (l : Liquid) (s : State) : shape (oweJudgement l s) = shape s := shape_modLoop rfl
@[simp] theorem shape_oweBothJudgements (s : State) : shape (oweBothJudgements s) = shape s := by
  simp only [oweBothJudgements, shape_oweJudgement]
@[simp] theorem shape_testJoin (k : StringId) (s : State) : shape (testJoin k s) = shape s :=
  shape_of_reaction (beside_testJoin k s) (testJoin_mode k s)
@[simp] theorem shape_testJoins (l : List StringId) (s : State) : shape (testJoins l s) = shape s :=
  shape_of_reaction (beside_testJoins l s) (testJoins_mode l s)
@[simp] theorem shape_stopOne (b : Bool) (k : StringId) (s : State) : shape (stopOne b k s) = shape s :=
  shape_of_reaction (beside_stopOne b k s) (stopOne_mode b k s)
@[simp] theorem shape_followFanClaim (l : Liquid) (s : State) : shape (followFanClaim l s) = shape s :=
  shape_of_reaction (beside_followFanClaim l s) (followFanClaim_mode l s)
@[simp] theorem shape_proofSuccess (l : Liquid) (s : State) : shape (proofSuccess l s) = shape s :=
  shape_of_reaction (beside_proofSuccess l s) (proofSuccess_mode l s)
@[simp] theorem shape_beginTrial (l : Liquid) (p : Pump) (r : PumpRole) (s : State) :
    shape (beginTrial l p r s) = shape s :=
  shape_of_reaction (beside_beginTrial l p r s) (beginTrial_mode l p r s)
@[simp] theorem shape_completeWaiting (s : State) : shape (completeWaiting s) = shape s :=
  shape_of_reaction (beside_completeWaiting s) (completeWaiting_mode s)
@[simp] theorem shape_runningStop (s : State) : shape (runningStop s) = shape s :=
  shape_of_reaction (beside_runningStop s) (runningStop_mode s)
@[simp] theorem shape_forcedStop (s : State) : shape (forcedStop s) = shape s :=
  shape_of_reaction (beside_forcedStop s) (forcedStop_mode s)
@[simp] theorem shape_beginPressurize (s : State) : shape (beginPressurize s) = shape s := rfl
@[simp] theorem shape_beginRamp (sp : SpeedRef) (s : State) : shape (beginRamp sp s) = shape s := rfl
@[simp] theorem shape_setForced (s : State) : shape (setForced s) = shape s := rfl
@[simp] theorem shape_stopUntwistWait (s : State) : shape (stopUntwistWait s) = shape s := rfl
@[simp] theorem shape_judgeYaw (s : State) : shape (judgeYaw s) = shape s :=
  shape_of_reaction (beside_judgeYaw s) (judgeYaw_mode s)
@[simp] theorem shape_changeMode (m : Mode) (t : Option Mode) (c : Cause) (s : State) :
    shape (changeMode m t c s) = shape s := by
  have hmode := changeMode_mode m t c s
  refine shape_of_beside (beside_changeMode m t c s) ?_ ?_
  all_goals rw [hmode]; split <;> rfl
@[simp] theorem shape_endTransition (s : State) : shape (endTransition s) = shape s := by
  simp only [endTransition, apply_ite shape, shape_changeMode, ite_self]
@[simp] theorem shape_completeTransition (s : State) : shape (completeTransition s) = shape s := by
  unfold completeTransition
  repeat' split
  all_goals simp only [shape_changeMode, shape_endTransition]
@[simp] theorem shape_turn (s : State) : shape (turn s) = shape s := by
  have hmode : (turn s).mode = (completeTransition s).mode := turn_mode s
  have hbeside : beside (turn s) = beside (completeTransition s) :=
    (beside_turn s).trans (beside_completeTransition s).symm
  exact (shape_of_reaction hbeside hmode).trans (shape_completeTransition s)
@[simp] theorem shape_settle (s : State) : shape (settle s) = shape s :=
  settle_keeps (P := fun t => shape t = shape s) (fun t h => (shape_turn t).trans h)
    (fun t h => (shape_of_reaction ((beside_driveYaw _).trans (beside_driveFans t)) rfl).trans h) s rfl

/-! ## Converter supervisor -/

@[simp] theorem shape_dequeue (k : StringId) (s : State) : shape (dequeue k s) = shape s := by
  simp [dequeue]
@[simp] theorem shape_faultString (k : StringId) (s : State) : shape (faultString k s) = shape s := by
  unfold faultString; split <;> simp
@[simp] theorem shape_tripString (c : FaultCode) (k : StringId) (s : State) : shape (tripString c k s) = shape s := by
  simp [tripString]
@[simp] theorem shape_chargeSuccess (k : StringId) (s : State) : shape (chargeSuccess k s) = shape s := by
  unfold chargeSuccess; split <;> simp
@[simp] theorem shape_testCurrent (k : StringId) (n : Nat) (s : State) : shape (testCurrent k n s) = shape s := by
  simp only [testCurrent]; split
  · split <;> simp
  · simp
@[simp] theorem shape_testDcLink (k : StringId) (s : State) : shape (testDcLink k s) = shape s := by
  unfold testDcLink; split
  · simp
  · split <;> simp
@[simp] theorem shape_testGate (k : StringId) (b : Bool) (s : State) : shape (testGate k b s) = shape s := by
  unfold testGate; split <;> simp
@[simp] theorem shape_takeReport (k : StringId) (i u : Nat) (b : Bool) (s : State) :
    shape (takeReport k i u b s) = shape s := by
  simp only [takeReport]; split <;> simp
@[simp] theorem shape_timeoutPrecharge (k : StringId) (s : State) : shape (timeoutPrecharge k s) = shape s := by
  unfold timeoutPrecharge; split <;> simp
@[simp] theorem shape_disableString (k : StringId) (s : State) : shape (disableString k s) = shape s := by
  rw [disableString, shape_modStr]
  split <;> simp [stopString]
@[simp] theorem shape_enableString (k : StringId) (s : State) : shape (enableString k s) = shape s := by
  rw [enableString, shape_testJoin]
  split <;> simp
@[simp] theorem shape_silenceStep (k : StringId) (s : State) : shape (silenceStep k s) = shape s := by
  simp only [silenceStep]; split
  · simp
  · split <;> simp
@[simp] theorem shape_clearPrechargeRow (k : StringId) (s : State) : shape (clearPrechargeRow k s) = shape s := rfl
@[simp] theorem shape_releaseStep (k : StringId) (s : State) : shape (releaseStep k s) = shape s := by
  unfold releaseStep; split
  · split <;> simp
  · rfl
@[simp] theorem shape_runStep (k : StringId) (s : State) : shape (runStep k s) = shape s := by
  unfold runStep; split <;> simp
@[simp] theorem shape_limitStep (k : StringId) (s : State) : shape (limitStep k s) = shape s := by
  simp only [limitStep]; split <;> simp
@[simp] theorem shape_beforeSharing (s : State) : shape (beforeSharing s) = shape s := by
  simp only [beforeSharing]
  rw [shape_forEach shape_limitStep, shape_forEach shape_runStep, shape_forEach shape_releaseStep,
    shape_forEach shape_clearPrechargeRow, shape_forEach shape_silenceStep]

/-! ## Grid monitor, thermal model and cooling -/

@[simp] theorem shape_followOver (a b : Bool) (s : State) : shape (followOver a b s) = shape s := by
  unfold followOver; split
  · split <;> simp
  · split <;> simp
@[simp] theorem shape_armMonitor (m : MonitorId) (a : Bool) (x n : Nat) (s : State) :
    shape (armMonitor m a x n s) = shape s := by
  simp only [armMonitor]; split
  · split <;> simp
  · simp
@[simp] theorem shape_ageDips (s : State) : shape (ageDips s) = shape s := rfl
@[simp] theorem shape_qHoldEnds (s : State) : shape (qHoldEnds s) = shape s := by
  unfold qHoldEnds; split <;> simp
@[simp] theorem shape_readInlet (l : Liquid) (x : Int) (s : State) : shape (readInlet l x s) = shape s := by
  simp [readInlet]
@[simp] theorem shape_substituteInlet (l : Liquid) (s : State) : shape (substituteInlet l s) = shape s := by
  simp only [substituteInlet]; split <;> simp
@[simp] theorem shape_testJunction (k : StringId) (s : State) : shape (testJunction k s) = shape s := by
  simp only [testJunction]; split
  · split <;> simp
  · split <;> simp
@[simp] theorem shape_testDerate (k : StringId) (s : State) : shape (testDerate k s) = shape s := by
  unfold testDerate; split
  · split <;> simp
  · simp
@[simp] theorem shape_thermalInterval (a b : Int) (s : State) : shape (thermalInterval a b s) = shape s := by
  simp only [thermalInterval, shape_oweBothJudgements, shape_withTherm]
  rw [shape_forEach (by intro k t; simp)]
  simp
@[simp] theorem shape_applyThermalSettings (s : State) : shape (applyThermalSettings s) = shape s := by
  unfold applyThermalSettings
  rw [shape_forEach (by intro k t; simp [relimit])]
@[simp] theorem shape_followFanClaim3 (s : State) : shape (followFanClaim3 s) = shape s := by
  unfold followFanClaim3; split <;> simp
@[simp] theorem shape_loopFail (l : Liquid) (s : State) : shape (loopFail l s) = shape s := by
  simp only [loopFail, shape_oweJudgement, shape_setQueue]
  rw [shape_forEach (shape_stopOne true), shape_withdrawClaim, shape_withdrawClaim, shape_modLoop rfl, shape_raise]
@[simp] theorem shape_pumpFails (l : Liquid) (s : State) : shape (pumpFails l s) = shape s := by
  unfold pumpFails; split <;> simp [standbyTrial]
@[simp] theorem shape_proofTimeout (l : Liquid) (s : State) : shape (proofTimeout l s) = shape s := by
  unfold proofTimeout; split <;> simp
@[simp] theorem shape_dropTimeout (l : Liquid) (s : State) : shape (dropTimeout l s) = shape s := by
  unfold dropTimeout; split <;> simp
@[simp] theorem shape_flowChange (l : Liquid) (b : Bool) (s : State) : shape (flowChange l b s) = shape s := by
  simp only [flowChange]; split
  · split <;> simp
  all_goals simp
@[simp] theorem shape_followSelection (l : Liquid) (n : Nat) (s : State) :
    shape (followSelection l n s) = shape s := by
  rw [followSelection, shape_followFanClaim, shape_modLoop]
  split <;> rfl
@[simp] theorem shape_evaluateFailed (l : Liquid) (s : State) : shape (evaluateFailed l s) = shape s := by
  simp only [evaluateFailed]; split <;> simp
@[simp] theorem shape_evaluateLoop (l : Liquid) (x : Int) (s : State) : shape (evaluateLoop l x s) = shape s := by
  simp only [evaluateLoop, apply_ite shape, shape_evaluateFailed, shape_followSelection, shape_modLoop, ite_self]
@[simp] theorem shape_readAir (x : Int) (s : State) : shape (readAir x s) = shape s := by simp [readAir]
@[simp] theorem shape_substituteAir (s : State) : shape (substituteAir s) = shape s := by simp [substituteAir]
@[simp] theorem shape_evaluateAir (s : State) : shape (evaluateAir s) = shape s := by
  simp only [evaluateAir]
  split
  · split <;> simp
  · rw [shape_followFanClaim3, shape_modAir]
    split <;> rfl
@[simp] theorem shape_limitAir (s : State) : shape (limitAir s) = shape s := by
  unfold limitAir; split <;> simp
@[simp] theorem shape_evaluateHeaters (h : Int) (s : State) : shape (evaluateHeaters h s) = shape s := by
  simp only [evaluateHeaters, apply_ite shape, shape_submitClaim, shape_withdrawClaim, shape_withCool, ite_self]
@[simp] theorem shape_clampLoops (s : State) : shape (clampLoops s) = shape s := by simp [clampLoops, setClamp]
@[simp] theorem shape_coolingEvaluation (a b c d : Int) (s : State) :
    shape (coolingEvaluation a b c d s) = shape s := by simp [coolingEvaluation, evaluateCooling]
@[simp] theorem shape_airSubstitution (s : State) : shape (airSubstitution s) = shape s := by
  unfold airSubstitution; split <;> simp
@[simp] theorem shape_runOnExpires (l : Liquid) (s : State) : shape (runOnExpires l s) = shape s := by
  unfold runOnExpires; split <;> simp
@[simp] theorem shape_runOnExpires3 (s : State) : shape (runOnExpires3 s) = shape s := by
  simp only [runOnExpires3]; split
  · split <;> simp [airOff]
  · rfl
@[simp] theorem shape_modFan (f : FanId) (g : FanChannel → FanChannel) (s : State) :
    shape (modFan f g s) = shape s := by
  cases f
  · exact shape_modLoop (length_updateAt ..)
  · exact shape_modLoop (length_updateAt ..)
  · exact shape_modAir (length_updateAt ..)
@[simp] theorem shape_fanFails (f : FanId) (s : State) : shape (fanFails f s) = shape s := by
  simp only [fanFails]; split
  · split <;> simp [degradeLoop]
  · rfl
@[simp] theorem shape_returnFans (l : LoopId) (s : State) : shape (returnFans l s) = shape s := by
  cases l
  · exact (shape_followFanClaim _ _).trans (shape_modLoop (List.length_map _))
  · exact (shape_followFanClaim _ _).trans (shape_modLoop (List.length_map _))
  · exact (shape_followFanClaim3 _).trans (shape_modAir (List.length_map _))

/-! ## Budget, mode controller and port -/

@[simp] theorem shape_judgeCharger (s : State) : shape (judgeCharger s) = shape s := by
  unfold judgeCharger; split
  · split <;> simp
  · rfl
@[simp] theorem shape_writeMarks (a b : Bool) (s : State) : shape (writeMarks a b s) = shape s := by
  simp only [writeMarks, apply_ite shape, shape_setFault, ite_self]
  rfl
@[simp] theorem shape_judgeMarks (s : State) : shape (judgeMarks s) = shape s := by simp [judgeMarks]
@[simp] theorem shape_idleLimitExpires (s : State) : shape (idleLimitExpires s) = shape s := by
  unfold idleLimitExpires; split <;> simp
@[simp] theorem shape_testStormEntry (s : State) : shape (testStormEntry s) = shape s := by
  unfold testStormEntry; split <;> simp
@[simp] theorem shape_testCalm (s : State) : shape (testCalm s) = shape s := by
  unfold testCalm; split <;> simp
@[simp] theorem shape_calmExpires (s : State) : shape (calmExpires s) = shape s := by
  unfold calmExpires; split <;> simp
@[simp] theorem shape_estopOpens (s : State) : shape (estopOpens s) = shape s := by
  simp only [estopOpens]
  split <;> simp [shape_forEach shape_faultString]
@[simp] theorem shape_resetPressed (s : State) : shape (resetPressed s) = shape s := rfl
@[simp] theorem shape_supervisionReload (s : State) : shape (supervisionReload s) = shape s := by
  unfold supervisionReload; split <;> simp
@[simp] theorem shape_supervisionExpires (s : State) : shape (supervisionExpires s) = shape s := by
  simp only [supervisionExpires]; split
  · split
    · simp
    · split <;> simp
  · rfl
@[simp] theorem shape_storeCompletes (s : State) : shape (storeCompletes s) = shape s := by
  unfold storeCompletes; split <;> rfl
@[simp] theorem shape_clearMarks (k : Kind) (s : State) : shape (clearMarks k s) = shape s := by
  unfold clearMarks; split <;> simp

/-! ## Yaw controller -/

@[simp] theorem shape_endClearance (s : State) : shape (endClearance s) = shape s := rfl
@[simp] theorem shape_judgeDwell (k : Option MoveKind) (b : Bool) (s : State) :
    shape (judgeDwell k b s) = shape s := by
  unfold judgeDwell; split
  · rfl
  · split
    · split <;> simp
    · split <;> simp
@[simp] theorem shape_stopWaiting (s : State) : shape (stopWaiting s) = shape s := by simp [stopWaiting]
@[simp] theorem shape_normalStop (s : State) : shape (normalStop s) = shape s := by
  unfold normalStop; split <;> simp
@[simp] theorem shape_stopKind (k : MoveKind) (s : State) : shape (stopKind k s) = shape s := by
  unfold stopKind; split <;> simp
@[simp] theorem shape_setOwner (o : Owner) (s : State) : shape (setOwner o s) = shape s := by
  simp only [setOwner]; split <;> simp
@[simp] theorem shape_keyReaches (a b : KeyPos) (s : State) : shape (keyReaches a b s) = shape s := by
  simp only [keyReaches]; split
  · simp
  · split <;> simp
@[simp] theorem shape_judgeDrives (s : State) : shape (judgeDrives s) = shape s := by simp [judgeDrives]
@[simp] theorem shape_raiseTwistHard (s : State) : shape (raiseTwistHard s) = shape s := rfl
@[simp] theorem shape_untwistBecomesDue (s : State) : shape (untwistBecomesDue s) = shape s := shape_modYaw rfl rfl
@[simp] theorem shape_windowsAct (s : State) : shape (windowsAct s) = shape s := rfl
@[simp] theorem shape_completeMove (b : Bool) (s : State) : shape (completeMove b s) = shape s := by
  rw [completeMove, shape_judgeDwell, shape_withdrawClaim, shape_modYaw rfl rfl]
@[simp] theorem shape_sensorStop (s : State) : shape (sensorStop s) = shape s := by
  unfold sensorStop; split
  · split <;> simp
  all_goals simp
@[simp] theorem shape_brakeFailed (s : State) : shape (brakeFailed s) = shape s := by
  simp only [brakeFailed]
  split
  · rw [shape_modYaw rfl rfl]
    split <;> simp
  · simp
@[simp] theorem shape_startMove (k : MoveKind) (d : Dir) (x : Option Int) (s : State) :
    shape (startMove k d x s) = shape s := by simp [startMove]
@[simp] theorem shape_ventSettles (s : State) : shape (ventSettles s) = shape s := by
  unfold ventSettles; split
  · split <;> simp
  · rfl
@[simp] theorem shape_pressurizeSettles (s : State) : shape (pressurizeSettles s) = shape s := by
  unfold pressurizeSettles; split
  · split <;> simp
  · rfl
@[simp] theorem shape_rampSettles (s : State) : shape (rampSettles s) = shape s := by
  unfold rampSettles; split <;> simp
@[simp] theorem shape_startUntwist (x : Int) (s : State) : shape (startUntwist x s) = shape s := by
  simp [startUntwist]
@[simp] theorem shape_twistSensorFails (s : State) : shape (twistSensorFails s) = shape s := by
  simp [twistSensorFails]
@[simp] theorem shape_applyHardLimit (s : State) : shape (applyHardLimit s) = shape s := by
  unfold applyHardLimit; split
  · rfl
  · split
    · split
      · split
        · simp only; split <;> simp
        · rfl
      all_goals simp
    · rfl
@[simp] theorem shape_judgeSoftLimit (s : State) : shape (judgeSoftLimit s) = shape s := by
  unfold judgeSoftLimit; split
  · split <;> simp
  · rfl
@[simp] theorem shape_judgeUntwistEnd (s : State) : shape (judgeUntwistEnd s) = shape s := by
  unfold judgeUntwistEnd; split
  · split <;> simp
  · rfl
@[simp] theorem shape_carryStop (s : State) (x : Int) : shape (carryStop s x) = shape s := by
  unfold carryStop; split
  · rfl
  · split
    · split <;> simp
    · rfl
@[simp] theorem shape_applyTheta (s : State) : shape (applyTheta s) = shape s := by
  simp only [applyTheta]; split
  · simp
  · simp only [shape_carryStop]; split <;> simp
@[simp] theorem shape_encoderUpdate (r : EncoderReading) (s : State) : shape (encoderUpdate r s) = shape s := by
  simp only [encoderUpdate]; split
  · simp
  · split
    · split <;> simp
    · simp
/-- The ring takes an entry for the one that it drops. -/
theorem shape_sampleVanes (a b : Reading) (w : Nat) {s : State} (h : s.yaw.ring ≠ []) :
    shape (sampleVanes a b w s) = shape s := by
  simp only [sampleVanes, apply_ite shape, shape_raise, shape_clearFault, shape_setFault, ite_self]
  refine shape_modYaw ?_ rfl
  have hpos := List.length_pos_of_ne_nil h
  simp only [List.length_append, List.length_tail, List.length_singleton]
  omega
@[simp] theorem shape_formMeans (s : State) : shape (formMeans s) = shape s := shape_modYaw rfl rfl
@[simp] theorem shape_formCap (s : State) : shape (formCap s) = shape s := by
  refine shape_modYaw ?_ ?_ <;> split <;> rfl
theorem shape_sampleWind (a b : Reading) (w : Nat) {s : State} (h : s.yaw.ring ≠ []) :
    shape (sampleWind a b w s) = shape s := by
  have hring : (modYaw (fun y => { y with sampleNo := y.sampleNo + 1 }) s).yaw.ring ≠ [] := h
  rw [sampleWind, shape_formCap, shape_formMeans, shape_sampleVanes a b w hring, shape_modYaw rfl rfl]
@[simp] theorem shape_clearBrakeFault (s : State) : shape (clearBrakeFault s) = shape s := by
  unfold clearBrakeFault; split <;> simp
@[simp] theorem shape_testStops (s : State) : shape (testStops s) = shape s := by
  unfold testStops; split
  · simp
  · split <;> simp
@[simp] theorem shape_testUntwistWait (w : Nat) (s : State) : shape (testUntwistWait w s) = shape s := by
  simp only [testUntwistWait]; split
  · split
    · split <;> simp
    · split <;> simp
  · rfl
@[simp] theorem shape_testAutoStart (s : State) : shape (testAutoStart s) = shape s := by
  unfold testAutoStart; split
  · split
    · rfl
    · split <;> simp
  · rfl
@[simp] theorem shape_testStarts (s : State) : shape (testStarts s) = shape s := by
  unfold testStarts; split
  · split <;> simp
  · simp
@[simp] theorem shape_startClearanceMove (n : Nat) (x : Int) (s : State) :
    shape (startClearanceMove n x s) = shape s := by
  simp only [startClearanceMove]; split <;> simp
@[simp] theorem shape_testClearance (s : State) : shape (testClearance s) = shape s := by
  unfold testClearance; split
  · rfl
  · split
    · rfl
    · split <;> simp
@[simp] theorem shape_sampleMotion (w : Nat) (s : State) : shape (sampleMotion w s) = shape s := by
  simp only [sampleMotion]; split <;> simp
theorem shape_yawSample (a b : Reading) (w : Int) {s : State} (h : s.yaw.ring ≠ []) :
    shape (yawSample a b w s) = shape s := by
  rw [yawSample, shape_sampleMotion, shape_judgeYaw, shape_clearBrakeFault, shape_testCalm, shape_testStormEntry,
    shape_sampleWind a b _ h]
@[simp] theorem shape_takeManual (s : State) : shape (takeManual s) = shape s := rfl
@[simp] theorem shape_jog (d : Dir) (s : State) : shape (jog d s) = shape s := by
  rw [jog, shape_modYaw rfl rfl]
  split
  · simp
  · rw [shape_modYaw rfl rfl, shape_takeManual]
@[simp] theorem shape_goTo (x y : Int) (s : State) : shape (goTo x y s) = shape s := by
  have htaken : shape (modYaw (fun y => { y with manualTimer := none }) (takeManual s)) = shape s :=
    (shape_modYaw rfl rfl).trans (shape_takeManual s)
  simp only [goTo]
  split
  · split
    · exact htaken
    · rw [shape_startMove, htaken]
  · exact (shape_modYaw rfl rfl).trans htaken
@[simp] theorem shape_manualStop (s : State) : shape (manualStop s) = shape s := by simp [manualStop]
@[simp] theorem shape_manualAuto (s : State) : shape (manualAuto s) = shape s := by
  simp only [manualAuto]; split <;> simp
@[simp] theorem shape_pressJog (d : Dir) (s : State) : shape (pressJog d s) = shape s := by
  simp only [pressJog]; split
  · split <;> simp
  · rfl
@[simp] theorem shape_releaseJog (d : Dir) (s : State) : shape (releaseJog d s) = shape s := by
  unfold releaseJog; split <;> simp
@[simp] theorem shape_manualTimeout (s : State) : shape (manualTimeout s) = shape s := by
  unfold manualTimeout; split <;> simp
@[simp] theorem shape_driveFails (c : Fin 10) (s : State) : shape (driveFails c s) = shape s := by
  simp only [driveFails]
  split
  · rw [shape_judgeDrives, shape_raise, shape_modYaw rfl (length_updateAt ..)]
  · rfl
@[simp] theorem shape_returnDrives (l : List (Fin 10)) (s : State) : shape (returnDrives l s) = shape s := by
  simp only [returnDrives, shape_judgeDrives]
  rw [shape_forEach (by intro c t; simp), shape_modYaw rfl (List.length_mapIdx ..)]
@[simp] theorem shape_clearanceBecomesDue (s : State) : shape (clearanceBecomesDue s) = shape s := by
  unfold clearanceBecomesDue; split
  · rfl
  · split <;> simp
@[simp] theorem shape_setReference (x : Int) (a : Nat) (s : State) : shape (setReference x a s) = shape s := by
  simp only [setReference, shape_clearanceBecomesDue, shape_judgeUntwistEnd, shape_judgeSoftLimit,
    shape_clearFault, shape_windowsAct]
  rfl
@[simp] theorem shape_applyTwistLimits (old : Settings) (s : State) : shape (applyTwistLimits old s) = shape s := by
  simp only [applyTwistLimits]
  split <;> split <;> simp
@[simp] theorem shape_untwistWaitExpires (s : State) : shape (untwistWaitExpires s) = shape s := by
  simp only [untwistWaitExpires]; split
  · split <;> simp
  · rfl
@[simp] theorem shape_commandUntwist (x : Int) (s : State) : shape (commandUntwist x s) = shape s := by
  simp only [commandUntwist]; split <;> simp
@[simp] theorem shape_watchProof (p : BrakeProof) (b : Bool) (s : State) : shape (watchProof p b s) = shape s := by
  unfold watchProof; split <;> simp
@[simp] theorem shape_proofLost (p : BrakeProof) (s : State) : shape (proofLost p s) = shape s := by
  unfold proofLost; split
  · split <;> simp
  · split <;> simp

/-! ## Grid monitor and share interval -/

@[simp] theorem shape_withConv (x : Converter) (s : State) : shape { s with conv := x } = shape s := rfl

theorem shape_of_budget {s t : State} (h : BudgetStep s t) : shape t = shape s := h.field fun _ _ _ => rfl

@[simp] theorem shape_sampleMonitor (m : MonitorId) (s : State) : shape (sampleMonitor m s).1 = shape s := by
  simp only [sampleMonitor]; split <;> simp
@[simp] theorem shape_enterLost (s : State) : shape (enterLost s) = shape s := by
  have hmode (t : State) : shape (modeOnLost t) = shape t := by
    unfold modeOnLost; split <;> simp
  rw [enterLost, shape_of_budget (budgetStep_auxOnLost _), hmode,
    shape_of_reaction (beside_stopStrings true _) (stopStrings_mode true _)]
  simp
@[simp] theorem shape_lostBy (c : FaultCode) (s : State) : shape (lostBy c s) = shape s := by simp [lostBy]
@[simp] theorem shape_beginDip (s : State) : shape (beginDip s) = shape s := by
  simp only [beginDip]; split <;> simp [enterDip, addDip, shape_of_budget (budgetStep_auxOnDip _)]
@[simp] theorem shape_applyM1 (e : MonitorEvent) (s : State) : shape (applyM1 e s) = shape s := by
  unfold applyM1; split <;> simp [beginRecovery, shape_of_budget (budgetStep_auxOnRecovering _)]
@[simp] theorem shape_checkOver (s : State) : shape (checkOver s) = shape s := by
  unfold checkOver; split
  · split <;> simp
  · rfl
@[simp] theorem shape_recoveryEnds (s : State) : shape (recoveryEnds s) = shape s := by
  simp [recoveryEnds, shape_of_budget (budgetStep_auxOnNormal _)]
@[simp] theorem shape_gridReturns (s : State) : shape (gridReturns s) = shape s := by
  have hmode (t : State) : shape (modeOnReturn t) = shape t := by
    unfold modeOnReturn; split <;> simp
  simp [gridReturns, shape_of_budget (budgetStep_auxOnNormal _), hmode]
@[simp] theorem shape_checkTiming (s : State) : shape (checkTiming s) = shape s := by
  unfold checkTiming; split
  · simp only [checkDip]; split <;> simp
  · simp only [checkRecovery]; split <;> simp
  · simp only [checkReturn]; split
    · split <;> simp
    · simp
  · rfl
@[simp] theorem shape_gridSample (n : Nat) (s : State) : shape (gridSample n s) = shape s := by
  simp [gridSample, takeVoltage]
@[simp] theorem shape_rideThroughEnds (s : State) : shape (rideThroughEnds s) = shape s := by
  unfold rideThroughEnds; split
  · split <;> simp
  · rfl
@[simp] theorem shape_recoveryTimesOut (s : State) : shape (recoveryTimesOut s) = shape s := by
  unfold recoveryTimesOut; split <;> simp
@[simp] theorem shape_overTimesOut (s : State) : shape (overTimesOut s) = shape s := by
  unfold overTimesOut; split <;> simp
@[simp] theorem shape_dwellCompletes (s : State) : shape (dwellCompletes s) = shape s := by
  unfold dwellCompletes; split <;> simp
@[simp] theorem shape_bridgeExpires (s : State) : shape (bridgeExpires s) = shape s := by
  unfold bridgeExpires; split
  · exact shape_of_budget (budgetStep_sourceToBattery s)
  · rfl
@[simp] theorem shape_normalCountExpires (s : State) : shape (normalCountExpires s) = shape s := by
  unfold normalCountExpires; split
  · exact shape_of_budget (budgetStep_sourceToGrid s)
  · rfl
@[simp] theorem shape_accountBattery (s : State) : shape (accountBattery s) = shape s := by
  have hwrite : shape (writeEnergy (energyAfter s) s) = shape s := rfl
  simp only [accountBattery, accountCharger]; split <;> simp [hwrite]
@[simp] theorem shape_completeStop (k : StringId) (s : State) : shape (completeStop k s) = shape s := by
  simp only [completeStop]; split
  · simp
  · split <;> simp
@[simp] theorem shape_stoppingStep (k : StringId) (s : State) : shape (stoppingStep k s) = shape s := by
  simp only [stoppingStep]; split
  · split
    · simp
    · split <;> simp
  · rfl
@[simp] theorem shape_joinEntered (old : State) (k : StringId) (s : State) : shape (joinEntered old k s) = shape s := by
  unfold joinEntered; split <;> simp
@[simp] theorem shape_shareInterval (s : State) : shape (shareInterval s) = shape s := by
  have hcommand (t : State) : shape (commandStep t) = shape t := rfl
  have hsharing (t : State) : shape (sharingStep t) = shape t := by
    unfold sharingStep; split <;> rfl
  simp only [shareInterval, hcommand]
  rw [shape_forEach (shape_joinEntered s), shape_forEach shape_stoppingStep, hsharing, shape_beforeSharing]

/-! ## Requests -/

@[simp] theorem shape_accept (s : State) : shape (accept s).2 = shape s := shape_settle s
@[simp] theorem shape_acceptClamped (b : Bool) (s : State) : shape (acceptClamped b s).2 = shape s := shape_settle s
@[simp] theorem shape_refuse (st : Status) (s : State) : shape (refuse st s).2 = shape s := rfl
@[simp] theorem shape_writeEnergy (n : Nat) (s : State) : shape (writeEnergy n s) = shape s := rfl

theorem shape_applySetting (i : SettingId) (old : Settings) (s : State) : shape (applySetting i old s) = shape s := by
  cases i
  case td | tx => exact shape_applyThermalSettings s
  case softLimit | hardLimit => exact shape_applyTwistLimits old s
  all_goals rfl

theorem shape_serveSetting (i : SettingId) (x : Int) (s : State) : shape (serveSetting i x s).2 = shape s := by
  simp only [serveSetting]
  repeat' split
  all_goals simp only [shape_refuse, shape_acceptClamped, shape_applySetting, shape_modWorking]

theorem shape_serveYawCommand (body : List Byte) (s : State) : shape (serveYawCommand body s).2 = shape s := by
  simp only [serveYawCommand, serveJog, serveGoTo, serveYawStop, serveYawAuto, serveUntwist]
  repeat' split
  all_goals simp only [shape_refuse, shape_accept, shape_jog, shape_goTo, shape_manualStop, shape_manualAuto,
    shape_commandUntwist]

/-- A block's answer leaves the link and the sizes. -/
theorem shape_serve (k : Kind) (body : List Byte) (s : State) : shape (serve k body s).2 = shape s := by
  cases k
  case yawCommand => exact shape_serveYawCommand body s
  case setSetting =>
    simp only [serve, serveSetSetting]
    repeat' split
    all_goals simp only [shape_refuse, shape_serveSetting]
  case setMode | claimControl | setStringEnable | armGridMonitor | setCooling | setAuxReserves | setHoist | setBatteryEnergy |
      setDriveSlots | setTwistReference | ackFault =>
    simp only [serve, serveSetMode, serveClaimControl, serveSetStringEnable, serveArmGridMonitor, serveSetCooling,
      serveLiquidCooling, serveSetAuxReserves, serveSetHoist, serveSetBatteryEnergy, serveSetDriveSlots,
      serveSetTwistReference, serveAckFault]
    repeat' split
    all_goals simp
  all_goals
    simp only [serve, serveRead, serveSetTime, serveRestart, serveEnableSupervision, serveSetPower, serveSetRideThrough,
      serveSetYawPolicy, serveSetNoDwellWindow, serveGetFaults, serveSetFaultClass, serveGetSnapshot,
      serveClearSnapshot, serveClearCounts, serveGetSetting, serveStoreSettings, serveLockSettings]
    repeat' split
    all_goals rfl

end Sys2Proof.Machine

/-! SUPPORT. The queues within their room and the tables at their sizes: the port by what its own operations queue, the change marks by the comparison of the items, the fault table by its walk, and every other operation by leaving link and sizes alone (R103, R113, R148, R151, R159, R170, R174). -/

namespace Sys2Proof.Machine

/-! ## What is kept -/

/-- The queues of a link within their room (R170, R174). -/
def LinkFits (l : Link) : Prop :=
  l.inbound.length ≤ 8 ∧ l.outbound.length ≤ 16 ∧ (l.outbound.filter (·.notice)).length ≤ 8

/-- The sizes of R103, R113, R63 and R148. -/
def fullSizes : List Nat := [60, 10, 4, 4, 3, 20, 20]

theorem sizes_eq_iff (s : State) :
    sizes s = fullSizes ↔ s.yaw.ring.length = 60 ∧ s.yaw.channels.length = 10 ∧ s.cool.l1.fans.length = 4 ∧
      s.cool.l2.fans.length = 4 ∧ s.cool.l3.fans.length = 3 ∧ s.mode.marks.length = 20 ∧ s.mode.base.length = 20 := by
  simp [sizes, fullSizes]

/-- The queues within their room, and every table at its size but those of the fault table. -/
structure Fits (s : State) : Prop where
  link : LinkFits s.link
  sizes : sizes s = fullSizes

/-- The sizes of the fault table (R151, R159). -/
def TableSized (t : FaultTable) : Prop := t.rows.length = 79 ∧ t.slots.length = 8

theorem sized_iff (s : State) : QueuesSound s ∧ Sized s ↔ Fits s ∧ HasTable TableSized s := by
  constructor
  · rintro ⟨hlink, hrows, hslots, hsizes⟩
    exact ⟨⟨hlink, (sizes_eq_iff s).mpr hsizes⟩, hrows, hslots⟩
  · rintro ⟨⟨hlink, hsizes⟩, hrows, hslots⟩
    exact ⟨hlink, hrows, hslots, (sizes_eq_iff s).mp hsizes⟩

theorem Fits.of_shape {s t : State} (h : Fits s) (hshape : shape t = shape s) : Fits t := by
  obtain ⟨hlink, hsizes⟩ := Prod.mk.inj hshape
  exact ⟨hlink ▸ h.link, hsizes.trans h.sizes⟩

theorem Fits.modLink {s : State} (h : Fits s) {f : Link → Link} (hlink : LinkFits (f s.link)) :
    Fits (Machine.modLink f s) := ⟨hlink, h.sizes⟩

theorem Fits.ring {s : State} (h : Fits s) : s.yaw.ring ≠ [] := by
  obtain ⟨hlength, -⟩ := (sizes_eq_iff s).mp h.sizes
  exact List.ne_nil_of_length_eq_add_one hlength

/-! ## The fault table -/

theorem tableSized_capture {t : FaultTable} (h : TableSized t) (i : Nat) (snap : Snapshot) :
    TableSized (capture t i snap) := by
  obtain ⟨hrows, hslots⟩ := h
  unfold capture
  split
  · exact ⟨(length_updateAt ..).trans hrows, hslots⟩
  · exact ⟨(length_updateAt ..).trans ((List.length_map _).trans hrows), List.length_set.trans hslots⟩

theorem tableSized_raise {s : State} (h : HasTable TableSized s) (c : FaultCode) (u : Nat) :
    HasTable TableSized (raise c u s) := by
  have hentered : TableSized { s.faults with rows := updateAt s.faults.rows (rowOf c u) (enterActive s (rowOf c u)) } :=
    ⟨(length_updateAt ..).trans h.1, h.2⟩
  show TableSized (raiseIn s (rowOf c u))
  unfold raiseIn
  split
  · exact h
  · simp only
    split
    · exact tableSized_capture hentered _ _
    · exact hentered

theorem tableSized_tableKeeps : TableKeeps TableSized where
  raised h := tableSized_raise h _ _
  cleared h := ⟨(length_updateAt ..).trans h.1, h.2⟩
  acked h := ⟨List.length_mapIdx.trans h.1, h.2⟩
  taken h := ⟨(length_updateAt ..).trans h.1, h.2⟩
  classed h := ⟨List.length_mapIdx.trans h.1, h.2⟩
  freed h := ⟨(List.length_map _).trans h.1, List.length_set.trans h.2⟩
  counted h := ⟨List.length_mapIdx.trans h.1, h.2⟩
  reset := ⟨List.length_replicate, List.length_replicate⟩

/-! ## The change marks (R148) -/

theorem length_statusItems (s : State) : (statusItems s).length = 20 := rfl

theorem length_marksAfter (marks : List Bool) (before after : List Nat) :
    (marksAfter marks before after).length = marks.length := by
  induction marks generalizing before after with
  | nil => rfl
  | cons m ms ih =>
    cases before with
    | nil => rfl
    | cons a as =>
      cases after with
      | nil => rfl
      | cons b bs => exact congrArg (· + 1) (ih as bs)

theorem fits_updateMarks {s : State} (h : Fits s) : Fits (updateMarks s) := by
  obtain ⟨hring, hchannels, h1, h2, h3, hmarks, -⟩ := (sizes_eq_iff s).mp h.sizes
  exact ⟨h.link, (sizes_eq_iff _).mpr
    ⟨hring, hchannels, h1, h2, h3, (length_marksAfter ..).trans hmarks, length_statusItems s⟩⟩

/-! ## Frames queued -/

theorem LinkFits.queued {l : Link} (h : LinkFits l) {f : OutFrame} (hroom : l.outbound.length < 16)
    (hnotice : f.notice = true → (l.outbound.filter (·.notice)).length < 8) :
    LinkFits { l with outbound := l.outbound ++ [f] } := by
  obtain ⟨hin, -, hnotices⟩ := h
  refine ⟨hin, by simpa using hroom, ?_⟩
  rw [List.filter_append, List.length_append]
  cases hf : f.notice with
  | false => simpa [hf] using hnotices
  | true => simpa [hf] using hnotice hf

theorem fits_queueReply {s : State} (h : Fits s) (hroom : s.link.outbound.length < 16) (kind tag : Byte) (st : Status)
    (content : List Byte) (restart : Bool) : Fits (queueReply kind tag st content restart s) := by
  have hlink := h.link.queued (f := ⟨⟨kind, tag, u8 st.code ++ u8 (linkFlags s) ++ content⟩, false, restart⟩) hroom nofun
  simp only [queueReply]
  split <;> exact ⟨hlink, h.sizes⟩

theorem fits_serveFrame (f : Frame) {s : State} (h : Fits s) (hroom : s.link.outbound.length < 16) :
    Fits (serveFrame f s) := by
  simp only [serveFrame]
  split
  · next k _ _ =>
    have hmarked : Fits (updateMarks (serve k f.body s).2) := fits_updateMarks (h.of_shape (shape_serve k f.body s))
    have hlink : (clearMarks k (updateMarks (serve k f.body s).2)).link = s.link :=
      (congrArg Prod.fst (shape_clearMarks k _)).trans (serve_link k f.body s)
    exact fits_queueReply (hmarked.of_shape (shape_clearMarks k _)) (hlink ▸ hroom) _ _ _ _ _
  · exact fits_queueReply h hroom _ _ _ _ _
  · exact h

theorem room_of_mayServe {s : State} (h : mayServe s = true) : s.link.outbound.length < 16 := by
  simp only [mayServe, Bool.and_eq_true, decide_eq_true_eq] at h
  exact h.1.1

theorem fits_pump (n : Nat) {s : State} (h : Fits s) : Fits (pump n s) := by
  induction n generalizing s with
  | zero => exact h
  | succ n ih =>
    rw [pump]
    split
    · next hmay =>
      split
      · exact h
      · next f rest hqueue =>
        obtain ⟨hin, hout⟩ := h.link
        have hrest : rest.length ≤ 8 := by
          rw [hqueue, List.length_cons] at hin
          omega
        have hleft : Fits (modLink (fun l => { l with inbound := rest }) s) := h.modLink ⟨hrest, hout⟩
        exact ih (fits_serveFrame f hleft (room_of_mayServe hmay))
    · exact h

theorem fits_acceptFrame (f : Frame) {s : State} (h : Fits s) : Fits (acceptFrame f s) := by
  have hreload : Fits (supervisionReload s) := h.of_shape (shape_supervisionReload s)
  simp only [acceptFrame]
  split
  · next hroom => exact hreload.modLink ⟨by simpa using hroom, hreload.link.2⟩
  · exact ⟨hreload.link, hreload.sizes⟩

theorem fits_takeFrame (f : Frame) {s : State} (h : Fits s) : Fits (takeFrame f s) := fits_pump 9 (fits_acceptFrame f h)

theorem fits_parserEffects (l : List ParserEvent) {s : State} (h : Fits s) : Fits (parserEffects l s) := by
  refine forEach_keeps (fun e t ht => ?_) l s h
  cases e with
  | discarded => exact ⟨ht.link, ht.sizes⟩
  | accepted f => exact fits_takeFrame f ht

theorem fits_takeByte (b : Byte) (time : Nat) {s : State} (h : Fits s) : Fits (takeByte b time s) :=
  fits_parserEffects _ (h.modLink h.link)

theorem fits_takeGap {s : State} (h : Fits s) : Fits (takeGap s) := fits_parserEffects _ (h.modLink h.link)

theorem fits_endBreak {s : State} (h : Fits s) : Fits (endBreak s) := fits_pump 9 (h.modLink h.link)

/-! ## Notices and the end of an event (R174) -/

theorem fits_queueNotice (f : Frame) {s : State} (h : Fits s) (hmay : mayTakeNotice s = true) : Fits (queueNotice f s) := by
  simp only [mayTakeNotice, Bool.and_eq_true, decide_eq_true_eq] at hmay
  obtain ⟨⟨⟨hnotices, hroom⟩, -⟩, -⟩ := hmay
  exact ⟨h.link.queued (Nat.lt_succ_of_lt hroom) fun _ => hnotices, h.sizes⟩

theorem fits_takeModeNotice {s : State} (h : Fits s) : Fits (takeModeNotice s) := by
  unfold takeModeNotice
  split
  · next hmay =>
    have hqueued := fits_queueNotice (modeNotice s) h (Bool.and_eq_true_iff.mp hmay).2
    exact ⟨hqueued.link, hqueued.sizes⟩
  · exact h

theorem fits_takeFaultNotice {s : State} (h : Fits s) : Fits (takeFaultNotice s) := by
  unfold takeFaultNotice
  split
  · next hmay =>
    split
    · next i _ =>
      have hqueued := fits_queueNotice (faultNotice s i) h (Bool.and_eq_true_iff.mp hmay).1
      exact ⟨hqueued.link, hqueued.sizes⟩
    · exact h
  · exact h

theorem fits_takeFaultNotices (n : Nat) {s : State} (h : Fits s) : Fits (takeFaultNotices n s) := by
  induction n generalizing s with
  | zero => exact h
  | succ n ih => exact ih (fits_takeFaultNotice h)

theorem fits_finish {s : State} (h : Fits s) : Fits (finish s) :=
  fits_takeFaultNotices 8 (fits_takeModeNotice (fits_updateMarks h))

/-- An event whose own effect keeps room and sizes. -/
theorem fits_event {f : State → State} (hf : ∀ u, Fits u → Fits (f u)) {s : State} (h : Fits s) : Fits (event f s) := by
  unfold event
  split
  · exact fits_finish (hf (beginEvent s) (h.of_shape (shape_beginEvent s)))
  · exact h

/-- An event whose own effect leaves link and sizes. -/
theorem fits_event_of_shape {f : State → State} (hf : ∀ u, shape (f u) = shape u) {s : State} (h : Fits s) :
    Fits (event f s) := fits_event (fun u hu => hu.of_shape (hf u)) h

/-- An event with its reactions, whose own effect leaves link and sizes. -/
theorem fits_react_of_shape {f : State → State} (hf : ∀ u, shape (f u) = shape u) {s : State} (h : Fits s) :
    Fits (react f s) := fits_event_of_shape (fun u => (shape_settle (f u)).trans (hf u)) h

/-! ## Starts -/

theorem linkFits_atStart (broken : Bool) : LinkFits { Link.atStart with breakOn := broken } :=
  ⟨Nat.zero_le _, Nat.zero_le _, Nat.zero_le _⟩

/-- The channels of a start are those it finds, the ring and the marks are new. -/
theorem sizes_of_started {s t : State} (h : sizes s = fullSizes) (hring : t.yaw.ring = Yaw.atStart.ring)
    (hchannels : t.yaw.channels = s.yaw.channels.map DriveChannel.started)
    (h1 : t.cool.l1.fans = s.cool.l1.fans.map FanChannel.started)
    (h2 : t.cool.l2.fans = s.cool.l2.fans.map FanChannel.started)
    (h3 : t.cool.l3.fans = s.cool.l3.fans.map FanChannel.started)
    (hmarks : t.mode.marks = ModeCtl.atStart.marks) (hbase : t.mode.base = ModeCtl.atStart.base) :
    sizes t = fullSizes := by
  obtain ⟨-, hdrives, hfans1, hfans2, hfans3, -⟩ := (sizes_eq_iff s).mp h
  rw [sizes_eq_iff, hring, hchannels, h1, h2, h3, hmarks, hbase]
  exact ⟨rfl, (List.length_map _).trans hdrives, (List.length_map _).trans hfans1, (List.length_map _).trans hfans2,
    (List.length_map _).trans hfans3, rfl, rfl⟩

theorem fits_startBlocks (reading : Nat) {s : State} (h : Fits s) : Fits (startBlocks reading s) :=
  ⟨linkFits_atStart _, sizes_of_started h.sizes rfl rfl rfl rfl rfl rfl rfl⟩

theorem fits_powerFails {s : State} (h : Fits s) : Fits (powerFails s) :=
  ⟨linkFits_atStart _, sizes_of_started h.sizes rfl rfl rfl rfl rfl rfl rfl⟩

/-- What a start settles leaves link and sizes, with the items compared afresh. -/
theorem fits_startSettles (twistLost imageLost : Bool) {s : State} (h : Fits s) :
    Fits (startSettles twistLost imageLost s) := by
  have hbase : (startSettles twistLost imageLost s).mode.base.length = 20 := rfl
  obtain ⟨_, _, _, _, _, _, hkept⟩ := startKept_startSettles twistLost imageLost s
  rw [hkept] at hbase ⊢
  obtain ⟨hring, hchannels, h1, h2, h3, hmarks, -⟩ := (sizes_eq_iff s).mp h.sizes
  exact ⟨h.link, (sizes_eq_iff _).mpr ⟨hring, hchannels, h1, h2, h3, hmarks, hbase⟩⟩

theorem fits_warmRestart (reading : Nat) {s : State} (h : Fits s) : Fits (warmRestart reading s) :=
  fits_startSettles _ _ (fits_startBlocks reading ⟨h.link, h.sizes⟩)

theorem fits_coldStart (reading : Nat) {s : State} (h : Fits s) : Fits (coldStart reading s) := by
  have hoff := fits_powerFails h
  unfold coldStart
  have hstarted := fits_startBlocks reading (s := { powerFails s with
    lines := { (powerFails s).lines with gridVolts := reading }
    store := loadImage (powerFails s).store
    retained := checkRetained (powerFails s).retained }) ⟨hoff.link, hoff.sizes⟩
  exact fits_startSettles _ _ ⟨hstarted.link, hstarted.sizes⟩

/-! ## The line, where a start may begin -/

theorem fits_frameLeaves {s : State} (h : Fits s) : Fits (frameLeaves s) := by
  simp only [frameLeaves]
  split
  · exact h
  · next f rest hqueue =>
    have hrest : Fits (modLink (fun l => { l with outbound := rest }) s) := by
      obtain ⟨hin, hout, hnotices⟩ := h.link
      rw [hqueue] at hout hnotices
      have hsub := (List.sublist_cons_self f rest).filter (·.notice)
      exact h.modLink ⟨hin, (Nat.le_succ _).trans hout, hsub.length_le.trans hnotices⟩
    split
    · exact fits_warmRestart _ hrest
    · exact fits_finish (fits_pump 9 hrest)

theorem fits_breakLine {s : State} (h : Fits s) : Fits (breakLine s) := by
  have hbroken : Fits (modLink (fun _ => { Link.atStart with breakOn := true }) s) := h.modLink (linkFits_atStart true)
  simp only [breakLine]
  split
  · exact fits_warmRestart _ ⟨hbroken.link, hbroken.sizes⟩
  · exact fits_finish ⟨hbroken.link, hbroken.sizes⟩

/-! ## Every command -/

theorem shape_runOnOf (l : LoopId) (s : State) : shape (runOnOf l s) = shape s := by
  cases l
  · exact shape_runOnExpires .l1 s
  · exact shape_runOnExpires .l2 s
  · exact shape_runOnExpires3 s

theorem shape_holdButton (d : Dir) (held : Bool) (s : State) : shape (holdButton d held s) = shape s := by
  cases d <;> rfl

theorem shape_showProof (p : BrakeProof) (present : Bool) (s : State) : shape (showProof p present s) = shape s := by
  cases p <;> rfl

/-- Every command keeps the queues within their room and the tables at their sizes. -/
theorem fits_exec (c : Instr) {s : State} (h : Fits s) : ∃ t, exec c s = .next t ∧ Fits t := by
  cases c
  case coldStart u => exact ⟨_, rfl, fits_coldStart u h⟩
  case warmRestart u =>
    refine ⟨_, rfl, ?_⟩
    split
    · exact fits_warmRestart u (h.of_shape (shape_beginEvent s))
    · exact h
  case powerFailure => exact ⟨_, rfl, fits_powerFails h⟩
  case byteArrival b time => exact ⟨_, rfl, fits_event (fun _ => fits_takeByte b time) h⟩
  case frameGapTimeout => exact ⟨_, rfl, fits_event (fun _ => fits_takeGap) h⟩
  case frameSent =>
    refine ⟨_, rfl, ?_⟩
    split
    · exact fits_frameLeaves (h.of_shape (shape_beginEvent s))
    · exact h
  case linkBreak =>
    have hline : Fits (setLines (fun l => { l with lineAtBreak := true }) s) := h.of_shape rfl
    refine ⟨_, rfl, ?_⟩
    split
    · exact fits_breakLine (hline.of_shape (shape_beginEvent _))
    · exact hline
  case linkBreakEnd => exact ⟨_, rfl, fits_event (fun _ => fits_endBreak) (h.of_shape rfl)⟩
  case takeModeNotice => exact ⟨_, rfl, fits_event (fun _ => fits_takeModeNotice) h⟩
  case takeFaultNotice => exact ⟨_, rfl, fits_event (fun _ => fits_takeFaultNotice) h⟩
  case yawSample a b w =>
    exact ⟨_, rfl, fits_event (fun u hu => hu.of_shape ((shape_settle _).trans (shape_yawSample a b w hu.ring))) h⟩
  case supervisionTimerExpiry => exact ⟨_, rfl, fits_react_of_shape shape_supervisionExpires h⟩
  case stringReport k i u bad => exact ⟨_, rfl, fits_react_of_shape (shape_takeReport k i u bad) h⟩
  case prechargeTimeout => exact ⟨_, rfl, fits_react_of_shape (shape_forEach shape_timeoutPrecharge _) h⟩
  case shareInterval => exact ⟨_, rfl, fits_react_of_shape shape_shareInterval h⟩
  case gridSample u => exact ⟨_, rfl, fits_react_of_shape (shape_gridSample u) (h.of_shape rfl)⟩
  case dipListAging => exact ⟨_, rfl, fits_event_of_shape shape_ageDips h⟩
  case rideThroughExceeded => exact ⟨_, rfl, fits_react_of_shape shape_rideThroughEnds h⟩
  case qHoldEnd => exact ⟨_, rfl, fits_event_of_shape shape_qHoldEnds h⟩
  case recoveryTimeout => exact ⟨_, rfl, fits_react_of_shape shape_recoveryTimesOut h⟩
  case overvoltageTimeout => exact ⟨_, rfl, fits_react_of_shape shape_overTimesOut h⟩
  case returnDwellComplete => exact ⟨_, rfl, fits_react_of_shape shape_dwellCompletes h⟩
  case thermalInterval x y => exact ⟨_, rfl, fits_react_of_shape (shape_thermalInterval x y) h⟩
  case inletSubstitute l => exact ⟨_, rfl, fits_event_of_shape (shape_substituteInlet l) h⟩
  case flowSwitchChange l flow =>
    refine ⟨_, rfl, ?_⟩
    split
    · exact fits_react_of_shape (shape_flowChange l flow) h
    · exact h.of_shape (shape_modLoop rfl)
  case flowProofTimeout l => exact ⟨_, rfl, fits_react_of_shape (shape_proofTimeout l) h⟩
  case flowDropTimeout l => exact ⟨_, rfl, fits_react_of_shape (shape_dropTimeout l) h⟩
  case coolingEvaluation a b air x => exact ⟨_, rfl, fits_react_of_shape (shape_coolingEvaluation a b air x) h⟩
  case airSensorSubstitute => exact ⟨_, rfl, fits_react_of_shape shape_airSubstitution h⟩
  case runOnExpiry l => exact ⟨_, rfl, fits_react_of_shape (shape_runOnOf l) h⟩
  case fanFeedbackChange f running =>
    exact ⟨_, rfl, fits_react_of_shape (f := id) (fun _ => rfl) (h.of_shape (shape_modFan f _ s))⟩
  case fanMismatchExpiry f => exact ⟨_, rfl, fits_react_of_shape (shape_fanFails f) h⟩
  case bridgeTimerExpiry => exact ⟨_, rfl, fits_react_of_shape shape_bridgeExpires h⟩
  case normalCountExpiry => exact ⟨_, rfl, fits_react_of_shape shape_normalCountExpires h⟩
  case batteryAccounting => exact ⟨_, rfl, fits_react_of_shape shape_accountBattery h⟩
  case brakeVentExpiry => exact ⟨_, rfl, fits_react_of_shape shape_ventSettles h⟩
  case brakePressurizeExpiry => exact ⟨_, rfl, fits_react_of_shape shape_pressurizeSettles h⟩
  case brakeProofChange p present =>
    exact ⟨_, rfl, fits_event_of_shape (shape_watchProof p present) (h.of_shape (shape_showProof p present s))⟩
  case brakeProofAbsenceExpiry p => exact ⟨_, rfl, fits_react_of_shape (shape_proofLost p) h⟩
  case rampingExpiry => exact ⟨_, rfl, fits_react_of_shape shape_rampSettles h⟩
  case manualTimerExpiry => exact ⟨_, rfl, fits_react_of_shape shape_manualTimeout h⟩
  case restTimerExpiry => exact ⟨_, rfl, fits_event_of_shape (fun _ => shape_modYaw rfl rfl) h⟩
  case driveFeedbackChange c running =>
    exact ⟨_, rfl, fits_react_of_shape (f := id) (fun _ => rfl) (h.of_shape (shape_modYaw rfl (length_updateAt ..)))⟩
  case driveMismatchExpiry c => exact ⟨_, rfl, fits_react_of_shape (shape_driveFails c) h⟩
  case jogButtonPress d =>
    refine ⟨_, rfl, fits_react_of_shape (fun u => ?_) (h.of_shape (shape_holdButton d true s))⟩
    split
    · exact shape_releaseJog _ u
    · exact shape_pressJog d u
  case jogButtonRelease d =>
    exact ⟨_, rfl, fits_react_of_shape (shape_releaseJog d) (h.of_shape (shape_holdButton d false s))⟩
  case encoderUpdate r => exact ⟨_, rfl, fits_react_of_shape (shape_encoderUpdate r) h⟩
  case untwistWaitExpiry => exact ⟨_, rfl, fits_react_of_shape shape_untwistWaitExpires h⟩
  case calmTimerExpiry => exact ⟨_, rfl, fits_react_of_shape shape_calmExpires h⟩
  case idleLimitExpiry => exact ⟨_, rfl, fits_react_of_shape shape_idleLimitExpires h⟩
  case estopChainOpen => exact ⟨_, rfl, fits_react_of_shape shape_estopOpens (h.of_shape rfl)⟩
  case estopChainClose => exact ⟨_, rfl, fits_event_of_shape (shape_clearFault .estop 1) (h.of_shape rfl)⟩
  case keySwitch p => exact ⟨_, rfl, fits_react_of_shape (shape_keyReaches s.lines.key p) (h.of_shape rfl)⟩
  case resetButton => exact ⟨_, rfl, fits_react_of_shape shape_resetPressed h⟩
  case storeCompletion => exact ⟨_, rfl, fits_event_of_shape shape_storeCompletes h⟩
  all_goals exact ⟨_, rfl, fits_event (fun _ => fits_takeFrame _) h⟩

theorem shape_tick (s : State) : shape (tick s) = shape s := by
  simp [shape, sizes, tick, Yaw.tick, LiquidLoop.tick, AirLoop.tick, ModeCtl.tick]

theorem fits_idle {s : State} (h : Fits s) : Fits (idle s) := by
  unfold idle
  split
  · exact h.of_shape (shape_tick s)
  · exact h

/-- Every step keeps them: a command by `fits_exec`, and an idle millisecond by `fits_idle`. -/
theorem fits_step {s t : State} (h : Fits s) (hstep : step s = .next t) : Fits t := by
  unfold step at hstep
  split at hstep
  · obtain rfl := Host.Outcome.next.inj hstep
    exact fits_idle h
  · next c rest _ =>
    obtain ⟨u, hexec, hu⟩ := fits_exec c (s := { s with pending := rest }) ⟨h.link, h.sizes⟩
    obtain rfl := Host.Outcome.next.inj (hexec.symm.trans hstep)
    exact hu

/-- Settles O54: the queues and the sizes by `fits_step`, the fault table by the walk of what the model does to one. -/
theorem stepKeepsSizesAndRoom : Obligations.StepKeepsSizesAndRoom := by
  unfold Obligations.StepKeepsSizesAndRoom
  intro s t h hstep
  obtain ⟨hfits, htable⟩ := (sized_iff s).mp h
  exact (sized_iff t).mpr ⟨fits_step hfits hstep, tableSized_tableKeeps.after_step htable hstep⟩

end Sys2Proof.Machine

/-! SUPPORT. The notices the port takes and the line it stands on: which notice goes first, what a taken one clears, and a port that a break keeps from taking any (R147, R162, R174, R178, R179). -/

namespace Sys2Proof.Machine

/-! ## Notices taken -/

theorem quiet_takeModeNotice (s : State) : Quiet s (takeModeNotice s) :=
  ⟨outside_takeModeNotice s, takeModeNotice_conv s, takeModeNotice_cool s, takeModeNotice_aux s, takeModeNotice_yaw s,
    takeModeNotice_kept s, fun i => by rw [rowAt, takeModeNotice_faults]; rfl⟩

theorem quiet_takeFaultNotice (s : State) : Quiet s (takeFaultNotice s) :=
  ⟨outside_takeFaultNotice s, takeFaultNotice_conv s, takeFaultNotice_cool s, takeFaultNotice_aux s, takeFaultNotice_yaw s,
    congrArg ModeCtl.kept (takeFaultNotice_mode s), fun i => takeFaultNotice_row i s⟩

/-- A ModeNotice that is due enters a queue with room, and its mark and count clear (R147). -/
theorem takeModeNotice_due {s : State} (hmay : mayTakeNotice s = true) (hdue : s.mode.noticeDue = true) :
    (takeModeNotice s).link.outbound = s.link.outbound ++ [⟨modeNotice s, true, false⟩] ∧
    (takeModeNotice s).mode.noticeDue = false ∧ (takeModeNotice s).mode.changeCount = 0 := by
  rw [takeModeNotice, hdue, hmay]
  exact ⟨rfl, rfl, rfl⟩

theorem takeModeNotice_notDue {s : State} (hdue : s.mode.noticeDue = false) : takeModeNotice s = s := by
  rw [takeModeNotice, hdue]
  rfl

/-- A FaultNotice waits for a ModeNotice that is due (R179). -/
theorem takeFaultNotice_waits {s : State} (hdue : s.mode.noticeDue = true) : takeFaultNotice s = s := by
  simp only [takeFaultNotice, hdue, Bool.not_true, Bool.and_false, Bool.false_eq_true, if_false]

/-- The head of the pending order enters a queue with room (R162). -/
theorem takeFaultNotice_head {s : State} {i : Nat} (hhead : pendingHead s = some i) (hmay : mayTakeNotice s = true)
    (hdue : s.mode.noticeDue = false) : takeFaultNotice s = clearPending i (queueNotice (faultNotice s i) s) := by
  simp only [takeFaultNotice, hmay, hdue, hhead, Bool.not_false, Bool.and_self, if_true]

theorem rowAt_clearPending_pending (j i : Nat) (s : State) :
    (rowAt (clearPending j s) i).pending = if j = i then false else (rowAt s i).pending := by
  simp only [rowAt, clearPending, updateAt, List.getD_eq_getElem?_getD, List.getElem?_modify]
  cases s.faults.rows[i]? with
  | none => simp [FaultRow.blank]
  | some r => by_cases h : j = i <;> simp [h]

/-- No notice taken makes a row pending. -/
theorem takeFaultNotice_notPending {i : Nat} {s : State} (h : (rowAt s i).pending = false) :
    (rowAt (takeFaultNotice s) i).pending = false := by
  unfold takeFaultNotice
  split
  · split
    · rw [rowAt_clearPending_pending]
      split
      · rfl
      · exact h
    · exact h
  · exact h

theorem finish_notPending {i : Nat} {s : State} (h : (rowAt s i).pending = false) :
    (rowAt (finish s) i).pending = false := by
  have hnotices (n : Nat) (t : State) (ht : (rowAt t i).pending = false) :
      (rowAt (takeFaultNotices n t) i).pending = false := by
    induction n generalizing t with
    | zero => exact ht
    | succ n ih => exact ih _ (takeFaultNotice_notPending ht)
  refine hnotices 8 _ ?_
  rw [rowAt, takeModeNotice_faults]
  exact h

/-! ## The end of an event -/

theorem quiet_beginEvent (s : State) : Quiet s (beginEvent s) := ⟨rfl, rfl, rfl, rfl, rfl, rfl, fun _ => rfl⟩

/-- An event that does nothing but end is quiet. -/
theorem quiet_finish_begun (s : State) : Quiet s (finish (beginEvent s)) :=
  (quiet_beginEvent s).trans (quiet_finish (beginEvent s))

/-- A frame that the event has queued stands where the event has put it. -/
theorem finish_queued {s : State} {queue : List OutFrame} {f : OutFrame} (h : s.link.outbound = queue ++ [f]) :
    (finish s).link.outbound[queue.length]? = some f := by
  obtain ⟨notices, hout, -⟩ := finish_outbound s
  simp [hout, h]

/-- The end of an event writes nothing of the link but the outbound queue. -/
theorem finish_link {β : Type} {f : Link → β} (hf : ∀ l, f { l with outbound := [] } = f l) (s : State) :
    f (finish s).link = f s.link :=
  outside_field (f := fun u => f u.link) (fun u => hf u.link) (outside_finish s)

theorem finish_mode (s : State) : (finish s).mode = (takeModeNotice (updateMarks s)).mode := takeFaultNotices_mode 8 _

theorem finish_mode_notDue {s : State} (hdue : s.mode.noticeDue = false) : (finish s).mode = (updateMarks s).mode := by
  rw [finish_mode, takeModeNotice_notDue (s := updateMarks s) hdue]

/-- At the end of an event the port takes the ModeNotice that is due, before any FaultNotice (R174, R179). -/
theorem finish_takes_modeNotice {s : State} (hmay : mayTakeNotice s = true) (hdue : s.mode.noticeDue = true) :
    (finish s).link.outbound[s.link.outbound.length]? = some ⟨modeNotice (updateMarks s), true, false⟩ ∧
    (finish s).mode.noticeDue = false ∧ (finish s).mode.changeCount = 0 := by
  obtain ⟨hout, hcleared, hcount⟩ := takeModeNotice_due (s := updateMarks s) hmay hdue
  obtain ⟨notices, hbehind, -⟩ := takeFaultNotices_outbound 8 (takeModeNotice (updateMarks s))
  rw [finish_mode]
  refine ⟨?_, hcleared, hcount⟩
  rw [finish, takeNotices, hbehind, hout]
  simp

/-- While a break is on the port takes no notice. -/
theorem finish_broken {s : State} (h : s.link.breakOn = true) : finish s = updateMarks s := by
  have hmay : mayTakeNotice (updateMarks s) = false := by simp [mayTakeNotice, h]
  have hmode : takeModeNotice (updateMarks s) = updateMarks s := by
    simp only [takeModeNotice, hmay, Bool.and_false, Bool.false_eq_true, if_false]
  have hfault : takeFaultNotice (updateMarks s) = updateMarks s := by
    simp only [takeFaultNotice, hmay, Bool.false_and, Bool.false_eq_true, if_false]
  rw [finish, takeNotices, hmode]
  simp only [takeFaultNotices, hfault]

/-! ## The line -/

/-- With no request waiting there is nothing to serve. -/
theorem pumpAll_empty {s : State} (h : s.link.inbound = []) : pumpAll s = s := by
  simp only [pumpAll, pump, h, ite_self]

theorem exec_frameSent {s : State} (hp : s.powered = true) {f : OutFrame} {rest : List OutFrame}
    (hout : s.link.outbound = f :: rest) (hrestart : f.restart = false) (hin : s.link.inbound = []) :
    exec .frameSent s = .next (finish (beginEvent (modLink (fun l => { l with outbound := rest }) s))) := by
  have hpump : pumpAll (modLink (fun l => { l with outbound := rest }) (beginEvent s)) =
      modLink (fun l => { l with outbound := rest }) (beginEvent s) := pumpAll_empty hin
  show Host.Outcome.next (if s.powered then frameLeaves (beginEvent s) else s) = _
  rw [if_pos hp, frameLeaves]
  simp only [beginEvent_link, hout, hrestart, Bool.false_eq_true, if_false, hpump]
  rfl

/-- A break that no restart follows empties the link, clears LINK_OVERRUN and makes the ModeNotice due, which stays (R178). -/
theorem breakLine_eq {s : State} (hrestart : s.link.restartQueued = false) :
    breakLine s = updateMarks
      { clearFault .linkOverrun 1 (modLink (fun _ => { Link.atStart with breakOn := true }) s) with
        mode := { s.mode with noticeDue := true } } := by
  rw [breakLine, if_neg (by simp [hrestart]), finish_broken rfl]
  rfl

theorem exec_linkBreakEnd {s : State} (hp : s.powered = true) (hin : s.link.inbound = []) :
    exec .linkBreakEnd s = .next (finish (beginEvent (modLink (fun l => { l with breakOn := false })
      (setLines (fun l => { l with lineAtBreak := false }) s)))) := by
  show Host.Outcome.next (event endBreak (setLines (fun l => { l with lineAtBreak := false }) s)) = _
  rw [event, if_pos (by exact hp), endBreak, pumpAll_empty (by exact hin)]
  rfl

/-- Settles O24: a sent frame and the end of a break with nothing to serve, a notice by the port's order, a break by what it
empties; the rest is the end of an event. -/
theorem portEventsAct : Obligations.PortEventsAct := by
  unfold Obligations.PortEventsAct
  intro s hp
  have hevent (f : State → State) : event f s = finish (f (beginEvent s)) := if_pos hp
  refine ⟨fun f rest hout hrestart hin => ?_, fun hmay hdue => ?_, fun i hhead hmay hdue => ?_, fun hmay hdue => ?_,
    fun hrestart => ?_, fun hin => ?_⟩
  · refine ⟨_, exec_frameSent hp hout hrestart hin, finish_outbound _, quiet_finish_begun _⟩
  · obtain ⟨hout, hcleared, hcount⟩ := takeModeNotice_due (s := beginEvent s) hmay hdue
    refine ⟨_, rfl, ?_, ?_, ?_, quiet_event hp ((quiet_beginEvent s).trans (quiet_takeModeNotice _))⟩
    all_goals rw [hevent]
    · exact finish_queued hout
    · rw [finish_mode_notDue hcleared]
      exact hcleared
    · rw [finish_mode_notDue hcleared]
      exact hcount
  · have htaken := takeFaultNotice_head (s := beginEvent s) hhead hmay hdue
    refine ⟨_, rfl, ?_, ?_, quiet_event hp ((quiet_beginEvent s).trans (quiet_takeFaultNotice _))⟩
    all_goals rw [hevent, htaken]
    · exact finish_queued rfl
    · exact finish_notPending (by rw [rowAt_clearPending_pending, if_pos rfl])
  · obtain ⟨hout, hcleared, hcount⟩ := finish_takes_modeNotice (s := beginEvent s) hmay hdue
    refine ⟨_, rfl, ?_, ?_, ?_, quiet_event hp ((quiet_beginEvent s).trans (quiet_takeFaultNotice _))⟩
    all_goals rw [hevent, takeFaultNotice_waits (s := beginEvent s) hdue]
    · exact hout
    · exact hcleared
    · exact hcount
  · have hbroken := breakLine_eq (s := beginEvent (setLines (fun l => { l with lineAtBreak := true }) s)) hrestart
    refine ⟨_, congrArg Host.Outcome.next ((if_pos hp).trans hbroken), rfl, rfl, rfl, ?_⟩
    exact ⟨rfl, rfl, rfl, rfl, rfl, rfl, fun _ => rfl⟩
  · refine ⟨_, exec_linkBreakEnd hp hin, finish_link (f := Link.breakOn) (fun _ => rfl) _, finish_lines _, ?_⟩
    rw [finish_lines]
    exact quiet_finish_begun _

end Sys2Proof.Machine

/-! SUPPORT. The bytes of a frame taken by the parser, 10 µs apart: the last one completes the frame, hunting drops what is not SYNC, and an idle line discards (R168, R169). -/

namespace Sys2Proof.Machine

/-! ## Bytes as the parser holds them -/

/-- Bytes that came one behind the other from a time on, 10 µs each. -/
def heldFrom (start : Nat) (bytes : List Byte) : List HeldByte := bytes.zipIdx.map fun x => ⟨x.1, start + 10 * x.2⟩

theorem heldFrom_concat (start : Nat) (bytes : List Byte) (b : Byte) :
    heldFrom start (bytes ++ [b]) = heldFrom start bytes ++ [⟨b, start + 10 * bytes.length⟩] := by
  simp [heldFrom, List.zipIdx_append]

theorem map_byte_heldFrom (start : Nat) (bytes : List Byte) : (heldFrom start bytes).map HeldByte.byte = bytes := by
  simp [heldFrom, Function.comp_def]

theorem length_heldFrom (start : Nat) (bytes : List Byte) : (heldFrom start bytes).length = bytes.length := by
  simp [heldFrom]

/-! ## A frame as it stands on the line (R168) -/

/-- The bytes that the CRC covers. -/
def coveredBytes (f : Frame) : List Byte := BitVec.ofNat 8 f.body.length :: f.kind :: f.tag :: f.body

theorem wireBytes_eq (f : Frame) : wireBytes f = 0xA5#8 :: coveredBytes f ++ pair (crc16 (coveredBytes f)) := rfl

theorem length_coveredBytes (f : Frame) : (coveredBytes f).length = 3 + f.body.length := by
  simp only [coveredBytes, List.length_cons]
  omega

theorem length_wireBytes (f : Frame) : (wireBytes f).length = 6 + f.body.length := by
  simp only [wireBytes_eq, List.length_append, List.length_cons, length_coveredBytes, pair, List.length_nil]
  omega

/-- The held bytes of a whole frame are judged to be that frame: its LEN is the length of its body, its CRC holds. -/
theorem judgeHeld_wireBytes {f : Frame} (hlen : f.body.length ≤ 240) (start : Nat) :
    judgeHeld (heldFrom start (wireBytes f)) = .accept f := by
  have hbytes := map_byte_heldFrom start (wireBytes f)
  have hcount := (length_heldFrom start (wireBytes f)).trans (length_wireBytes f)
  generalize heldFrom start (wireBytes f) = held at hbytes hcount
  have hheld : heldLength held = f.body.length := by
    rw [heldLength, ← List.getElem?_map, hbytes]
    show (BitVec.ofNat 8 f.body.length).toNat = f.body.length
    rw [BitVec.toNat_ofNat]
    omega
  have hcheck : checkHolds held = true := by
    have hdrop : (wireBytes f).drop (4 + f.body.length) = pair (crc16 (coveredBytes f)) :=
      List.drop_left' ((congrArg (· + 1) (length_coveredBytes f)).trans (by omega))
    have htake : ((wireBytes f).drop 1).take (3 + f.body.length) = coveredBytes f :=
      List.take_left' (length_coveredBytes f)
    simp only [checkHolds, hheld, hbytes, hdrop, htake, decide_true]
  have hframe : frameOf held = f := by
    have hbody : ((wireBytes f).drop 4).take f.body.length = f.body := List.take_left' rfl
    simp only [frameOf, hheld, hbytes, hbody]
    rfl
  rw [judgeHeld, if_neg (by omega), if_neg (by omega), if_neg (by omega), if_pos hcheck, hframe]

/-! ## The parser (R169) -/

theorem parseFrom_nil (fuel : Nat) : parseFrom fuel [] [] = ([], []) := by
  cases fuel <;> rfl

/-- A byte that follows in time and completes a well-formed frame hands it on, and nothing is held. -/
theorem parseByte_accept {held : List HeldByte} {last b : HeldByte} {f : Frame} (hgap : gapBetween last b = false)
    (hjudged : judgeHeld (held ++ [last] ++ [b]) = .accept f) :
    parseByte (held ++ [last]) b = ([.accepted f], []) := by
  obtain ⟨fuel, hfuel⟩ : ∃ fuel, parserFuel ((held ++ [last]).length + 1) = fuel + 1 :=
    ⟨_, (Nat.succ_pred_eq_of_pos (Nat.mul_pos (Nat.succ_pos _) (Nat.succ_pos _))).symm⟩
  rw [parseByte, hfuel, parseFrom]
  simp only [List.getLast?_concat, hgap, hjudged, parseFrom_nil, Bool.false_eq_true, if_false]

/-- Hunting, a SYNC is held and any other byte dropped. -/
theorem parseByte_hunting (b : HeldByte) : parseByte [] b = ([], if b.byte = 0xA5#8 then [b] else []) := by
  show (if b.byte = 0xA5#8 then parseFrom 3 [b] [] else parseFrom 3 [] []) = _
  split <;> rfl

theorem parseGap_one (h : HeldByte) : parseGap 2 [h] = [.discarded] := rfl

/-- The last byte of a frame, 10 µs behind the byte before it, hands the frame on. -/
theorem parseByte_wireBytes {f : Frame} (hlen : f.body.length ≤ 240) (start : Nat) :
    parseByte (heldFrom start (wireBytes f).dropLast)
      ⟨(wireBytes f).getLastD 0, start + 10 * ((wireBytes f).length - 1)⟩ = ([.accepted f], []) := by
  obtain ⟨front, high, low, hwire⟩ : ∃ front high low, wireBytes f = front ++ [high] ++ [low] :=
    ⟨0xA5#8 :: coveredBytes f, _, _, List.append_cons ..⟩
  have hjudged := judgeHeld_wireBytes hlen start
  rw [hwire, heldFrom_concat, heldFrom_concat] at hjudged
  have hlength : (front ++ [high] ++ [low]).length - 1 = (front ++ [high]).length := by simp
  rw [hwire, List.dropLast_concat, List.getLastD_concat, hlength, heldFrom_concat]
  refine parseByte_accept ?_ hjudged
  simp only [gapBetween, List.length_append, List.length_singleton, decide_eq_false_iff_not]
  omega

/-! ## The bytes at the port -/

/-- Settles O23: the last byte of a frame completes it, a byte while hunting and a gap by what the parser makes of them. -/
theorem bytesMakeRequests : Obligations.BytesMakeRequests := by
  unfold Obligations.BytesMakeRequests
  refine ⟨fun s f start hp hlen hheld => ?_, fun s hp => ⟨fun b time hheld => ?_, fun h hheld => ?_⟩⟩
  · have hparsed := parseByte_wireBytes hlen start
    rw [heldFrom, ← hheld] at hparsed
    show Host.Outcome.next (event (takeByte _ _) s) = _
    rw [request, event, event, if_pos hp, if_pos (by exact hp), takeByte, beginEvent_link, hparsed]
    rfl
  · have hexec : exec (.byteArrival b time) s =
        .next (finish (beginEvent (modLink (fun l => { l with held := if b = 0xA5#8 then [⟨b, time⟩] else [] }) s))) := by
      show Host.Outcome.next (event (takeByte b time) s) = _
      rw [event, if_pos hp, takeByte, beginEvent_link, hheld, parseByte_hunting]
      rfl
    refine ⟨_, hexec, ?_, ?_, ?_, quiet_finish_begun _⟩
    · exact finish_link (f := Link.held) (fun _ => rfl) _
    · exact finish_link (f := Link.inbound) (fun _ => rfl) _
    · exact finish_link (f := Link.badFrames) (fun _ => rfl) _
  · have hexec : exec .frameGapTimeout s = .next (finish (beginEvent (modLink (fun l => { l with
        held := [], badFrames := min 65535 (l.badFrames + 1), badSeen := true }) s))) := by
      show Host.Outcome.next (event takeGap s) = _
      rw [event, if_pos hp, takeGap, beginEvent_link, hheld]
      rfl
    refine ⟨_, hexec, ?_, ?_, ?_, quiet_finish_begun _⟩
    · exact finish_link (f := Link.held) (fun _ => rfl) _
    · exact finish_link (f := Link.badFrames) (fun _ => rfl) _
    · exact finish_link (f := Link.badSeen) (fun _ => rfl) _

end Sys2Proof.Machine
